-- ==== Sys2Proof/Word.lean ====
section
/-! DEFINITION. The plain words of the model. Registers of the object dictionary have many widths (8 to 128 bits, and
BLOBs of bytes), so a register's value is held as the natural number its little-endian bytes spell (R15); an address
or an identifier of a fixed width is a natural number below its bound, checked by WellFormed where it is an operand. -/

namespace Sys2Proof

/-- A dictionary value: the number that the object's little-endian bytes spell (R15, R576). -/
abbrev Value := Nat

/-- An instant or a duration in units of 2^-32 ns, the FRAC unit of Tables 2-1 and 2-2. -/
abbrev Ticks := Nat

/-- One byte. -/
abbrev Byte := BitVec 8

end Sys2Proof
end

