-- ==== Sys2Proof/Config.lean ====
section
/-! DEFINITION. What is fixed for the machine: the two parts, the kinds of dictionary object, and the free values that
the spec leaves open (constants with no body). -/

namespace Sys2Proof

/-- The two parts of the family (00_scope.md): the Vangeg telemetry unit and the Shopostra aggregator. -/
inductive Part where
  | vangeg | shopostra
  deriving DecidableEq, Repr

/-- Object types (Table 19-2). -/
inductive ObjType where
  | u8 | u16 | u32 | u64 | i8 | i16 | i32 | i64 | f32 | time | blob
  deriving DecidableEq, Repr

/-- Access kinds (R579). -/
inductive Access where
  | ro | wo | rw | rwc
  deriving DecidableEq, Repr

/-- Which part holds an object. -/
inductive Holder where
  | vangeg | shopostra | both
  deriving DecidableEq, Repr

/-- One row of an object table: name, index range, subindex range, type, access, privilege (highest-numbered level
admitted), holder, and the defaults at a Shopostra and at a Vangeg (one value for all subindices, or one each). -/
structure ObjRow where
  name : String
  lo : Nat
  hi : Nat
  slo : Nat
  shi : Nat
  ty : ObjType
  acc : Access
  priv : Nat
  holder : Holder
  dx : List Nat
  dv : List Nat
  deriving DecidableEq, Repr

/-- Free value n: a value the spec leaves open, drawn from the counter `fresh` of the part that needs it. Nothing
constrains it. -/
opaque Config.freeNat : Nat → Nat

/-- SHA-384 (R531, R561): a function of another standard, not stated by the spec; its value on given bytes is free. -/
opaque Config.sha384 : List Nat → Nat

/-- Whether an ECDSA P-384 signature verifies (R532, R561): a function of another standard; arguments are the key, the
hash and the signature. -/
opaque Config.ecdsaVerifies : Nat → Nat → Nat → Bool

/-- The Glarvakar public key in the boot ROM (R532): not stated by the spec. -/
opaque Config.bootKey : Nat

/-- A header field of ROM library program n that the spec does not state (R384): byte offset of the field. -/
opaque Config.romHeader : Nat → Nat → Nat

/-- Byte i of the ROM library's container n (R386): not stated by the spec. -/
opaque Config.romByte : Nat → Nat → Nat

/-- Byte i of TAN_FN_TABLE, the reference tables of R344. -/
opaque Config.fnTable : Nat → Nat

/-- The result of EXP2, LOG2, RCP or RSQRT (operation code 0x16 to 0x19) for an FP32 input: defined bit for bit by tables
that the spec does not state (R344). -/
opaque Config.fnResult : Nat → Nat → Nat

/-- A lane whose value the spec does not state: operation code, type, and the operands' bits. -/
opaque Config.freeLane : Nat → Nat → List Nat → Nat

/-- Byte i of something whose bytes the spec does not lay out: a number that tells what it is, and its contents. -/
opaque Config.freeByte : Nat → List Nat → Nat → Nat

end Sys2Proof
end

