-- ==== Sys2Proof/Syntax.lean ====
section
/-! DEFINITION. The commands of the block: one constructor of `Instr` per row of spec/opcode_table.json, with the
operands that the row's rule names, and the plain records that operands carry. -/

namespace Sys2Proof

/-- The access path on which a dictionary request arrives (Table 18-1). `upper` is a parent or partner port, `child` a
child port, `firmware` the part's own firmware and session controller (R589). -/
inductive Path where
  | hrp | i3c | mgmt | upper (port : Nat) | child (port : Nat) | firmware
  deriving DecidableEq, Repr

/-- Who asks for a dictionary transaction: path, privilege 0 to 4, PASID (host register port), tag (HRP_REQ_TAG or
REQ_ID) and SOURCE (CONTROL frames, R588). -/
structure Req where
  path : Path
  priv : Nat
  pasid : Nat
  tag : Nat
  source : Nat
  deriving DecidableEq, Repr

/-- Operation codes of a dictionary transaction (Tables 3-2 and 19-4). -/
inductive DictOp where
  | read | write | writeFence | blockRead | fence
  deriving DecidableEq, Repr

/-- A request payload (Table 19-4); `reservedOk` is false when a reserved TYPE, OP or privilege value, or any field
outside its range, is present (R587). -/
structure CtlRequest where
  op : DictOp
  priv : Nat
  logicalMode : Bool
  reqId : Nat
  target : Nat
  targetEpoch : Nat
  depth : Nat
  child : List Nat
  idx : Nat
  sub : Nat
  word : Nat
  count : Nat
  offset : Nat
  data : List Nat
  reservedOk : Bool
  deriving DecidableEq, Repr

/-- A response payload (Table 19-5). -/
structure CtlResponse where
  op : DictOp
  more : Bool
  relayed : Bool
  reqId : Nat
  responder : Nat
  responderPhys : Nat
  abort : Nat
  len : Nat
  resetEpoch : Nat
  idx : Nat
  sub : Nat
  data : Nat
  deriving DecidableEq, Repr

/-- A PTP message as received (R76), with what it tells: a measured offset is in 1/256 ns. `unsupported` uses an option
outside Table 2-8; `lost` says that the master's messages have ceased. -/
inductive PtpMsg where
  | announce (domain clockClass : Nat) (utcOffset : Int)
  | sync (domain : Nat) (offset : Int) (seconds : Nat)
  | delayReq (domain seq : Nat)
  | unsupported
  | lost
  deriving DecidableEq, Repr

/-- The payload of a CONTROL frame, by what it is: a dictionary request or response, a broadcast of the apex, or
another record or message (TYPE or OP, and fields), which its own command acts on. -/
inductive CtlBody where
  | request (q : CtlRequest)
  | response (q : CtlResponse)
  | tempoMode (mode switch : Nat)
  | tempoEpoch (epoch : Nat)
  | assign (phys logical : Nat)
  | castleBind (l s x at_ : Nat)
  | castleCancel (l : Nat)
  | castleAck (l : Nat)
  | other (type : Nat) (fields : List Nat)
  deriving DecidableEq, Repr

/-- A retire record of a trace port (Table 3-5): operations retired, address of the first, redirection and its target. -/
structure RetRec where
  count : Nat
  pc : Nat
  disc : Bool
  tgt : Nat
  deriving DecidableEq, Repr

/-- A data-access record of a trace port (Table 3-5). -/
structure DaRec where
  st : Bool
  size : Nat
  addr : Nat
  data : Nat
  deriving DecidableEq, Repr

/-- What a frame carries: a CONTROL payload, or the DATA payload with the byte count it uses. -/
inductive FrameBody where
  | control (b : CtlBody)
  | data (bytes : List Nat)
  deriving DecidableEq, Repr

/-- A frame as received (Table 6-3): class, queue, FIRST, LAST, LEN, stream tag and epoch, SOURCE, FRAG, LSEQ, whether
HCHK, the FEC and (CONTROL) the end-to-end CRC pass, a credit return, and the payload. -/
structure Frame where
  cls : Nat
  queue : Nat
  first : Bool
  last : Bool
  len : Nat
  stream : Nat
  epoch : Nat
  source : Nat
  frag : Nat
  lseq : Nat
  hchkOk : Bool
  fecOk : Bool
  e2eOk : Bool
  credit : Option (Nat × Nat)
  body : FrameBody
  deriving DecidableEq, Repr

/-- An IDENT payload (Table 6-7). -/
structure Ident where
  kind : Nat
  role : Nat
  flags : Nat
  lane : Nat
  phys : Nat
  logical : Nat
  tray : Nat
  slot : Nat
  credits : List Nat
  deriving DecidableEq, Repr

/-- A firmware image as the checks of R532 see it. Digests stand for the bytes they are computed from. -/
structure Image where
  /-- MAGIC, VERSION and every reserved field are as Table 17-2 states. -/
  formOk : Bool
  stepping : Nat
  secVersion : Nat
  build : Nat
  len : Nat
  coreLen : Nat
  coreHash : Nat
  extHash : Nat
  sig : Nat
  /-- SHA-384 of header bytes 0 to 159, and of bytes 0 to 255. -/
  signedHash : Nat
  headerHash : Nat
  /-- SHA-384 of the core and extension sections as held. -/
  coreDigest : Nat
  extDigest : Nat
  deriving DecidableEq, Repr


/-- The common commands of the I3C bus that the target supports (R140), with the address that an assignment carries. -/
inductive I3cCcc where
  | entdaa (address : Nat) | setdasa (address : Nat) | rstdaa | getpid | getbcr | getdcr | getstatus | getmwl | getmrl | other
  deriving DecidableEq, Repr

/-- The commands of the block, one constructor per row of spec/opcode_table.json. -/
inductive Instr where
  /-- BOARD_CYCLE_START (R69). -/
  | boardCycleStart (p : Part)
  /-- ACTIVE_PARENT_SWITCH (R28). -/
  | activeParentSwitch (p : Part) (own : Bool)
  /-- MIRROR_APEX_TAKEOVER (R445). -/
  | mirrorApexTakeover
  /-- LEVEL_ROLE_WRITE (R24). -/
  | levelRoleWrite (r : Req) (v : Nat)
  /-- LIVE_ASSIGN (R40). -/
  | liveAssign (r : Req) (v role port : Nat)
  /-- CASTLE_SUBMIT (R42). -/
  | castleSubmit (r : Req) (v : Nat) (passed : Bool) (cls : Nat)
  /-- CASTLE_STATE_DELIVERY (R44). -/
  | castleStateDelivery (p : Part) (l : Nat) (entries : List (Nat × List Nat)) (objects : List (Nat × Nat × Nat)) (image : Option (List (Nat × Nat) × List (Nat × Nat)))
  /-- CASTLE_ACK_DEADLINE (R44). -/
  | castleAckDeadline (l : Nat)
  /-- CASTLE_INSTANT (R44). -/
  | castleInstant (p : Part) (l port : Nat)
  /-- TEMPO_MODE_WRITE (R55). -/
  | tempoModeWrite (p : Part) (r : Req) (v : Nat)
  /-- TEMPO_MODE_SWITCH (R57). -/
  | tempoModeSwitch (p : Part)
  /-- TEMPO_EPOCH_WRITE (R54). -/
  | tempoEpochWrite (p : Part) (r : Req) (v : Nat)
  /-- TEMPO_INCR_WRITE (R59). -/
  | tempoIncrWrite (p : Part) (r : Req) (v : Nat)
  /-- TEMPO_STEP (R61). -/
  | tempoStep (p : Part) (r : Req) (v : Nat)
  /-- TEMPO_CMP_ARM (R68). -/
  | tempoCmpArm (p : Part) (r : Req) (n v : Nat)
  /-- TEMPO_CMP_FIRE (R67). -/
  | tempoCmpFire (p : Part) (n : Nat)
  /-- TEMPO_SOURCE_VALID (R72). -/
  | tempoSourceValid (p : Part) (lane : Nat)
  /-- TEMPO_SOURCE_LOST (R72). -/
  | tempoSourceLost (p : Part)
  /-- TEMPO_LOCK (R72). -/
  | tempoLock (p : Part)
  /-- TEMPO_UNLOCK (R72). -/
  | tempoUnlock (p : Part)
  /-- TEMPO_SOURCE_SEL_WRITE (R75). -/
  | tempoSourceSelWrite (r : Req) (v : Nat)
  /-- PTP_MESSAGE_RX (R76). -/
  | ptpMessageRx (port : Nat) (m : PtpMsg)
  /-- PTP_MESSAGE_TX (R77). -/
  | ptpMessageTx (port kind : Nat)
  /-- ESMC_RX (R79). -/
  | esmcRx (ql : Nat)
  /-- PPS_EDGE (R80). -/
  | ppsEdge (t : Nat)
  /-- TEMPO_TOD_WRITE (R80). -/
  | tempoTodWrite (r : Req) (v : Nat)
  /-- TIME_DOWN_SEND (R82). -/
  | timeDownSend (p : Part) (lane : Nat)
  /-- TIME_DOWN_RX (R82). -/
  | timeDownRx (p : Part) (lane kind mode state hops seq a b dwell : Nat)
  /-- TIME_UP_RX (R85). -/
  | timeUpRx (p : Part) (lane kind mode seq : Nat)
  /-- TIME_SOURCE_RETURN (R87). -/
  | timeSourceReturn (p : Part)
  /-- TEMPO_DISAGREEMENT (R89). -/
  | tempoDisagreement (p : Part)
  /-- LINK_ASYM_WRITE (R86). -/
  | linkAsymWrite (p : Part) (r : Req) (sub v : Nat)
  /-- CHORD_EVENT (R91). -/
  | chordEvent (receive : Bool) (msg peer : Nat)
  /-- CHORD_RECORD_RX (R92). -/
  | chordRecordRx (tag source : Nat) (msg : List Nat)
  /-- CHORD_RECORD_EXPIRE (R92). -/
  | chordRecordExpire
  /-- CHORD_FIT (R93). -/
  | chordFit
  /-- HRP_REQUEST (R99). -/
  | hrpRequest (op tag idx sub word data priv pasid : Nat)
  /-- HMW_WRITE_RESPONSE (R106). -/
  | hmwWriteResponse (id resp : Nat)
  /-- HMW_SQUASH_ACK (R107). -/
  | hmwSquashAck
  /-- ERR_REPORT (R424). -/
  | errReport (cls unit addr job : Nat)
  /-- PWR_REQ_RISE (R117). -/
  | pwrReqRise (island : Nat)
  /-- ISLAND_SAVE_COMPLETE (R117). -/
  | islandSaveComplete (island moved : Nat)
  /-- PWR_REQ_FALL (R119). -/
  | pwrReqFall (island : Nat)
  /-- ISLAND_RESTORE_COMPLETE (R119). -/
  | islandRestoreComplete (island : Nat)
  /-- PWR_CLOCK_STOP_TIMEOUT (R120). -/
  | pwrClockStopTimeout (island : Nat)
  /-- TEST_ISO_ACK_RISE (R123). -/
  | testIsoAckRise (block : Nat)
  /-- TEST_ISO_ACK_TIMEOUT (R123). -/
  | testIsoAckTimeout (block : Nat)
  /-- TEST_ISO_ACK_FALL (R124). -/
  | testIsoAckFall (block : Nat)
  /-- VANGEG_COLD_RESET (R131). -/
  | vangegColdReset (timeout : Bool)
  /-- HUB_PLL_LOCK (R131). -/
  | hubPllLock
  /-- WARM_RESET_REQUEST (R132). -/
  | warmResetRequest
  /-- WARM_RESET_SAVE_DONE (R132). -/
  | warmResetSaveDone
  /-- WARM_RESET_RELEASE (R133). -/
  | warmResetRelease
  /-- WARM_RESET_RESTORE_DONE (R133). -/
  | warmResetRestoreDone
  /-- FUSE_PROGRAM_DONE (R137). -/
  | fuseProgramDone (p : Part) (err : Bool)
  /-- I3C_CCC (R140). -/
  | i3cCcc (k : I3cCcc)
  /-- I3C_PRIVATE_WRITE (R141). -/
  | i3cPrivateWrite (bytes : List Nat)
  /-- I3C_PRIVATE_READ (R141). -/
  | i3cPrivateRead
  /-- PAWN_CONFIG_WRITE (R149). -/
  | pawnConfigWrite (r : Req) (cell k v : Nat)
  /-- PAWN_VALUE_WRITE (R153). -/
  | pawnValueWrite (r : Req) (cell k v : Nat)
  /-- PAWN_RELOAD_WRITE (R152). -/
  | pawnReloadWrite (r : Req) (cell k v : Nat)
  /-- PAWN_CELL_OWNER_WRITE (R154). -/
  | pawnCellOwnerWrite (r : Req) (cell v : Nat)
  /-- PAWN_OVERFLOW (R151). -/
  | pawnOverflow (cell k inc : Nat)
  /-- SAMPLE_RECORD_READY (R162). -/
  | sampleRecordReady (block group pc ctx pasid : Nat)
  /-- SAMPLE_CAPTURE_TIMEOUT (R162). -/
  | sampleCaptureTimeout (block group : Nat)
  /-- PAWN_CMD_SUBMIT (R160). -/
  | pawnCmdSubmit (r : Req) (v : Nat)
  /-- PAWN_CMD_START (R159). -/
  | pawnCmdStart
  /-- PAWN_CMD_STOP (R159). -/
  | pawnCmdStop
  /-- PAWN_CMD_RESTART (R159). -/
  | pawnCmdRestart
  /-- PAWN_CMD_CLEAR_OVF (R159). -/
  | pawnCmdClearOvf
  /-- PAWN_LATCH_PERIOD_WRITE (R167). -/
  | pawnLatchPeriodWrite (r : Req) (v : Nat)
  /-- LATCH_PERIOD_CHANGE (R167). -/
  | latchPeriodChange
  /-- LATCH_TICK (R168). -/
  | latchTick
  /-- BW_WINDOW_CLOSE (R180). -/
  | bwWindowClose (window : Nat)
  /-- PAWN_BW_SRC_WRITE (R180). -/
  | pawnBwSrcWrite (r : Req) (window v : Nat)
  /-- DUMP_DEST_ENABLE (R169). -/
  | dumpDestEnable (r : Req) (host : Bool) (v : Nat)
  /-- RING_RPTR_WRITE (R176). -/
  | ringRptrWrite (r : Req) (ring v : Nat)
  /-- RING_WRITES_ANSWERED (R177). -/
  | ringWritesAnswered (ring : Nat)
  /-- MIRROR_WRITE_ANSWERED (R177). -/
  | mirrorWriteAnswered (ring : Nat)
  /-- COUNTER_PARITY_ERROR (R186). -/
  | counterParityError (cell : Nat)
  /-- SAVE_STORE_ECC_ERROR (R187). -/
  | saveStoreEccError (island : Nat)
  /-- IMAGE_BUFFER_PARITY_ERROR (R187). -/
  | imageBufferParityError (host : Bool)
  /-- TRACE_RECORD (R190). -/
  | traceRecord (src : Nat) (ret : Option RetRec) (da : Option DaRec) (ctx pasid : Nat)
  /-- TRACE_FRONT_OVERFLOW_EXIT (R211). -/
  | traceFrontOverflowExit (src : Nat)
  /-- TRACE_PACKET_COMMIT (R191). -/
  | tracePacketCommit (src : Nat)
  /-- TRC_CMP_WRITE (R202). -/
  | trcCmpWrite (r : Req) (cmp sub v : Nat)
  /-- TRC_CMD_SUBMIT (R205). -/
  | trcCmdSubmit (r : Req) (v : Nat)
  /-- TRC_START_EDGE (R206). -/
  | trcStartEdge
  /-- TRC_STOP_EDGE (R206). -/
  | trcStopEdge
  /-- TRC_SRC_CONFIG_WRITE (R207). -/
  | trcSrcConfigWrite (r : Req) (src sub v : Nat)
  /-- TRC_BUF_READ (R210). -/
  | trcBufRead (r : Req) (src : Nat)
  /-- TRACE_FE_PARITY_ERROR (R216). -/
  | traceFeParityError (src : Nat)
  /-- TRACE_BUFFER_ECC_ERROR (R216). -/
  | traceBufferEccError (src seq : Nat)
  /-- SLOT_SCHEDULE (R269). -/
  | slotSchedule (p : Part) (port lane slot : Nat)
  /-- GUARD_WINDOW (R226). -/
  | guardWindow (p : Part) (port lane code : Nat)
  /-- CONTROL_FRAME_RX (R234). -/
  | controlFrameRx (p : Part) (port lane : Nat) (f : Frame) (b : CtlBody)
  /-- DATA_FRAME_RX (R283). -/
  | dataFrameRx (p : Part) (port lane : Nat) (f : Frame) (bytes : List Nat)
  /-- REORDER_GAP_TIMEOUT (R231). -/
  | reorderGapTimeout (p : Part) (port queue : Nat)
  /-- CREDIT_WORD_RX (R241). -/
  | creditWordRx (p : Part) (port queue cum : Nat)
  /-- CREDIT_SYNC_RX (R242). -/
  | creditSyncRx (p : Part) (port lane queue cum : Nat)
  /-- LANE_WORD_RX (R247). -/
  | laneWordRx (p : Part) (port : Nat) (u0 u1 : Bool)
  /-- LANE_WORD_MISSING (R247). -/
  | laneWordMissing (p : Part) (port : Nat)
  /-- LANE_DEGRADE (R247). -/
  | laneDegrade (p : Part) (port lane : Nat) (lost : Bool) (corr uncorr ser : Nat)
  /-- LANE_RESTORE (R248). -/
  | laneRestore (p : Part) (port lane : Nat)
  /-- PORT_ENABLE_WRITE (R243). -/
  | portEnableWrite (p : Part) (r : Req) (port v : Nat)
  /-- TRAINING_LOCK (R244). -/
  | trainingLock (p : Part) (port lane : Nat)
  /-- IDENT_RX (R246). -/
  | identRx (p : Part) (port lane : Nat) (ident : Ident)
  /-- IDENT_PERIODIC_SEND (R245). -/
  | identPeriodicSend (p : Part) (port : Nat)
  /-- PORT_TIME_COMPLETE (R243). -/
  | portTimeComplete (p : Part) (port serial : Nat)
  /-- TRAINING_TIMEOUT (R243). -/
  | trainingTimeout (p : Part) (port : Nat)
  /-- PORT_FAILED_EXPIRY (R243). -/
  | portFailedExpiry (p : Part) (port : Nat)
  /-- PORT_DOWN (R249). -/
  | portDown (p : Part) (port : Nat)
  /-- PORT_CREDITS_WRITE (R240). -/
  | portCreditsWrite (p : Part) (r : Req) (queue v : Nat)
  /-- LASER_INPUT_CHANGE (R224). -/
  | laserInputChange (input state : Nat)
  /-- ENGINE_FAULT (R224). -/
  | engineFault (engine : Nat)
  /-- UNIT_READY (R256). -/
  | unitReady (p : Part) (cls : Nat) (slice : Option Nat) (source port link hmw intr iso : Nat)
  /-- UNIT_RETRY (R260). -/
  | unitRetry (p : Part)
  /-- ISO_BUDGET_ABORT (R264). -/
  | isoBudgetAbort
  /-- BUD_AMOUNT_WRITE (R257). -/
  | budAmountWrite (p : Part) (r : Req) (idx sub v : Nat)
  /-- BUD_SHAPE_WRITE (R274). -/
  | budShapeWrite (p : Part) (r : Req) (port sub v : Nat)
  /-- GCL_SWITCH_SUBMIT (R271). -/
  | gclSwitchSubmit (p : Part) (r : Req) (port v : Nat)
  /-- GCL_SWITCH_CANCEL (R271). -/
  | gclSwitchCancel (p : Part) (r : Req) (port : Nat)
  /-- GCL_SWITCH (R271). -/
  | gclSwitch (p : Part) (port : Nat)
  /-- BUDGET_PARITY_ERROR (R277). -/
  | budgetParityError (p : Part) (cls : Nat)
  /-- GCL_PARITY_ERROR (R277). -/
  | gclParityError (p : Part) (port : Nat)
  /-- STRM_DESC_DATA_WRITE (R285). -/
  | strmDescDataWrite (r : Req) (v : Nat)
  /-- SESSION_OPEN (R286). -/
  | sessionOpen (r : Req) (v : Nat)
  /-- SESSION_HEAD_RX (R288). -/
  | sessionHeadRx (p : Part) (bytes : List Nat) (busy : Bool)
  /-- SESSION_ENTRY_RX (R288). -/
  | sessionEntryRx (p : Part) (session slice : Nat) (bytes : List Nat)
  /-- SESSION_TAG_COPY_RX (R282). -/
  | sessionTagCopyRx (session : Nat) (tags : List (Nat × Nat))
  /-- SESSION_RECEIPT_RX (R290). -/
  | sessionReceiptRx (port session : Nat)
  /-- PREPARE_RESEND_CHECK (R290). -/
  | prepareResendCheck (session : Nat)
  /-- SESSION_ACK_RX (R291). -/
  | sessionAckRx (port session result dies positions refuser : Nat)
  /-- SESSION_ACK_DEADLINE (R291). -/
  | sessionAckDeadline (session : Nat)
  /-- SESSION_DECIDE (R292). -/
  | sessionDecide (session : Nat)
  /-- SESSION_COMMIT_RX (R289). -/
  | sessionCommitRx (p : Part) (session : Nat)
  /-- SESSION_CANCEL_RX (R281). -/
  | sessionCancelRx (p : Part) (session cause : Nat)
  /-- SESSION_QUERY_RX (R288). -/
  | sessionQueryRx (port session : Nat)
  /-- SESSION_ACTIVATE (R289). -/
  | sessionActivate (p : Part) (session : Nat)
  /-- SESSION_ORPHAN_TIMEOUT (R293). -/
  | sessionOrphanTimeout (p : Part) (session : Nat)
  /-- SESSION_CLOSE (R294). -/
  | sessionClose (r : Req) (v : Nat)
  /-- SESSION_CLOSE_RX (R294). -/
  | sessionCloseRx (p : Part) (session stop : Nat)
  /-- SESSION_STOP (R294). -/
  | sessionStop (p : Part) (session : Nat)
  /-- END_RECORD_RX (R294). -/
  | endRecordRx (port tag epoch : Nat)
  /-- DRAIN_TIMEOUT (R294). -/
  | drainTimeout (tag port : Nat)
  /-- ENTRY_DRAINED (R294). -/
  | entryDrained (tag : Nat) (told : Bool)
  /-- DRAIN_DONE_RX (R294). -/
  | drainDoneRx (port session dies timeouts : Nat)
  /-- SESSION_RECORD_EXPIRE (R287). -/
  | sessionRecordExpire (p : Part) (session : Nat)
  /-- RED_DESC_DATA_WRITE (R302). -/
  | redDescDataWrite (r : Req) (v : Nat)
  /-- RED_DESC_COMMIT (R302). -/
  | redDescCommit (r : Req) (v : Nat)
  /-- INTERVAL_DEADLINE (R308). -/
  | intervalDeadline (tag instant : Nat)
  /-- LOG_MIRROR_RX (R331). -/
  | logMirrorRx (stream epoch : Nat) (shard : Bool) (source instant : Nat) (message : List Nat)
  /-- LOG_RECORD_EXPIRE (R330). -/
  | logRecordExpire
  /-- RED_READOUT_READ (R627). -/
  | redReadoutRead (r : Req)
  /-- RED_QUANTILE_READ (R322). -/
  | redQuantileRead (r : Req) (sub : Nat)
  /-- RED_REPLAY_SUBMIT (R333). -/
  | redReplaySubmit (r : Req) (v : Nat) (reachable : Bool)
  /-- REPLAY_RECORDS_DONE (R333). -/
  | replayRecordsDone (records : List (Nat × Nat × List Nat)) (lost : Bool)
  /-- REDUCTION_CELL_FAULT (R335). -/
  | reductionCellFault (cell : Nat) (hit : List (Nat × Nat))
  /-- LOG_CRC_FAILURE (R335). -/
  | logCrcFailure (stream source instant : Nat)
  /-- TANGENT_RUN_START (R359). -/
  | tangentRunStart
  /-- TANGENT_PHASE_START (R355). -/
  | tangentPhaseStart (slot : Nat)
  /-- SLOT_RUN_COMPLETE (R362). -/
  | slotRunComplete (slot : Nat)
  /-- TILE_FAULT (R371). -/
  | tileFault (tile : Nat) (quadrant : Bool)
  /-- PROGRAM_LOAD (R377). -/
  | programLoad (r : Req)
  /-- PROGRAM_UNLOAD (R376). -/
  | programUnload (r : Req)
  /-- TAN_LOAD_DATA_WRITE (R376). -/
  | tanLoadDataWrite (r : Req) (v : Nat)
  /-- TAN_SLOT_SEED_WRITE (R381). -/
  | tanSlotSeedWrite (r : Req) (slot v : Nat)
  /-- SIG_TAP_BEAT (R393). -/
  | sigTapBeat (unit : Nat) (audit : Bool) (bytes : List Nat)
  /-- SIG_STEP_END (R393). -/
  | sigStepEnd (unit job epoch : Nat) (bytes : List Nat)
  /-- ROUND_INPUT_WAIT_TIMEOUT (R397). -/
  | roundInputWaitTimeout (group epoch : Nat)
  /-- SIG_GROUP_WRITE (R395). -/
  | sigGroupWrite (r : Req) (group sub v : Nat)
  /-- ROUND_INPUT_RX (R398). -/
  | roundInputRx (tag port source : Nat) (msg : List Nat)
  /-- ROUND_DEADLINE (R399). -/
  | roundDeadline (tag job group epoch : Nat)
  /-- VERDICT_RECORD_RX (R405). -/
  | verdictRecordRx (p : Part) (record refs : List Nat)
  /-- SIG_CLEAN_JOB_WRITE (R405). -/
  | sigCleanJobWrite (r : Req) (v : Nat)
  /-- SIG_RESUME (R407). -/
  | sigResume (r : Req) (v : Nat)
  /-- AUDIT_REPLAY_END (R415). -/
  | auditReplayEnd (unit : Nat) (bytes : List Nat)
  /-- AUDIT_DEADLINE (R415). -/
  | auditDeadline (unit : Nat)
  /-- MINORITY_QUERY_RX (R416). -/
  | minorityQueryRx (job group epoch : Nat) (refs : List Nat)
  /-- MINORITY_ANSWER_RX (R416). -/
  | minorityAnswerRx (job group epoch die : Nat)
  /-- MINORITY_DEADLINE (R416). -/
  | minorityDeadline (session job : Nat)
  /-- TAINT_MAP_COMPUTE (R418). -/
  | taintMapCompute (session job : Nat) (logs : List (Nat × List (Nat × List Nat × Bool)))
  /-- TAINT_NOTICE_RX (R419). -/
  | taintNoticeRx (job epoch : Nat)
  /-- REPEAT_COMPLETE (R420). -/
  | repeatComplete (unit : Nat) (bytes : List Nat)
  /-- REPEAT_DEADLINE (R420). -/
  | repeatDeadline (unit : Nat)
  /-- CLASS_ENTRY_EXPIRE (R422). -/
  | classEntryExpire
  /-- HEALTH_SAMPLE (R423). -/
  | healthSample (therm : List Int) (volt : List Nat)
  /-- ERROR_REPORT_RX (R427). -/
  | errorReportRx (bytes : List Nat)
  /-- SIG_ACCUMULATOR_PARITY (R429). -/
  | sigAccumulatorParity (unit : Nat) (lost : List Nat)
  /-- ROUND_ECC_ERROR (R429). -/
  | roundEccError (tag job group epoch : Nat) (lost : List Nat)
  /-- HEARTBEAT_RX (R437). -/
  | heartbeatRx (p : Part) (port source : Nat) (bytes : List Nat)
  /-- PARENT_REVOKE_RX (R626). -/
  | parentRevokeRx (port : Nat) (bytes : List Nat)
  /-- LEASE_EXPIRY (R439). -/
  | leaseExpiry (p : Part)
  /-- DEAD_DECLARATION (R443). -/
  | deadDeclaration (port : Nat)
  /-- PARTNER_DEAD_WAIT_END (R444). -/
  | partnerDeadWaitEnd
  /-- LIVE_FENCE_CMD (R447). -/
  | liveFenceCmd (r : Req) (v : Nat)
  /-- FENCE_COMMAND_INSTANT (R447). -/
  | fenceCommandInstant (l at_ : Nat)
  /-- LIVENESS_NOTICE_RX (R452). -/
  | livenessNoticeRx (p : Part) (down : Bool) (bytes : List Nat)
  /-- CONTROL_RESPONSE_RX (R455). -/
  | controlResponseRx (p : Part) (port : Nat) (q : CtlResponse)
  /-- LIVE_GAMBIT (R456). -/
  | liveGambit (r : Req) (v : Nat)
  /-- GAMBIT_RUN (R457). -/
  | gambitRun (kind target tag dur rep start : Nat)
  /-- REHEARSAL_RECORD_RX (R458). -/
  | rehearsalRecordRx (p : Part) (down : Bool) (bytes : List Nat)
  /-- LEASE_PARITY_ERROR (R460). -/
  | leaseParityError
  /-- LIVENESS_STATE_PARITY (R460). -/
  | livenessStateParity (port : Nat)
  /-- FLAG_SNAPSHOT_SUBMIT (R466). -/
  | flagSnapshotSubmit (r : Req) (v : Nat)
  /-- FLAG_STOP_SUBMIT (R466). -/
  | flagStopSubmit (r : Req) (v : Nat)
  /-- FLAG_RESUME_SUBMIT (R466). -/
  | flagResumeSubmit (r : Req) (v : Nat)
  /-- FLAG_CANCEL_SUBMIT (R467). -/
  | flagCancelSubmit (r : Req) (v : Nat)
  /-- FLAG_SYMBOL_SEND (R466). -/
  | flagSymbolSend (id : Nat)
  /-- FLAG_WORD_RX (R464). -/
  | flagWordRx (p : Part) (port lane kind hops id arg : Nat) (crcOk : Bool)
  /-- TRIGGER_COPY_RX (R480). -/
  | triggerCopyRx (id kind t : Nat)
  /-- SNAPSHOT_ACTION (R471). -/
  | snapshotAction (p : Part) (id : Nat)
  /-- STOP_ACTION (R477). -/
  | stopAction (p : Part) (id : Nat)
  /-- RESUME_ACTION (R479). -/
  | resumeAction (p : Part) (id : Nat)
  /-- SNAP_COUNT_RX (R473). -/
  | snapCountRx (p : Part) (port : Nat) (bytes : List Nat)
  /-- CAPTURE_TIMEOUT (R473). -/
  | captureTimeout (p : Part) (port id : Nat)
  /-- SAVED_IMAGE_RX (R478). -/
  | savedImageRx (source : Nat) (values windows : List (Nat × Nat))
  /-- HIST_SEEK (R490). -/
  | histSeek (r : Req) (v : Nat)
  /-- HIST_READ (R491). -/
  | histRead (r : Req) (words : Nat)
  /-- REC_READ (R498). -/
  | recRead (p : Part) (r : Req) (words : Nat)
  /-- EVENT_RECORD_STORE (R497). -/
  | eventRecordStore (p : Part) (sev type : Nat) (payload : List Nat)
  /-- FORWARDED_RECORD_RX (R500). -/
  | forwardedRecordRx (port pos : Nat) (bytes : List Nat)
  /-- FORWARD_ACK_RX (R499). -/
  | forwardAckRx (port pos : Nat)
  /-- FORWARD_RESEND_TIMEOUT (R499). -/
  | forwardResendTimeout (port pos : Nat)
  /-- DIE_COUNTS_RX (R502). -/
  | dieCountsRx (pcycles hours : Nat)
  /-- OPHOURS_TICK (R501). -/
  | ophoursTick (p : Part)
  /-- COUNTERS_JOURNAL_WRITE (R505). -/
  | countersJournalWrite
  /-- PERSIST_COPY (R506). -/
  | persistCopy
  /-- REC_DIE_SET (R503). -/
  | recDieSet (r : Req) (v : Nat)
  /-- EXPORT_SEND (R492). -/
  | exportSend (ring : Option Nat)
  /-- HISTORY_ECC_ERROR (R509). -/
  | historyEccError (ring : Option Nat) (pos addr : Nat)
  /-- NOR_FAILURE (R509). -/
  | norFailure (sector : Nat)
  /-- HBM_STACK_LOSS (R509). -/
  | hbmStackLoss (stack : Nat)
  /-- BIST_TEST_START (R516). -/
  | bistTestStart
  /-- WRAPPER_OP_COMPLETE (R513). -/
  | wrapperOpComplete (value : Nat)
  /-- BIST_STEP_TIMEOUT (R513). -/
  | bistStepTimeout
  /-- BIST_RESULT (R514). -/
  | bistResult
  /-- BIST_REQUEST_SUBMIT (R518). -/
  | bistRequestSubmit (p : Part) (r : Req) (v : Nat)
  /-- BIST_STRESS_TIMEOUT (R519). -/
  | bistStressTimeout (p : Part)
  /-- BIST_PLAN_WRITE (R517). -/
  | bistPlanWrite (r : Req) (block sub v : Nat)
  /-- FUSE_BURN_SUBMIT (R521). -/
  | fuseBurnSubmit (p : Part) (r : Req) (v : Nat)
  /-- ELEMENT_TEST_START (R522). -/
  | elementTestStart (element : Nat)
  /-- ELEMENT_TEST_COMPLETE (R522). -/
  | elementTestComplete (result repair : Nat)
  /-- DIRECTOR_PARITY_ERROR (R526). -/
  | directorParityError (p : Part)
  /-- SX_COLD_RESET (R534). -/
  | sxColdReset (torn : Nat)
  /-- BOOT_CORE_START (R534). -/
  | bootCoreStart
  /-- BOOT_EXTENSION_DONE (R534). -/
  | bootExtensionDone
  /-- RECOVERY_FETCH_RETRY (R536). -/
  | recoveryFetchRetry
  /-- RECOVERY_FETCH_DONE (R537). -/
  | recoveryFetchDone (image : Image)
  /-- UPDATE_FETCH (R538). -/
  | updateFetch (r : Req)
  /-- UPDATE_FETCH_DONE (R538). -/
  | updateFetchDone (image : Image)
  /-- UPDATE_VERIFY (R538). -/
  | updateVerify (r : Req)
  /-- UPDATE_COMMIT (R540). -/
  | updateCommit (r : Req)
  /-- NOR_SECTOR_DONE (R540). -/
  | norSectorDone (same : Bool)
  /-- MANAGEMENT_RESET (R542). -/
  | managementReset (r : Req)
  /-- COLD_RESET_REQUEST (R541). -/
  | coldResetRequest (r : Req)
  /-- SEC_FLOOR_WRITE (R533). -/
  | secFloorWrite (r : Req) (v : Nat)
  /-- MGT_PARAM_COMMIT (R543). -/
  | mgtParamCommit (r : Req) (v : Nat)
  /-- MGT_DATAGRAM_RX (R554). -/
  | mgtDatagramRx (src : List Nat) (q : CtlRequest)
  /-- MGT_LINK_CHANGE (R544). -/
  | mgtLinkChange (port : Nat) (up : Bool)
  /-- SX_CAL_COMMIT (R546). -/
  | sxCalCommit (r : Req) (v : Nat)
  /-- SX_CAL_DATA_WRITE (R546). -/
  | sxCalDataWrite (r : Req) (v : Nat)
  /-- CAL_RECORD_RX (R548). -/
  | calRecordRx (lane : Nat) (fields : List Nat)
  /-- SX_SENSOR_SAMPLE (R549). -/
  | sxSensorSample (therm volt power : List Nat)
  /-- ENGINE_RECOVERY (R610). -/
  | engineRecovery (engine : Nat)
  /-- MGT_SRAM_ECC_ERROR (R551). -/
  | mgtSramEccError (addr : Nat)
  /-- SLICE_BIND (R564). -/
  | sliceBind (r : Req) (slice : Nat)
  /-- SLICE_RESET (R567). -/
  | sliceReset (r : Req) (slice : Nat)
  /-- SLICE_RESET_UNBIND (R567). -/
  | sliceResetUnbind (r : Req) (slice : Nat)
  /-- SLICE_DRAIN_TIMEOUT (R567). -/
  | sliceDrainTimeout (slice : Nat)
  /-- SLICE_RESET_COMPLETE (R567). -/
  | sliceResetComplete (slice : Nat)
  /-- SQUASH_ACK_LATE (R569). -/
  | squashAckLate
  /-- PROT_DRIVER_PASID_WRITE (R565). -/
  | protDriverPasidWrite (r : Req) (v : Nat)
  /-- DBG_CHALLENGE_READ (R561). -/
  | dbgChallengeRead (p : Part) (r : Req)
  /-- DBG_AUTH_SUBMIT (R561). -/
  | dbgAuthSubmit (p : Part) (r : Req) (sig : Nat)
  /-- DBG_AUTH_END (R563). -/
  | dbgAuthEnd (p : Part) (r : Req) (v : Nat)
  /-- DBG_AUTH_EXPIRY (R563). -/
  | dbgAuthExpiry (p : Part)
  /-- DBG_LOCKOUT_END (R563). -/
  | dbgLockoutEnd (p : Part)
  /-- SLICE_TABLE_PARITY (R572). -/
  | sliceTableParity (slice : Nat)
  /-- MATRIX_PARITY_ERROR (R572). -/
  | matrixParityError (p : Part)
  /-- DICT_READ (R583). -/
  | dictRead (p : Part) (r : Req) (idx sub word : Nat)
  /-- DICT_WRITE (R584). -/
  | dictWrite (p : Part) (r : Req) (idx sub word : Nat) (data : List Nat)
  /-- DICT_WRITE_FENCE (R593). -/
  | dictWriteFence (p : Part) (r : Req) (idx sub word : Nat) (data : List Nat)
  /-- DICT_BLOCK_READ (R586). -/
  | dictBlockRead (p : Part) (r : Req) (idx sub word count offset : Nat)
  /-- DICT_FENCE (R594). -/
  | dictFence (p : Part) (r : Req)
  /-- FENCE_REQ_WRITE (R594). -/
  | fenceReqWrite (p : Part) (r : Req) (v : Nat)
  /-- PART_FENCE_COMPLETE (R594). -/
  | partFenceComplete (p : Part)
  /-- STAGING_EXPIRY (R584). -/
  | stagingExpiry (p : Part)
  /-- CONTROL_TIMEOUT (R591). -/
  | controlTimeout (source reqId : Nat)
  /-- REGISTER_WRITE (R579). -/
  | registerWrite (p : Part) (r : Req) (idx sub v : Nat)
  /-- POWER_ON_RESET (R615). -/
  | powerOnReset (kind side pos recovery : Nat)
  /-- RESET_PIN (R615). -/
  | resetPin (kind side pos recovery : Nat)
  /-- REFCLK_LOSS (R601). -/
  | refclkLoss (clk : Nat)
  /-- RAIL_FAULT (R604). -/
  | railFault (site reading : Nat)
  /-- LASER_PRESENCE_CHANGE (R613). -/
  | laserPresenceChange (input : Nat) (absent : Bool)
  /-- BLOCK_CLOCK_EDGE (R150). -/
  | blockClockEdge (block : Nat) (evts : List (Nat × Nat)) (slots : List Nat)
  /-- CLEAN_EPOCH_HOLD_END (R405). -/
  | cleanEpochHoldEnd
  /-- REFCLK_RETURN (R601). -/
  | refclkReturn (clk : Nat)
  /-- RESET_PIN_ASSERT (R616). -/
  | resetPinAssert (porst : Bool)
  /-- VANGEG_RESET_ASSERT (R125). -/
  | vangegResetAssert
  /-- UPDATE_VERIFY_DONE (R538). -/
  | updateVerifyDone
  /-- CALIBRATION_COMMIT_DONE (R546). -/
  | calibrationCommitDone
  /-- RECOVERY_PORT_FALLBACK (R536). -/
  | recoveryPortFallback
  /-- RELAY_RECORD_FREE (R591). -/
  | relayRecordFree (source reqId : Nat)
  deriving DecidableEq, Repr

end Sys2Proof
end

