-- ==== Sys2Proof/Decode.lean ====
section
/-! DEFINITION. The command that a word spells. No row of spec/opcode_table.json gives its command any bits (the commands
of the block are register accesses, frames, pins and instants), so no word spells one. -/

namespace Sys2Proof

/-- The command that a word of the opcode table's bits spells: none, since the table gives no row any bits. -/
def decodeTableWord (_nbits _w : Nat) : Option Instr := none

end Sys2Proof
end

