-- ==== Sys2Proof/Machine/ObjectTable.lean ====
section
/-! DEFINITION. The object dictionary's tables (Tables 1-7, 2-13, 3-13, 4-13, 5-9, 6-9, 7-5, 8-9, 9-8, 10-15,
11-6, 12-12, 12-13, 13-8, 14-8, 15-12, 15-13, 16-7, 17-5, 18-7, 19-9 and 20-9 of spec/), one row each: index
range, subindex range, type, access, privilege, the part that holds it and its default at each part. A default that
the table gives as Integration, Fuse, Strap, Calibration, Manufacture or Per part stands as 0 here: cold reset
writes it. -/

namespace Sys2Proof.Machine

/-- Objects of index block 0x10 (01_fleet.md, 03_vangeg_boundary.md, 19_object_dictionary.md). -/
def objects10 : List ObjRow :=
  [ ⟨"VG_IDENTITY/SX_IDENTITY", 0x1000, 0x1000, 0x00, 0x00, .u8, .ro, 4, .both, [6], [6]⟩,
    ⟨"VG_IDENTITY/SX_IDENTITY", 0x1000, 0x1000, 0x01, 0x01, .u64, .ro, 4, .both, [4049959079179341140], [14433659265895764]⟩,
    ⟨"VG_IDENTITY/SX_IDENTITY", 0x1000, 0x1000, 0x02, 0x02, .u16, .ro, 4, .both, [16689], [16944]⟩,
    ⟨"VG_IDENTITY/SX_IDENTITY", 0x1000, 0x1000, 0x03, 0x03, .u64, .ro, 4, .both, [0], [0]⟩,
    ⟨"VG_IDENTITY/SX_IDENTITY", 0x1000, 0x1000, 0x04, 0x04, .u32, .ro, 4, .both, [1448234055], [1448234055]⟩,
    ⟨"VG_IDENTITY/SX_IDENTITY", 0x1000, 0x1000, 0x05, 0x05, .u16, .ro, 4, .both, [256], [256]⟩,
    ⟨"VG_IDENTITY/SX_IDENTITY", 0x1000, 0x1000, 0x06, 0x06, .u32, .ro, 4, .both, [0], [0]⟩,
    ⟨"VG_DIRECTORY/SX_DIRECTORY", 0x1001, 0x1001, 0x00, 0x00, .blob, .ro, 4, .both, [0], [0]⟩,
    ⟨"VG_PHYS_ADDR/SX_PHYS_ADDR", 0x1010, 0x1010, 0x00, 0x00, .u32, .ro, 4, .both, [0], [0]⟩,
    ⟨"VG_LOGICAL_ADDR/SX_LOGICAL_ADDR", 0x1011, 0x1011, 0x00, 0x00, .u32, .ro, 4, .both, [4294967295], [4294967295]⟩,
    ⟨"SX_LEVEL_ROLE", 0x1012, 0x1012, 0x00, 0x00, .u8, .rw, 0, .shopostra, [0], []⟩,
    ⟨"SX_PAIR_ROLE", 0x1013, 0x1013, 0x00, 0x00, .u8, .ro, 2, .shopostra, [0], []⟩,
    ⟨"SX_REDUNDANT_TRAY", 0x1014, 0x1014, 0x00, 0x00, .u8, .rw, 0, .shopostra, [0], []⟩,
    ⟨"SX_ACTIVE_PARENT", 0x1015, 0x1015, 0x00, 0x00, .u8, .ro, 2, .shopostra, [0], []⟩,
    ⟨"SX_CHILD_COUNT", 0x1016, 0x1016, 0x00, 0x00, .u8, .ro, 2, .shopostra, [0], []⟩,
    ⟨"VG_BLOCK_DESC", 0x1020, 0x1020, 0x00, 0x00, .u8, .ro, 2, .vangeg, [], [0]⟩,
    ⟨"VG_BLOCK_DESC", 0x1020, 0x1020, 0x01, 0x40, .u64, .ro, 2, .vangeg, [], [0]⟩,
    ⟨"VG_ISLAND_COUNT", 0x1021, 0x1021, 0x00, 0x00, .u8, .ro, 2, .vangeg, [], [0]⟩,
    ⟨"VG_HRP_PRIV_CEIL", 0x1022, 0x1022, 0x00, 0x00, .u8, .ro, 2, .vangeg, [], [0]⟩,
    ⟨"VG_FUSE_STATUS", 0x1023, 0x1023, 0x00, 0x00, .u8, .ro, 2, .vangeg, [], [0]⟩,
    ⟨"VG_HMW_FAULTS", 0x1024, 0x1024, 0x00, 0x00, .u32, .rwc, 2, .vangeg, [], [0]⟩,
    ⟨"VG_HMW_SQUASHED", 0x1025, 0x1025, 0x00, 0x00, .u32, .rwc, 2, .vangeg, [], [0]⟩,
    ⟨"VG_EVT_TAG_ERR", 0x1026, 0x1026, 0x00, 0x00, .u32, .rwc, 2, .vangeg, [], [0]⟩,
    ⟨"VG_HRP_DISCARD", 0x1027, 0x1027, 0x00, 0x00, .u32, .rwc, 2, .vangeg, [], [0]⟩,
    ⟨"VG_FENCE/SX_FENCE", 0x1030, 0x1030, 0x00, 0x00, .u8, .ro, 4, .both, [2], [2]⟩,
    ⟨"FENCE_REQ", 0x1030, 0x1030, 0x01, 0x01, .u32, .rw, 4, .both, [0], [0]⟩,
    ⟨"FENCE_DONE", 0x1030, 0x1030, 0x02, 0x02, .u32, .ro, 4, .both, [0], [0]⟩,
    ⟨"SX_CTRL_TIMEOUT", 0x1031, 0x1031, 0x00, 0x00, .u32, .rw, 1, .shopostra, [20000], []⟩,
    ⟨"VG_CTRL_COUNTS/SX_CTRL_COUNTS", 0x1032, 0x1032, 0x00, 0x00, .u8, .ro, 2, .both, [6], [6]⟩,
    ⟨"VG_CTRL_COUNTS/SX_CTRL_COUNTS", 0x1032, 0x1032, 0x01, 0x01, .u64, .rwc, 2, .both, [0], [0]⟩,
    ⟨"VG_CTRL_COUNTS/SX_CTRL_COUNTS", 0x1032, 0x1032, 0x02, 0x02, .u64, .rwc, 2, .both, [0], [0]⟩,
    ⟨"VG_CTRL_COUNTS/SX_CTRL_COUNTS", 0x1032, 0x1032, 0x03, 0x03, .u32, .rwc, 2, .both, [0], [0]⟩,
    ⟨"VG_CTRL_COUNTS/SX_CTRL_COUNTS", 0x1032, 0x1032, 0x04, 0x04, .u32, .rwc, 2, .both, [0], [0]⟩,
    ⟨"VG_CTRL_COUNTS/SX_CTRL_COUNTS", 0x1032, 0x1032, 0x05, 0x05, .u16, .ro, 2, .both, [0], [0]⟩,
    ⟨"VG_CTRL_COUNTS/SX_CTRL_COUNTS", 0x1032, 0x1032, 0x06, 0x06, .u32, .rwc, 2, .both, [0], [0]⟩ ]

/-- Objects of index block 0x11 (03_vangeg_boundary.md, 12_silent_errors.md, 17_management.md, 20_package_and_power.md). -/
def objects11 : List ObjRow :=
  [ ⟨"VG_PWR_STATE", 0x1100, 0x1100, 0x00, 0x00, .u8, .ro, 2, .vangeg, [], [0]⟩,
    ⟨"VG_PWR_STATE", 0x1100, 0x1100, 0x01, 0x20, .u8, .ro, 2, .vangeg, [], [0]⟩,
    ⟨"VG_PWR_SAVE_MAX", 0x1101, 0x1101, 0x00, 0x00, .u32, .ro, 2, .vangeg, [], [0]⟩,
    ⟨"VG_PWR_PROTO_ERR", 0x1102, 0x1102, 0x00, 0x00, .u32, .rwc, 2, .vangeg, [], [0]⟩,
    ⟨"VG_PWR_EARLY_EVT", 0x1103, 0x1103, 0x00, 0x00, .u32, .rwc, 2, .vangeg, [], [0]⟩,
    ⟨"VG_WRST_COUNT", 0x1104, 0x1104, 0x00, 0x00, .u32, .ro, 2, .vangeg, [], [0]⟩,
    ⟨"VG_ISO_REFUSED", 0x1105, 0x1105, 0x00, 0x00, .u32, .rwc, 2, .vangeg, [], [0]⟩,
    ⟨"VG_THERM", 0x1110, 0x1110, 0x00, 0x00, .u8, .ro, 2, .vangeg, [], [64]⟩,
    ⟨"VG_THERM", 0x1110, 0x1110, 0x01, 0x40, .i16, .ro, 2, .vangeg, [], [0]⟩,
    ⟨"VG_VOLT", 0x1111, 0x1111, 0x00, 0x00, .u8, .ro, 2, .vangeg, [], [16]⟩,
    ⟨"VG_VOLT", 0x1111, 0x1111, 0x01, 0x10, .u16, .ro, 2, .vangeg, [], [0]⟩,
    ⟨"VG_VNOM", 0x1112, 0x1112, 0x00, 0x00, .u8, .ro, 1, .vangeg, [], [16]⟩,
    ⟨"VG_VNOM", 0x1112, 0x1112, 0x01, 0x10, .u16, .rw, 1, .vangeg, [], [750]⟩,
    ⟨"VG_THERM_WARN", 0x1113, 0x1113, 0x00, 0x00, .i16, .rw, 1, .vangeg, [], [1520]⟩,
    ⟨"SX_THERM", 0x1120, 0x1120, 0x00, 0x00, .u8, .ro, 2, .shopostra, [32], []⟩,
    ⟨"SX_THERM", 0x1120, 0x1120, 0x01, 0x20, .i16, .ro, 2, .shopostra, [0], []⟩,
    ⟨"SX_VOLT", 0x1121, 0x1121, 0x00, 0x00, .u8, .ro, 2, .shopostra, [24], []⟩,
    ⟨"SX_VOLT", 0x1121, 0x1121, 0x01, 0x18, .u16, .ro, 2, .shopostra, [0], []⟩,
    ⟨"SX_THERM_WARN", 0x1122, 0x1122, 0x00, 0x00, .i16, .rw, 1, .shopostra, [1520], []⟩,
    ⟨"SX_CAL", 0x1130, 0x1130, 0x00, 0x00, .u8, .ro, 0, .shopostra, [5], []⟩,
    ⟨"SX_CAL_DATA", 0x1130, 0x1130, 0x01, 0x01, .u64, .wo, 0, .shopostra, [0], []⟩,
    ⟨"SX_CAL_CURSOR", 0x1130, 0x1130, 0x02, 0x02, .u16, .rw, 0, .shopostra, [0], []⟩,
    ⟨"SX_CAL_COMMIT", 0x1130, 0x1130, 0x03, 0x03, .u8, .wo, 0, .shopostra, [0], []⟩,
    ⟨"SX_CAL_STATUS", 0x1130, 0x1130, 0x04, 0x04, .u8, .ro, 1, .shopostra, [0], []⟩,
    ⟨"SX_CAL_READ", 0x1130, 0x1130, 0x05, 0x05, .blob, .ro, 1, .shopostra, [0], []⟩,
    ⟨"SX_STRAPS", 0x1140, 0x1140, 0x00, 0x00, .u8, .ro, 2, .shopostra, [4], []⟩,
    ⟨"SX_STRAPS", 0x1140, 0x1140, 0x01, 0x01, .u8, .ro, 2, .shopostra, [0], []⟩,
    ⟨"SX_STRAPS", 0x1140, 0x1140, 0x02, 0x02, .u8, .ro, 2, .shopostra, [0], []⟩,
    ⟨"SX_STRAPS", 0x1140, 0x1140, 0x03, 0x03, .u32, .ro, 2, .shopostra, [0], []⟩,
    ⟨"SX_STRAPS", 0x1140, 0x1140, 0x04, 0x04, .u8, .ro, 2, .shopostra, [0], []⟩,
    ⟨"SX_RESET_CAUSE", 0x1141, 0x1141, 0x00, 0x00, .u8, .ro, 2, .shopostra, [0], []⟩,
    ⟨"SX_THERM_CRIT", 0x1142, 0x1142, 0x00, 0x00, .i16, .rw, 1, .shopostra, [1760], []⟩,
    ⟨"SX_POWER_EST", 0x1143, 0x1143, 0x00, 0x00, .u8, .ro, 2, .shopostra, [8], []⟩,
    ⟨"SX_POWER_EST", 0x1143, 0x1143, 0x01, 0x08, .u32, .ro, 2, .shopostra, [0], []⟩,
    ⟨"SX_ENGINE_STATE", 0x1144, 0x1144, 0x00, 0x00, .u8, .ro, 2, .shopostra, [8], []⟩,
    ⟨"SX_ENGINE_STATE", 0x1144, 0x1144, 0x01, 0x08, .u8, .ro, 2, .shopostra, [0], []⟩ ]

/-- Objects of index block 0x12 (02_tempo.md). -/
def objects12a : List ObjRow :=
  [ ⟨"TEMPO_MODE", 0x1200, 0x1200, 0x00, 0x00, .u8, .rw, 0, .both, [0], [0]⟩,
    ⟨"TEMPO_EPOCH", 0x1201, 0x1201, 0x00, 0x00, .u64, .rw, 0, .shopostra, [0], []⟩,
    ⟨"TEMPO_NOW", 0x1202, 0x1202, 0x00, 0x00, .time, .ro, 4, .both, [0], [0]⟩,
    ⟨"TEMPO_CYCLE", 0x1203, 0x1203, 0x00, 0x00, .u16, .ro, 4, .both, [0], [0]⟩,
    ⟨"TEMPO_INCR", 0x1204, 0x1204, 0x00, 0x00, .u64, .rw, 1, .both, [4294967296], [4294967296]⟩,
    ⟨"TEMPO_NOMINAL_INCR", 0x1205, 0x1205, 0x00, 0x00, .u64, .ro, 2, .both, [4294967296], [4294967296]⟩,
    ⟨"TEMPO_SERVO_MODE", 0x1206, 0x1206, 0x00, 0x00, .u8, .rw, 1, .both, [0], [0]⟩,
    ⟨"TEMPO_STEP", 0x1207, 0x1207, 0x00, 0x00, .i64, .wo, 0, .both, [0], [0]⟩,
    ⟨"TEMPO_STEP_LIMIT", 0x1208, 0x1208, 0x00, 0x00, .u32, .rw, 1, .both, [1000], [1000]⟩,
    ⟨"TEMPO_STATE", 0x1209, 0x1209, 0x00, 0x00, .u8, .ro, 4, .both, [0], [0]⟩,
    ⟨"TEMPO_OFFSET", 0x120A, 0x120A, 0x00, 0x00, .i64, .ro, 2, .both, [0], [0]⟩,
    ⟨"TEMPO_SLEW_REMAIN", 0x120B, 0x120B, 0x00, 0x00, .i64, .ro, 2, .both, [0], [0]⟩,
    ⟨"TEMPO_HOLDOVER_MS", 0x120C, 0x120C, 0x00, 0x00, .u32, .ro, 2, .both, [0], [0]⟩,
    ⟨"TEMPO_SOURCE_SEL", 0x120D, 0x120D, 0x00, 0x00, .u8, .rw, 1, .shopostra, [0], []⟩,
    ⟨"TEMPO_SOURCE_ACTIVE", 0x120E, 0x120E, 0x00, 0x00, .u8, .ro, 2, .both, [0], [0]⟩,
    ⟨"TEMPO_TOD", 0x120F, 0x120F, 0x00, 0x00, .time, .wo, 0, .shopostra, [0], []⟩,
    ⟨"TEMPO_CMP", 0x1210, 0x1210, 0x00, 0x00, .u8, .ro, 2, .both, [16], [16]⟩,
    ⟨"TEMPO_CMP", 0x1210, 0x1210, 0x01, 0x10, .time, .rw, 2, .both, [0], [0]⟩,
    ⟨"TEMPO_CMP_STATUS", 0x1211, 0x1211, 0x00, 0x00, .u8, .ro, 2, .both, [16], [16]⟩,
    ⟨"TEMPO_CMP_STATUS", 0x1211, 0x1211, 0x01, 0x10, .u8, .ro, 2, .both, [0], [0]⟩,
    ⟨"TEMPO_MODE_SKEW", 0x1212, 0x1212, 0x00, 0x00, .u32, .rwc, 1, .both, [0], [0]⟩,
    ⟨"TEMPO_LINK_DELAY", 0x1220, 0x1220, 0x00, 0x00, .u8, .ro, 2, .both, [48], [2]⟩,
    ⟨"TEMPO_LINK_DELAY", 0x1220, 0x1220, 0x01, 0x30, .i32, .ro, 2, .both, [0], [0]⟩,
    ⟨"TEMPO_LINK_ASYM", 0x1221, 0x1221, 0x00, 0x00, .u8, .ro, 2, .both, [48], [2]⟩,
    ⟨"TEMPO_LINK_ASYM", 0x1221, 0x1221, 0x01, 0x30, .i32, .rw, 1, .both, [0], [0]⟩,
    ⟨"TEMPO_PARENT_DIFF", 0x1222, 0x1222, 0x00, 0x00, .i64, .ro, 2, .both, [0], [0]⟩,
    ⟨"TEMPO_PTP_DOMAIN", 0x1230, 0x1230, 0x00, 0x00, .u8, .rw, 1, .both, [24], [24]⟩,
    ⟨"TEMPO_PTP_PORT_ROLE", 0x1231, 0x1231, 0x00, 0x00, .u8, .ro, 1, .both, [2], [2]⟩,
    ⟨"TEMPO_PTP_PORT_ROLE", 0x1231, 0x1231, 0x01, 0x02, .u8, .rw, 1, .both, [0], [0]⟩,
    ⟨"TEMPO_PTP_LOCAL_PRIORITY", 0x1232, 0x1232, 0x00, 0x00, .u8, .rw, 1, .both, [128], [128]⟩,
    ⟨"TEMPO_UTC_OFFSET", 0x1233, 0x1233, 0x00, 0x00, .i16, .ro, 4, .both, [0], [0]⟩,
    ⟨"TEMPO_SYNCE_QL", 0x1234, 0x1234, 0x00, 0x00, .u8, .ro, 2, .both, [15], [15]⟩,
    ⟨"TEMPO_CLKOUT_SEL", 0x1235, 0x1235, 0x00, 0x00, .u8, .rw, 1, .both, [0], [0]⟩,
    ⟨"TEMPO_HOLDOVER_SPEC", 0x1236, 0x1236, 0x00, 0x00, .u32, .rw, 1, .both, [5000], [5000]⟩,
    ⟨"TEMPO_PTP_DISCARDS", 0x1237, 0x1237, 0x00, 0x00, .u32, .rwc, 2, .both, [0], [0]⟩,
    ⟨"TEMPO_PPS_REJECT", 0x1238, 0x1238, 0x00, 0x00, .u32, .rwc, 2, .both, [0], [0]⟩,
    ⟨"TEMPO_CHORD_ENABLE", 0x1240, 0x1240, 0x00, 0x00, .u8, .rw, 1, .both, [0], [0]⟩,
    ⟨"TEMPO_CHORD_WINDOW", 0x1241, 0x1241, 0x00, 0x00, .u16, .rw, 1, .both, [8000], [8000]⟩,
    ⟨"TEMPO_CHORD_SAMPLE", 0x1242, 0x1242, 0x00, 0x00, .u8, .rw, 1, .both, [0], [0]⟩,
    ⟨"TEMPO_CHORD_FAULT", 0x1243, 0x1243, 0x00, 0x00, .u32, .rw, 1, .both, [1280], [1280]⟩ ]

/-- Objects of index block 0x12 (02_tempo.md). -/
def objects12b : List ObjRow :=
  [ ⟨"TEMPO_CHORD_RESULT", 0x1244, 0x1244, 0x00, 0x00, .blob, .ro, 1, .both, [0], [0]⟩,
    ⟨"TEMPO_CHORD_FAULTS", 0x1245, 0x1245, 0x00, 0x00, .u32, .rwc, 1, .both, [0], [0]⟩ ]

/-- Objects of index block 0x13 (06_links.md). -/
def objects13 : List ObjRow :=
  [ ⟨"PORT_STATE", 0x1300, 0x1300, 0x00, 0x00, .u8, .ro, 4, .both, [48], [1]⟩,
    ⟨"PORT_STATE", 0x1300, 0x1300, 0x01, 0x30, .u8, .ro, 4, .both, [0], [0]⟩,
    ⟨"PORT_ENABLE", 0x1301, 0x1301, 0x00, 0x00, .u8, .ro, 1, .both, [48], [1]⟩,
    ⟨"PORT_ENABLE", 0x1301, 0x1301, 0x01, 0x30, .u8, .rw, 1, .both, [1], [1]⟩,
    ⟨"PORT_FAIL_CAUSE", 0x1302, 0x1302, 0x00, 0x00, .u8, .ro, 2, .both, [48], [1]⟩,
    ⟨"PORT_FAIL_CAUSE", 0x1302, 0x1302, 0x01, 0x30, .u8, .ro, 2, .both, [0], [0]⟩,
    ⟨"PORT_LANE_USABLE", 0x1303, 0x1303, 0x00, 0x00, .u8, .ro, 2, .both, [96], [2]⟩,
    ⟨"PORT_LANE_USABLE", 0x1303, 0x1303, 0x01, 0x60, .u8, .ro, 2, .both, [0], [0]⟩,
    ⟨"PORT_FEC_CORR", 0x1304, 0x1304, 0x00, 0x00, .u8, .ro, 2, .both, [96], [2]⟩,
    ⟨"PORT_FEC_CORR", 0x1304, 0x1304, 0x01, 0x60, .u64, .rwc, 2, .both, [0], [0]⟩,
    ⟨"PORT_FEC_UNCORR", 0x1305, 0x1305, 0x00, 0x00, .u8, .ro, 2, .both, [96], [2]⟩,
    ⟨"PORT_FEC_UNCORR", 0x1305, 0x1305, 0x01, 0x60, .u64, .rwc, 2, .both, [0], [0]⟩,
    ⟨"PORT_SYM_ERR", 0x1306, 0x1306, 0x00, 0x00, .u8, .ro, 2, .both, [96], [2]⟩,
    ⟨"PORT_SYM_ERR", 0x1306, 0x1306, 0x01, 0x60, .u64, .rwc, 2, .both, [0], [0]⟩,
    ⟨"PORT_DEGRADE_SER", 0x1307, 0x1307, 0x00, 0x00, .u32, .rw, 1, .both, [2000], [2000]⟩,
    ⟨"PORT_DEGRADE_UNCORR", 0x1308, 0x1308, 0x00, 0x00, .u16, .rw, 1, .both, [4], [4]⟩,
    ⟨"PORT_RX_DISCARD", 0x1309, 0x1309, 0x00, 0x00, .u8, .ro, 2, .both, [48], [1]⟩,
    ⟨"PORT_RX_DISCARD", 0x1309, 0x1309, 0x01, 0x30, .u64, .rwc, 2, .both, [0], [0]⟩,
    ⟨"PORT_SEQ_GAP", 0x130A, 0x130A, 0x00, 0x00, .u8, .ro, 2, .both, [48], [1]⟩,
    ⟨"PORT_SEQ_GAP", 0x130A, 0x130A, 0x01, 0x30, .u64, .rwc, 2, .both, [0], [0]⟩,
    ⟨"PORT_MSG_DISCARD", 0x130B, 0x130B, 0x00, 0x00, .u8, .ro, 2, .both, [48], [1]⟩,
    ⟨"PORT_MSG_DISCARD", 0x130B, 0x130B, 0x01, 0x30, .u64, .rwc, 2, .both, [0], [0]⟩,
    ⟨"PORT_E2E_FAIL", 0x130C, 0x130C, 0x00, 0x00, .u8, .ro, 2, .both, [48], [1]⟩,
    ⟨"PORT_E2E_FAIL", 0x130C, 0x130C, 0x01, 0x30, .u64, .rwc, 2, .both, [0], [0]⟩,
    ⟨"PORT_STALE_FRAMES", 0x130D, 0x130D, 0x00, 0x00, .u8, .ro, 2, .both, [48], [1]⟩,
    ⟨"PORT_STALE_FRAMES", 0x130D, 0x130D, 0x01, 0x30, .u64, .rwc, 2, .both, [0], [0]⟩,
    ⟨"PORT_RETRAIN", 0x130E, 0x130E, 0x00, 0x00, .u8, .ro, 2, .both, [48], [1]⟩,
    ⟨"PORT_RETRAIN", 0x130E, 0x130E, 0x01, 0x30, .u32, .ro, 2, .both, [0], [0]⟩,
    ⟨"PORT_CREDITS", 0x130F, 0x130F, 0x00, 0x00, .u8, .ro, 1, .both, [8], [8]⟩,
    ⟨"PORT_CREDITS", 0x130F, 0x130F, 0x01, 0x08, .u16, .rw, 1, .both, [256], [64]⟩,
    ⟨"PORT_VIOLATION", 0x1310, 0x1310, 0x00, 0x00, .u8, .ro, 2, .both, [23], [23]⟩,
    ⟨"PORT_VIOLATION", 0x1310, 0x1310, 0x01, 0x17, .u32, .rwc, 2, .both, [0], [0]⟩,
    ⟨"PORT_FLAG_LATENCY", 0x1311, 0x1311, 0x00, 0x00, .u32, .ro, 4, .both, [10240], [10240]⟩,
    ⟨"PORT_PARTNER", 0x1312, 0x1312, 0x00, 0x00, .u8, .ro, 2, .both, [48], [1]⟩,
    ⟨"PORT_PARTNER", 0x1312, 0x1312, 0x01, 0x30, .u32, .ro, 2, .both, [4294967295], [4294967295]⟩,
    ⟨"PORT_LASER_STATE", 0x1313, 0x1313, 0x00, 0x00, .u8, .ro, 2, .shopostra, [2], []⟩,
    ⟨"PORT_LASER_STATE", 0x1313, 0x1313, 0x01, 0x02, .u8, .ro, 2, .shopostra, [0], []⟩ ]

/-- Objects of index block 0x14 (07_budgets_and_shaping.md). -/
def objects14a : List ObjRow :=
  [ ⟨"BUD_HOST_CEIL", 0x1400, 0x1400, 0x00, 0x00, .u8, .ro, 1, .vangeg, [], [3]⟩,
    ⟨"BUD_HOST_CEIL", 0x1400, 0x1400, 0x01, 0x01, .u32, .rw, 1, .vangeg, [], [131072]⟩,
    ⟨"BUD_HOST_CEIL", 0x1400, 0x1400, 0x02, 0x02, .u16, .rw, 1, .vangeg, [], [16]⟩,
    ⟨"BUD_HOST_CEIL", 0x1400, 0x1400, 0x03, 0x03, .u32, .rw, 1, .vangeg, [], [0]⟩,
    ⟨"BUD_POLICY", 0x1401, 0x1401, 0x00, 0x00, .u8, .ro, 1, .both, [8], [8]⟩,
    ⟨"BUD_POLICY", 0x1401, 0x1401, 0x01, 0x08, .u8, .rw, 1, .both, [1, 1, 0, 0, 0, 0, 0, 1], [1, 1, 0, 0, 0, 0, 0, 1]⟩,
    ⟨"BUD_CLASS_QUEUE", 0x1402, 0x1402, 0x00, 0x00, .u8, .ro, 1, .both, [8], [8]⟩,
    ⟨"BUD_CLASS_QUEUE", 0x1402, 0x1402, 0x01, 0x08, .u8, .rw, 1, .both, [3, 5, 6, 2, 0, 1, 4, 4], [3, 5, 6, 2, 0, 1, 4, 4]⟩,
    ⟨"BUD_ISO_RELEASE_NS", 0x1403, 0x1403, 0x00, 0x00, .u32, .rw, 1, .both, [2000], [2000]⟩,
    ⟨"BUD_PORT_DATA_CAP", 0x1404, 0x1404, 0x00, 0x00, .u16, .rw, 0, .both, [9760], [9760]⟩,
    ⟨"BUD_LOSS", 0x1405, 0x1405, 0x00, 0x00, .u8, .ro, 2, .both, [8], [8]⟩,
    ⟨"BUD_LOSS", 0x1405, 0x1405, 0x01, 0x08, .u64, .rwc, 2, .both, [0], [0]⟩,
    ⟨"BUD_STALL_CYCLES", 0x1406, 0x1406, 0x00, 0x00, .u8, .ro, 2, .both, [8], [8]⟩,
    ⟨"BUD_STALL_CYCLES", 0x1406, 0x1406, 0x01, 0x08, .u64, .rwc, 2, .both, [0], [0]⟩,
    ⟨"BUD_QSAMPLE_PERIOD", 0x1407, 0x1407, 0x00, 0x00, .u16, .rw, 2, .both, [8], [8]⟩,
    ⟨"BUD_CLASS_LIMIT", 0x1410, 0x1417, 0x00, 0x00, .u8, .ro, 1, .both, [4], [4]⟩,
    ⟨"BUD_CLASS_LIMIT", 0x1410, 0x1410, 0x01, 0x01, .u32, .rw, 1, .both, [0], [8]⟩,
    ⟨"BUD_CLASS_LIMIT", 0x1410, 0x1410, 0x02, 0x02, .u32, .rw, 1, .both, [0], [0]⟩,
    ⟨"BUD_CLASS_LIMIT", 0x1410, 0x1410, 0x03, 0x03, .u32, .rw, 1, .both, [0], [0]⟩,
    ⟨"BUD_CLASS_LIMIT", 0x1410, 0x1417, 0x04, 0x04, .u32, .rw, 1, .both, [0], [0]⟩,
    ⟨"BUD_CLASS_LIMIT", 0x1411, 0x1411, 0x01, 0x01, .u32, .rw, 1, .both, [0], [4000]⟩,
    ⟨"BUD_CLASS_LIMIT", 0x1411, 0x1411, 0x02, 0x02, .u32, .rw, 1, .both, [0], [32768]⟩,
    ⟨"BUD_CLASS_LIMIT", 0x1411, 0x1411, 0x03, 0x03, .u32, .rw, 1, .both, [0], [4]⟩,
    ⟨"BUD_CLASS_LIMIT", 0x1412, 0x1412, 0x01, 0x01, .u32, .rw, 1, .both, [0], [2000]⟩,
    ⟨"BUD_CLASS_LIMIT", 0x1412, 0x1412, 0x02, 0x02, .u32, .rw, 1, .both, [0], [16384]⟩,
    ⟨"BUD_CLASS_LIMIT", 0x1412, 0x1412, 0x03, 0x03, .u32, .rw, 1, .both, [0], [4]⟩,
    ⟨"BUD_CLASS_LIMIT", 0x1413, 0x1413, 0x01, 0x01, .u32, .rw, 1, .both, [0], [1000]⟩,
    ⟨"BUD_CLASS_LIMIT", 0x1413, 0x1413, 0x02, 0x02, .u32, .rw, 1, .both, [0], [0]⟩,
    ⟨"BUD_CLASS_LIMIT", 0x1413, 0x1413, 0x03, 0x03, .u32, .rw, 1, .both, [0], [0]⟩,
    ⟨"BUD_CLASS_LIMIT", 0x1414, 0x1414, 0x01, 0x01, .u32, .rw, 1, .both, [400], [400]⟩,
    ⟨"BUD_CLASS_LIMIT", 0x1414, 0x1414, 0x02, 0x02, .u32, .rw, 1, .both, [0], [0]⟩,
    ⟨"BUD_CLASS_LIMIT", 0x1414, 0x1414, 0x03, 0x03, .u32, .rw, 1, .both, [0], [0]⟩,
    ⟨"BUD_CLASS_LIMIT", 0x1415, 0x1415, 0x01, 0x01, .u32, .rw, 1, .both, [400], [400]⟩,
    ⟨"BUD_CLASS_LIMIT", 0x1415, 0x1415, 0x02, 0x02, .u32, .rw, 1, .both, [0], [0]⟩,
    ⟨"BUD_CLASS_LIMIT", 0x1415, 0x1415, 0x03, 0x03, .u32, .rw, 1, .both, [0], [0]⟩,
    ⟨"BUD_CLASS_LIMIT", 0x1416, 0x1416, 0x01, 0x01, .u32, .rw, 1, .both, [0], [16]⟩,
    ⟨"BUD_CLASS_LIMIT", 0x1416, 0x1416, 0x02, 0x02, .u32, .rw, 1, .both, [0], [0]⟩,
    ⟨"BUD_CLASS_LIMIT", 0x1416, 0x1416, 0x03, 0x03, .u32, .rw, 1, .both, [0], [0]⟩,
    ⟨"BUD_CLASS_LIMIT", 0x1417, 0x1417, 0x01, 0x01, .u32, .rw, 1, .both, [0], [16]⟩,
    ⟨"BUD_CLASS_LIMIT", 0x1417, 0x1417, 0x02, 0x02, .u32, .rw, 1, .both, [0], [0]⟩ ]

/-- Objects of index block 0x14 (07_budgets_and_shaping.md). -/
def objects14b : List ObjRow :=
  [ ⟨"BUD_CLASS_LIMIT", 0x1417, 0x1417, 0x03, 0x03, .u32, .rw, 1, .both, [0], [0]⟩,
    ⟨"BUD_PROFILE", 0x1418, 0x141F, 0x00, 0x00, .u8, .ro, 1, .both, [32], [32]⟩,
    ⟨"BUD_PROFILE", 0x1418, 0x141F, 0x01, 0x20, .u32, .rw, 1, .both, [0], [0]⟩,
    ⟨"BUD_SLICE_ATTR", 0x1420, 0x1420, 0x00, 0x00, .u8, .ro, 2, .vangeg, [], [64]⟩,
    ⟨"BUD_SLICE_ATTR", 0x1420, 0x1420, 0x01, 0x40, .u8, .rw, 2, .vangeg, [], [0]⟩,
    ⟨"BUD_USED_LAST", 0x1421, 0x1421, 0x00, 0x00, .u8, .ro, 2, .both, [32], [32]⟩,
    ⟨"BUD_USED_LAST", 0x1421, 0x1421, 0x01, 0x20, .u32, .ro, 2, .both, [0], [0]⟩,
    ⟨"BUD_SHAPE", 0x1430, 0x145F, 0x00, 0x00, .u8, .ro, 1, .both, [64], [64]⟩,
    ⟨"BUD_SHAPE RATE", 0x1430, 0x145F, 0x01, 0x01, .u32, .rw, 1, .both, [400000], [400000]⟩,
    ⟨"BUD_SHAPE BURST", 0x1430, 0x145F, 0x02, 0x02, .u32, .rw, 1, .both, [65536], [65536]⟩,
    ⟨"BUD_SHAPE MODE", 0x1430, 0x145F, 0x03, 0x03, .u8, .rw, 1, .both, [0], [0]⟩,
    ⟨"BUD_SHAPE WEIGHT", 0x1430, 0x145F, 0x04, 0x04, .u8, .rw, 1, .both, [0], [0]⟩,
    ⟨"BUD_SHAPE BUCKET", 0x1430, 0x145F, 0x05, 0x05, .i64, .ro, 2, .both, [0], [0]⟩,
    ⟨"BUD_SHAPE DEPTH", 0x1430, 0x145F, 0x06, 0x06, .u32, .ro, 2, .both, [0], [0]⟩,
    ⟨"BUD_SHAPE DEPTH_MAX", 0x1430, 0x145F, 0x07, 0x07, .u32, .rwc, 2, .both, [0], [0]⟩,
    ⟨"BUD_SHAPE DELAY_MAX", 0x1430, 0x145F, 0x08, 0x08, .u32, .rwc, 2, .both, [0], [0]⟩,
    ⟨"BUD_SHAPE RATE", 0x1430, 0x145F, 0x09, 0x09, .u32, .rw, 1, .both, [400000], [400000]⟩,
    ⟨"BUD_SHAPE BURST", 0x1430, 0x145F, 0x0A, 0x0A, .u32, .rw, 1, .both, [65536], [65536]⟩,
    ⟨"BUD_SHAPE MODE", 0x1430, 0x145F, 0x0B, 0x0B, .u8, .rw, 1, .both, [0], [0]⟩,
    ⟨"BUD_SHAPE WEIGHT", 0x1430, 0x145F, 0x0C, 0x0C, .u8, .rw, 1, .both, [0], [0]⟩,
    ⟨"BUD_SHAPE BUCKET", 0x1430, 0x145F, 0x0D, 0x0D, .i64, .ro, 2, .both, [0], [0]⟩,
    ⟨"BUD_SHAPE DEPTH", 0x1430, 0x145F, 0x0E, 0x0E, .u32, .ro, 2, .both, [0], [0]⟩,
    ⟨"BUD_SHAPE DEPTH_MAX", 0x1430, 0x145F, 0x0F, 0x0F, .u32, .rwc, 2, .both, [0], [0]⟩,
    ⟨"BUD_SHAPE DELAY_MAX", 0x1430, 0x145F, 0x10, 0x10, .u32, .rwc, 2, .both, [0], [0]⟩,
    ⟨"BUD_SHAPE RATE", 0x1430, 0x145F, 0x11, 0x11, .u32, .rw, 1, .both, [400000], [400000]⟩,
    ⟨"BUD_SHAPE BURST", 0x1430, 0x145F, 0x12, 0x12, .u32, .rw, 1, .both, [65536], [65536]⟩,
    ⟨"BUD_SHAPE MODE", 0x1430, 0x145F, 0x13, 0x13, .u8, .rw, 1, .both, [0], [0]⟩,
    ⟨"BUD_SHAPE WEIGHT", 0x1430, 0x145F, 0x14, 0x14, .u8, .rw, 1, .both, [0], [0]⟩,
    ⟨"BUD_SHAPE BUCKET", 0x1430, 0x145F, 0x15, 0x15, .i64, .ro, 2, .both, [0], [0]⟩,
    ⟨"BUD_SHAPE DEPTH", 0x1430, 0x145F, 0x16, 0x16, .u32, .ro, 2, .both, [0], [0]⟩,
    ⟨"BUD_SHAPE DEPTH_MAX", 0x1430, 0x145F, 0x17, 0x17, .u32, .rwc, 2, .both, [0], [0]⟩,
    ⟨"BUD_SHAPE DELAY_MAX", 0x1430, 0x145F, 0x18, 0x18, .u32, .rwc, 2, .both, [0], [0]⟩,
    ⟨"BUD_SHAPE RATE", 0x1430, 0x145F, 0x19, 0x19, .u32, .rw, 1, .both, [4294967295], [4294967295]⟩,
    ⟨"BUD_SHAPE BURST", 0x1430, 0x145F, 0x1A, 0x1A, .u32, .rw, 1, .both, [65536], [65536]⟩,
    ⟨"BUD_SHAPE MODE", 0x1430, 0x145F, 0x1B, 0x1B, .u8, .rw, 1, .both, [0], [0]⟩,
    ⟨"BUD_SHAPE WEIGHT", 0x1430, 0x145F, 0x1C, 0x1C, .u8, .rw, 1, .both, [4], [4]⟩,
    ⟨"BUD_SHAPE BUCKET", 0x1430, 0x145F, 0x1D, 0x1D, .i64, .ro, 2, .both, [0], [0]⟩,
    ⟨"BUD_SHAPE DEPTH", 0x1430, 0x145F, 0x1E, 0x1E, .u32, .ro, 2, .both, [0], [0]⟩,
    ⟨"BUD_SHAPE DEPTH_MAX", 0x1430, 0x145F, 0x1F, 0x1F, .u32, .rwc, 2, .both, [0], [0]⟩,
    ⟨"BUD_SHAPE DELAY_MAX", 0x1430, 0x145F, 0x20, 0x20, .u32, .rwc, 2, .both, [0], [0]⟩ ]

/-- Objects of index block 0x14 (07_budgets_and_shaping.md). -/
def objects14c : List ObjRow :=
  [ ⟨"BUD_SHAPE RATE", 0x1430, 0x145F, 0x21, 0x21, .u32, .rw, 1, .both, [4294967295], [4294967295]⟩,
    ⟨"BUD_SHAPE BURST", 0x1430, 0x145F, 0x22, 0x22, .u32, .rw, 1, .both, [65536], [65536]⟩,
    ⟨"BUD_SHAPE MODE", 0x1430, 0x145F, 0x23, 0x23, .u8, .rw, 1, .both, [0], [0]⟩,
    ⟨"BUD_SHAPE WEIGHT", 0x1430, 0x145F, 0x24, 0x24, .u8, .rw, 1, .both, [4], [4]⟩,
    ⟨"BUD_SHAPE BUCKET", 0x1430, 0x145F, 0x25, 0x25, .i64, .ro, 2, .both, [0], [0]⟩,
    ⟨"BUD_SHAPE DEPTH", 0x1430, 0x145F, 0x26, 0x26, .u32, .ro, 2, .both, [0], [0]⟩,
    ⟨"BUD_SHAPE DEPTH_MAX", 0x1430, 0x145F, 0x27, 0x27, .u32, .rwc, 2, .both, [0], [0]⟩,
    ⟨"BUD_SHAPE DELAY_MAX", 0x1430, 0x145F, 0x28, 0x28, .u32, .rwc, 2, .both, [0], [0]⟩,
    ⟨"BUD_SHAPE RATE", 0x1430, 0x145F, 0x29, 0x29, .u32, .rw, 1, .both, [4294967295], [4294967295]⟩,
    ⟨"BUD_SHAPE BURST", 0x1430, 0x145F, 0x2A, 0x2A, .u32, .rw, 1, .both, [65536], [65536]⟩,
    ⟨"BUD_SHAPE MODE", 0x1430, 0x145F, 0x2B, 0x2B, .u8, .rw, 1, .both, [0], [0]⟩,
    ⟨"BUD_SHAPE WEIGHT", 0x1430, 0x145F, 0x2C, 0x2C, .u8, .rw, 1, .both, [4], [4]⟩,
    ⟨"BUD_SHAPE BUCKET", 0x1430, 0x145F, 0x2D, 0x2D, .i64, .ro, 2, .both, [0], [0]⟩,
    ⟨"BUD_SHAPE DEPTH", 0x1430, 0x145F, 0x2E, 0x2E, .u32, .ro, 2, .both, [0], [0]⟩,
    ⟨"BUD_SHAPE DEPTH_MAX", 0x1430, 0x145F, 0x2F, 0x2F, .u32, .rwc, 2, .both, [0], [0]⟩,
    ⟨"BUD_SHAPE DELAY_MAX", 0x1430, 0x145F, 0x30, 0x30, .u32, .rwc, 2, .both, [0], [0]⟩,
    ⟨"BUD_SHAPE RATE", 0x1430, 0x145F, 0x31, 0x31, .u32, .rw, 1, .both, [4294967295], [4294967295]⟩,
    ⟨"BUD_SHAPE BURST", 0x1430, 0x145F, 0x32, 0x32, .u32, .rw, 1, .both, [65536], [65536]⟩,
    ⟨"BUD_SHAPE MODE", 0x1430, 0x145F, 0x33, 0x33, .u8, .rw, 1, .both, [0], [0]⟩,
    ⟨"BUD_SHAPE WEIGHT", 0x1430, 0x145F, 0x34, 0x34, .u8, .rw, 1, .both, [4], [4]⟩,
    ⟨"BUD_SHAPE BUCKET", 0x1430, 0x145F, 0x35, 0x35, .i64, .ro, 2, .both, [0], [0]⟩,
    ⟨"BUD_SHAPE DEPTH", 0x1430, 0x145F, 0x36, 0x36, .u32, .ro, 2, .both, [0], [0]⟩,
    ⟨"BUD_SHAPE DEPTH_MAX", 0x1430, 0x145F, 0x37, 0x37, .u32, .rwc, 2, .both, [0], [0]⟩,
    ⟨"BUD_SHAPE DELAY_MAX", 0x1430, 0x145F, 0x38, 0x38, .u32, .rwc, 2, .both, [0], [0]⟩,
    ⟨"BUD_SHAPE RATE", 0x1430, 0x145F, 0x39, 0x39, .u32, .rw, 1, .both, [4294967295], [4294967295]⟩,
    ⟨"BUD_SHAPE BURST", 0x1430, 0x145F, 0x3A, 0x3A, .u32, .rw, 1, .both, [65536], [65536]⟩,
    ⟨"BUD_SHAPE MODE", 0x1430, 0x145F, 0x3B, 0x3B, .u8, .rw, 1, .both, [0], [0]⟩,
    ⟨"BUD_SHAPE WEIGHT", 0x1430, 0x145F, 0x3C, 0x3C, .u8, .rw, 1, .both, [4], [4]⟩,
    ⟨"BUD_SHAPE BUCKET", 0x1430, 0x145F, 0x3D, 0x3D, .i64, .ro, 2, .both, [0], [0]⟩,
    ⟨"BUD_SHAPE DEPTH", 0x1430, 0x145F, 0x3E, 0x3E, .u32, .ro, 2, .both, [0], [0]⟩,
    ⟨"BUD_SHAPE DEPTH_MAX", 0x1430, 0x145F, 0x3F, 0x3F, .u32, .rwc, 2, .both, [0], [0]⟩,
    ⟨"BUD_SHAPE DELAY_MAX", 0x1430, 0x145F, 0x40, 0x40, .u32, .rwc, 2, .both, [0], [0]⟩,
    ⟨"BUD_GCL_ADMIN", 0x1460, 0x148F, 0x00, 0x00, .u8, .ro, 1, .both, [64], [64]⟩,
    ⟨"BUD_GCL_ADMIN", 0x1460, 0x148F, 0x01, 0x40, .u32, .rw, 1, .both, [33501096], [33501096]⟩,
    ⟨"BUD_GCL_OPER", 0x1490, 0x14BF, 0x00, 0x00, .u8, .ro, 2, .both, [64], [64]⟩,
    ⟨"BUD_GCL_OPER", 0x1490, 0x14BF, 0x01, 0x40, .u32, .ro, 2, .both, [33501096], [33501096]⟩,
    ⟨"BUD_GCL_CTRL", 0x14C0, 0x14EF, 0x00, 0x00, .u8, .ro, 1, .both, [5], [5]⟩,
    ⟨"BUD_GCL_ADMIN_LEN", 0x14C0, 0x14EF, 0x01, 0x01, .u8, .rw, 1, .both, [1], [1]⟩,
    ⟨"BUD_GCL_SWITCH_TIME", 0x14C0, 0x14EF, 0x02, 0x02, .time, .rw, 1, .both, [0], [0]⟩,
    ⟨"BUD_GCL_STATUS", 0x14C0, 0x14EF, 0x03, 0x03, .u8, .ro, 1, .both, [0], [0]⟩ ]

/-- Objects of index block 0x14 (07_budgets_and_shaping.md). -/
def objects14d : List ObjRow :=
  [ ⟨"BUD_GCL_OPER_LEN", 0x14C0, 0x14EF, 0x04, 0x04, .u8, .ro, 2, .both, [1], [1]⟩,
    ⟨"BUD_GCL_SWITCHES", 0x14C0, 0x14EF, 0x05, 0x05, .u32, .ro, 2, .both, [0], [0]⟩ ]

/-- Objects of index block 0x20 (04_counters.md). -/
def objects20 : List ObjRow :=
  [ ⟨"PAWN counter", 0x2000, 0x27FF, 0x00, 0x00, .u8, .ro, 4, .vangeg, [], [4]⟩,
    ⟨"PAWN_VALUE", 0x2000, 0x27FF, 0x01, 0x01, .u64, .rw, 4, .vangeg, [], [0]⟩,
    ⟨"PAWN_CONFIG", 0x2000, 0x27FF, 0x02, 0x02, .u32, .rw, 4, .vangeg, [], [0]⟩,
    ⟨"PAWN_RELOAD", 0x2000, 0x27FF, 0x03, 0x03, .u64, .rw, 4, .vangeg, [], [0]⟩,
    ⟨"PAWN_LATCHED", 0x2000, 0x27FF, 0x04, 0x04, .u64, .ro, 4, .vangeg, [], [0]⟩ ]

/-- Objects of index block 0x28 (04_counters.md). -/
def objects28 : List ObjRow :=
  [ ⟨"PAWN_CELL_OWNER", 0x2800, 0x2800, 0x00, 0x00, .u8, .ro, 2, .vangeg, [], [128]⟩,
    ⟨"PAWN_CELL_OWNER", 0x2800, 0x2800, 0x01, 0x80, .u8, .rw, 2, .vangeg, [], [255]⟩,
    ⟨"PAWN_CELL_OWNER", 0x2801, 0x2801, 0x00, 0x00, .u8, .ro, 2, .vangeg, [], [128]⟩,
    ⟨"PAWN_CELL_OWNER", 0x2801, 0x2801, 0x01, 0x80, .u8, .rw, 2, .vangeg, [], [255]⟩ ]

/-- Objects of index block 0x29 (04_counters.md). -/
def objects29 : List ObjRow :=
  [ ⟨"PAWN_LATCH_PERIOD", 0x2900, 0x2900, 0x00, 0x00, .u32, .rw, 2, .vangeg, [], [125]⟩,
    ⟨"PAWN_LATCH_SEQ", 0x2901, 0x2901, 0x00, 0x00, .u64, .ro, 4, .vangeg, [], [0]⟩,
    ⟨"PAWN_CMD", 0x2902, 0x2902, 0x00, 0x00, .u8, .ro, 4, .vangeg, [], [6]⟩,
    ⟨"PAWN_CMD", 0x2902, 0x2902, 0x01, 0x01, .u8, .rw, 4, .vangeg, [], [0]⟩,
    ⟨"PAWN_CMD", 0x2902, 0x2902, 0x02, 0x02, .u16, .rw, 4, .vangeg, [], [0]⟩,
    ⟨"PAWN_CMD", 0x2902, 0x2902, 0x03, 0x03, .u8, .rw, 4, .vangeg, [], [0]⟩,
    ⟨"PAWN_CMD", 0x2902, 0x2902, 0x04, 0x04, .time, .rw, 4, .vangeg, [], [0]⟩,
    ⟨"PAWN_CMD_STATUS", 0x2902, 0x2902, 0x05, 0x05, .u8, .ro, 4, .vangeg, [], [0]⟩,
    ⟨"PAWN_CMD_PENDING", 0x2902, 0x2902, 0x06, 0x06, .u8, .ro, 4, .vangeg, [], [0]⟩,
    ⟨"PAWN_DUMP_AGG", 0x2910, 0x2910, 0x00, 0x00, .u8, .ro, 1, .vangeg, [], [9]⟩,
    ⟨"PAWN_DUMP_AGG", 0x2910, 0x2910, 0x01, 0x01, .u8, .rw, 1, .vangeg, [], [0]⟩,
    ⟨"PAWN_DUMP_AGG", 0x2910, 0x2910, 0x02, 0x02, .u16, .rw, 1, .vangeg, [], [0]⟩,
    ⟨"PAWN_DUMP_AGG", 0x2910, 0x2910, 0x03, 0x03, .u16, .rw, 1, .vangeg, [], [1]⟩,
    ⟨"PAWN_DUMP_AGG", 0x2910, 0x2910, 0x04, 0x07, .u64, .rw, 1, .vangeg, [], [0]⟩,
    ⟨"PAWN_DUMP_AGG", 0x2910, 0x2910, 0x08, 0x08, .u8, .rw, 1, .vangeg, [], [0]⟩,
    ⟨"PAWN_DUMP_AGG_LOST", 0x2910, 0x2910, 0x09, 0x09, .u32, .rwc, 1, .vangeg, [], [0]⟩,
    ⟨"PAWN_DUMP_HOST", 0x2911, 0x2911, 0x00, 0x00, .u8, .ro, 2, .vangeg, [], [15]⟩,
    ⟨"PAWN_DUMP_HOST", 0x2911, 0x2911, 0x01, 0x01, .u8, .rw, 2, .vangeg, [], [0]⟩,
    ⟨"PAWN_DUMP_HOST", 0x2911, 0x2911, 0x02, 0x02, .u8, .rw, 2, .vangeg, [], [255]⟩,
    ⟨"PAWN_DUMP_HOST", 0x2911, 0x2911, 0x03, 0x03, .u64, .rw, 2, .vangeg, [], [0]⟩,
    ⟨"PAWN_DUMP_HOST", 0x2911, 0x2911, 0x04, 0x04, .u8, .rw, 2, .vangeg, [], [16]⟩,
    ⟨"PAWN_DUMP_HOST", 0x2911, 0x2911, 0x05, 0x05, .u64, .rw, 2, .vangeg, [], [0]⟩,
    ⟨"PAWN_DUMP_HOST", 0x2911, 0x2911, 0x06, 0x06, .u64, .ro, 2, .vangeg, [], [0]⟩,
    ⟨"PAWN_DUMP_HOST", 0x2911, 0x2911, 0x07, 0x07, .u64, .rw, 2, .vangeg, [], [0]⟩,
    ⟨"PAWN_DUMP_HOST", 0x2911, 0x2911, 0x08, 0x08, .u16, .rw, 2, .vangeg, [], [1]⟩,
    ⟨"PAWN_DUMP_HOST", 0x2911, 0x2911, 0x09, 0x0C, .u64, .rw, 2, .vangeg, [], [0]⟩,
    ⟨"PAWN_DUMP_HOST", 0x2911, 0x2911, 0x0D, 0x0D, .u8, .rw, 2, .vangeg, [], [0]⟩,
    ⟨"PAWN_DUMP_HOST", 0x2911, 0x2911, 0x0E, 0x0E, .u16, .rw, 2, .vangeg, [], [0]⟩,
    ⟨"PAWN_DUMP_HOST_LOST", 0x2911, 0x2911, 0x0F, 0x0F, .u32, .rwc, 2, .vangeg, [], [0]⟩,
    ⟨"PAWN_SAMPLE_RING", 0x2912, 0x2912, 0x00, 0x00, .u8, .ro, 2, .vangeg, [], [9]⟩,
    ⟨"PAWN_SAMPLE_RING", 0x2912, 0x2912, 0x01, 0x01, .u8, .rw, 2, .vangeg, [], [0]⟩,
    ⟨"PAWN_SAMPLE_RING", 0x2912, 0x2912, 0x02, 0x02, .u64, .rw, 2, .vangeg, [], [0]⟩,
    ⟨"PAWN_SAMPLE_RING", 0x2912, 0x2912, 0x03, 0x03, .u8, .rw, 2, .vangeg, [], [16]⟩,
    ⟨"PAWN_SAMPLE_RING", 0x2912, 0x2912, 0x04, 0x04, .u64, .rw, 2, .vangeg, [], [0]⟩,
    ⟨"PAWN_SAMPLE_RING", 0x2912, 0x2912, 0x05, 0x05, .u64, .ro, 2, .vangeg, [], [0]⟩,
    ⟨"PAWN_SAMPLE_RING", 0x2912, 0x2912, 0x06, 0x06, .u64, .rw, 2, .vangeg, [], [0]⟩,
    ⟨"PAWN_SAMPLE_RING", 0x2912, 0x2912, 0x07, 0x07, .u16, .rw, 2, .vangeg, [], [0]⟩,
    ⟨"PAWN_SAMPLE_LOST", 0x2912, 0x2912, 0x08, 0x08, .u32, .rwc, 2, .vangeg, [], [0]⟩,
    ⟨"PAWN_SAMPLE_SEQ", 0x2912, 0x2912, 0x09, 0x09, .u32, .ro, 2, .vangeg, [], [0]⟩ ]

/-- Objects of index block 0x2A (04_counters.md). -/
def objects2A : List ObjRow :=
  [ ⟨"PAWN_SLOT", 0x2A00, 0x2A3F, 0x00, 0x00, .u8, .ro, 2, .vangeg, [], [4]⟩,
    ⟨"PAWN_SLOT", 0x2A00, 0x2A3F, 0x01, 0x04, .u64, .ro, 2, .vangeg, [], [0]⟩ ]

/-- Objects of index block 0x2B (04_counters.md). -/
def objects2B : List ObjRow :=
  [ ⟨"PAWN_BW", 0x2B00, 0x2B0F, 0x00, 0x00, .u8, .ro, 2, .vangeg, [], [5]⟩,
    ⟨"PAWN_BW", 0x2B00, 0x2B0F, 0x01, 0x01, .u16, .rw, 2, .vangeg, [], [65535]⟩,
    ⟨"PAWN_BW", 0x2B00, 0x2B0F, 0x02, 0x02, .u16, .rw, 2, .vangeg, [], [0]⟩,
    ⟨"PAWN_BW", 0x2B00, 0x2B0F, 0x03, 0x03, .u64, .ro, 2, .vangeg, [], [0]⟩,
    ⟨"PAWN_BW", 0x2B00, 0x2B0F, 0x04, 0x04, .u64, .rwc, 2, .vangeg, [], [0]⟩,
    ⟨"PAWN_BW", 0x2B00, 0x2B0F, 0x05, 0x05, .u32, .ro, 2, .vangeg, [], [0]⟩ ]

/-- Objects of index block 0x2C (04_counters.md). -/
def objects2C : List ObjRow :=
  [ ⟨"PAWN_BASELINE", 0x2C00, 0x2C00, 0x00, 0x00, .u8, .ro, 2, .vangeg, [], [64]⟩,
    ⟨"PAWN_BASELINE", 0x2C00, 0x2C00, 0x01, 0x40, .u64, .ro, 2, .vangeg, [], [0]⟩ ]

/-- Objects of index block 0x30 (05_trace.md). -/
def objects30 : List ObjRow :=
  [ ⟨"TRC_CAPS", 0x3000, 0x3000, 0x00, 0x00, .u8, .ro, 4, .vangeg, [], [3]⟩,
    ⟨"TRC_CAPS", 0x3000, 0x3000, 0x01, 0x01, .u8, .ro, 4, .vangeg, [], [0]⟩,
    ⟨"TRC_CAPS", 0x3000, 0x3000, 0x02, 0x02, .u16, .ro, 4, .vangeg, [], [16384]⟩,
    ⟨"TRC_CAPS", 0x3000, 0x3000, 0x03, 0x03, .u16, .ro, 4, .vangeg, [], [2048]⟩,
    ⟨"TRC_CMD", 0x3001, 0x3001, 0x00, 0x00, .u8, .ro, 4, .vangeg, [], [5]⟩,
    ⟨"TRC_CMD", 0x3001, 0x3001, 0x01, 0x01, .u8, .rw, 4, .vangeg, [], [0]⟩,
    ⟨"TRC_CMD", 0x3001, 0x3001, 0x02, 0x02, .u16, .rw, 4, .vangeg, [], [0]⟩,
    ⟨"TRC_CMD", 0x3001, 0x3001, 0x03, 0x03, .time, .rw, 4, .vangeg, [], [0]⟩,
    ⟨"TRC_CMD_STATUS", 0x3001, 0x3001, 0x04, 0x04, .u8, .ro, 4, .vangeg, [], [0]⟩,
    ⟨"TRC_CMD_PENDING", 0x3001, 0x3001, 0x05, 0x05, .u8, .ro, 4, .vangeg, [], [0]⟩,
    ⟨"TRC_CMP", 0x3010, 0x3017, 0x00, 0x00, .u8, .ro, 2, .vangeg, [], [3]⟩,
    ⟨"TRC_CMP_LOW", 0x3010, 0x3017, 0x01, 0x01, .u64, .rw, 2, .vangeg, [], [0]⟩,
    ⟨"TRC_CMP_HIGH", 0x3010, 0x3017, 0x02, 0x02, .u64, .rw, 2, .vangeg, [], [0]⟩,
    ⟨"TRC_CMP_CTRL", 0x3010, 0x3017, 0x03, 0x03, .u32, .rw, 2, .vangeg, [], [4]⟩ ]

/-- Objects of index block 0x31 (05_trace.md). -/
def objects31 : List ObjRow :=
  [ ⟨"TRC_SRC", 0x3100, 0x310F, 0x00, 0x00, .u8, .ro, 4, .vangeg, [], [13]⟩,
    ⟨"TRC_SRC_CTRL", 0x3100, 0x310F, 0x01, 0x01, .u32, .rw, 2, .vangeg, [], [3363831808]⟩,
    ⟨"TRC_SRC_OWNER", 0x3100, 0x310F, 0x02, 0x02, .u8, .rw, 2, .vangeg, [], [255]⟩,
    ⟨"TRC_SRC_SHARE", 0x3100, 0x310F, 0x03, 0x03, .u16, .rw, 2, .vangeg, [], [0]⟩,
    ⟨"TRC_SRC_STATE", 0x3100, 0x310F, 0x04, 0x04, .u8, .ro, 4, .vangeg, [], [0]⟩,
    ⟨"TRC_SRC_STREAM", 0x3100, 0x310F, 0x05, 0x05, .u16, .rw, 1, .vangeg, [], [0]⟩,
    ⟨"TRC_SRC_BYTES", 0x3100, 0x310F, 0x06, 0x06, .u64, .ro, 4, .vangeg, [], [0]⟩,
    ⟨"TRC_SRC_LOST_BYTES", 0x3100, 0x310F, 0x07, 0x07, .u64, .rwc, 4, .vangeg, [], [0]⟩,
    ⟨"TRC_SRC_LOST_OPS", 0x3100, 0x310F, 0x08, 0x08, .u64, .rwc, 4, .vangeg, [], [0]⟩,
    ⟨"TRC_SRC_OVF_COUNT", 0x3100, 0x310F, 0x09, 0x09, .u32, .rwc, 4, .vangeg, [], [0]⟩,
    ⟨"TRC_SRC_CHUNK_SEQ", 0x3100, 0x310F, 0x0A, 0x0A, .u32, .ro, 4, .vangeg, [], [0]⟩,
    ⟨"TRC_SRC_DROPPED", 0x3100, 0x310F, 0x0B, 0x0B, .u32, .rwc, 4, .vangeg, [], [0]⟩,
    ⟨"TRC_BUF_READ", 0x3100, 0x310F, 0x0C, 0x0C, .blob, .ro, 4, .vangeg, [], [0]⟩,
    ⟨"TRC_BUF_CURSOR", 0x3100, 0x310F, 0x0D, 0x0D, .u32, .rw, 4, .vangeg, [], [0]⟩ ]

/-- Objects of index block 0x32 (05_trace.md). -/
def objects32 : List ObjRow :=
  [ ⟨"TRC_HOST_RING", 0x3200, 0x3203, 0x00, 0x00, .u8, .ro, 2, .vangeg, [], [8]⟩,
    ⟨"TRC_HOST_RING", 0x3200, 0x3203, 0x01, 0x01, .u8, .rw, 2, .vangeg, [], [0]⟩,
    ⟨"TRC_HOST_RING", 0x3200, 0x3203, 0x02, 0x02, .u8, .rw, 2, .vangeg, [], [255]⟩,
    ⟨"TRC_HOST_RING", 0x3200, 0x3203, 0x03, 0x03, .u64, .rw, 2, .vangeg, [], [0]⟩,
    ⟨"TRC_HOST_RING", 0x3200, 0x3203, 0x04, 0x04, .u8, .rw, 2, .vangeg, [], [16]⟩,
    ⟨"TRC_HOST_RING", 0x3200, 0x3203, 0x05, 0x05, .u64, .rw, 2, .vangeg, [], [0]⟩,
    ⟨"TRC_HOST_RING", 0x3200, 0x3203, 0x06, 0x06, .u64, .ro, 2, .vangeg, [], [0]⟩,
    ⟨"TRC_HOST_RING", 0x3200, 0x3203, 0x07, 0x07, .u64, .rw, 2, .vangeg, [], [0]⟩,
    ⟨"TRC_HOST_RING", 0x3200, 0x3203, 0x08, 0x08, .u16, .rw, 2, .vangeg, [], [0]⟩ ]

/-- Objects of index block 0x34 (14_flag_and_cut.md). -/
def objects34 : List ObjRow :=
  [ ⟨"FLAG_TRIG", 0x3400, 0x3400, 0x00, 0x00, .u8, .ro, 1, .shopostra, [5], []⟩,
    ⟨"FLAG_TRIG", 0x3400, 0x3400, 0x01, 0x01, .u8, .rw, 1, .shopostra, [0], []⟩,
    ⟨"FLAG_TRIG", 0x3400, 0x3400, 0x02, 0x02, .u16, .rw, 1, .shopostra, [0], []⟩,
    ⟨"FLAG_TRIG", 0x3400, 0x3400, 0x03, 0x03, .time, .rw, 1, .shopostra, [0], []⟩,
    ⟨"FLAG_TRIG_ID", 0x3400, 0x3400, 0x04, 0x04, .u16, .ro, 1, .shopostra, [0], []⟩,
    ⟨"FLAG_TRIG_STATUS", 0x3400, 0x3400, 0x05, 0x05, .u8, .ro, 1, .shopostra, [0], []⟩,
    ⟨"FLAG_MIN_LEAD", 0x3401, 0x3401, 0x00, 0x00, .u32, .ro, 4, .both, [20000], [20000]⟩,
    ⟨"FLAG_STATE", 0x3402, 0x3402, 0x00, 0x00, .u8, .ro, 4, .both, [0], [0]⟩,
    ⟨"FLAG_STOP_INFO", 0x3403, 0x3403, 0x00, 0x00, .u8, .ro, 2, .both, [2], [2]⟩,
    ⟨"FLAG_STOP_INFO", 0x3403, 0x3403, 0x01, 0x01, .time, .ro, 2, .both, [0], [0]⟩,
    ⟨"FLAG_STOP_INFO", 0x3403, 0x3403, 0x02, 0x02, .u16, .ro, 2, .both, [0], [0]⟩,
    ⟨"FLAG_PENDING", 0x3404, 0x3404, 0x00, 0x00, .u8, .ro, 2, .both, [0], [0]⟩,
    ⟨"FLAG_COUNTS", 0x3405, 0x3405, 0x00, 0x00, .u8, .ro, 2, .both, [6], [6]⟩,
    ⟨"FLAG_DUP", 0x3405, 0x3405, 0x01, 0x01, .u64, .rwc, 2, .both, [0], [0]⟩,
    ⟨"FLAG_LATE", 0x3405, 0x3405, 0x02, 0x02, .u32, .rwc, 2, .both, [0], [0]⟩,
    ⟨"FLAG_BAD", 0x3405, 0x3405, 0x03, 0x03, .u32, .rwc, 2, .both, [0], [0]⟩,
    ⟨"FLAG_SNAP_LOST", 0x3405, 0x3405, 0x04, 0x04, .u32, .rwc, 2, .both, [0], [0]⟩,
    ⟨"FLAG_CAPTURE_INCOMPLETE", 0x3405, 0x3405, 0x05, 0x05, .u32, .rwc, 2, .both, [0], [0]⟩,
    ⟨"FLAG_STOP_DISCARD", 0x3405, 0x3405, 0x06, 0x06, .u64, .rwc, 2, .both, [0], [0]⟩,
    ⟨"FLAG_SNAP_SEL", 0x3410, 0x3410, 0x00, 0x00, .u16, .rw, 1, .both, [0], [0]⟩,
    ⟨"FLAG_SNAP_STATUS", 0x3411, 0x3411, 0x00, 0x00, .u8, .ro, 1, .both, [0], [0]⟩,
    ⟨"FLAG_SNAP_READ", 0x3412, 0x3412, 0x00, 0x00, .blob, .ro, 1, .both, [0], [0]⟩,
    ⟨"FLAG_SNAP_LIST", 0x3413, 0x3413, 0x00, 0x00, .blob, .ro, 1, .both, [0], [0]⟩,
    ⟨"FLAG_RESUME_STATUS", 0x3420, 0x3420, 0x00, 0x00, .u8, .ro, 1, .both, [0], [0]⟩ ]

/-- Objects of index block 0x35 (16_self_test.md). -/
def objects35 : List ObjRow :=
  [ ⟨"BIST_ENABLE", 0x3500, 0x3500, 0x00, 0x00, .u8, .rw, 1, .both, [1], [1]⟩,
    ⟨"BIST_SUMMARY", 0x3501, 0x3501, 0x00, 0x00, .u8, .ro, 2, .both, [0], [0]⟩,
    ⟨"BIST_STRESS_WAIT", 0x3502, 0x3502, 0x00, 0x00, .u32, .rw, 1, .both, [60], [60]⟩,
    ⟨"BIST_SX_PERIOD_S", 0x3503, 0x3503, 0x00, 0x00, .u32, .rw, 1, .shopostra, [3600], []⟩,
    ⟨"BIST_REQUEST", 0x3504, 0x3504, 0x00, 0x00, .u8, .ro, 1, .both, [4], [4]⟩,
    ⟨"BIST_REQUEST", 0x3504, 0x3504, 0x01, 0x01, .u8, .rw, 1, .both, [0], [0]⟩,
    ⟨"BIST_REQUEST", 0x3504, 0x3504, 0x02, 0x02, .u16, .rw, 1, .both, [0], [0]⟩,
    ⟨"BIST_REQUEST", 0x3504, 0x3504, 0x03, 0x03, .u8, .rw, 1, .both, [0], [0]⟩,
    ⟨"BIST_REQUEST_PENDING", 0x3504, 0x3504, 0x04, 0x04, .u8, .ro, 1, .both, [0], [0]⟩,
    ⟨"BIST_PLAN", 0x3510, 0x354F, 0x00, 0x00, .u8, .ro, 1, .vangeg, [], [16]⟩,
    ⟨"BIST_PLAN", 0x3510, 0x354F, 0x01, 0x01, .u8, .rw, 1, .vangeg, [], [0]⟩,
    ⟨"BIST_PLAN", 0x3510, 0x354F, 0x02, 0x02, .u8, .rw, 1, .vangeg, [], [1]⟩,
    ⟨"BIST_PLAN", 0x3510, 0x354F, 0x03, 0x03, .u16, .rw, 1, .vangeg, [], [20224]⟩,
    ⟨"BIST_PLAN", 0x3510, 0x354F, 0x04, 0x04, .u32, .rw, 1, .vangeg, [], [3600]⟩,
    ⟨"BIST_PLAN", 0x3510, 0x354F, 0x05, 0x05, .u32, .rw, 1, .vangeg, [], [0]⟩,
    ⟨"BIST_PLAN", 0x3510, 0x354F, 0x06, 0x06, .u16, .rw, 1, .vangeg, [], [2000]⟩,
    ⟨"BIST_PLAN", 0x3510, 0x354F, 0x07, 0x07, .u16, .rw, 1, .vangeg, [], [1000]⟩,
    ⟨"BIST_PLAN", 0x3510, 0x354F, 0x08, 0x08, .u32, .rw, 1, .vangeg, [], [0]⟩,
    ⟨"BIST_PLAN", 0x3510, 0x354F, 0x09, 0x09, .u16, .rw, 1, .vangeg, [], [2000]⟩,
    ⟨"BIST_PLAN", 0x3510, 0x354F, 0x0A, 0x0A, .u16, .rw, 1, .vangeg, [], [0]⟩,
    ⟨"BIST_PLAN", 0x3510, 0x354F, 0x0B, 0x0B, .u16, .rw, 1, .vangeg, [], [0]⟩,
    ⟨"BIST_PLAN", 0x3510, 0x354F, 0x0C, 0x0C, .u8, .rw, 1, .vangeg, [], [0]⟩,
    ⟨"BIST_PLAN", 0x3510, 0x354F, 0x0D, 0x0D, .u8, .rw, 1, .vangeg, [], [30]⟩,
    ⟨"BIST_PLAN", 0x3510, 0x354F, 0x0E, 0x0E, .u8, .rw, 1, .vangeg, [], [0]⟩,
    ⟨"BIST_PLAN", 0x3510, 0x354F, 0x0F, 0x0F, .u8, .ro, 2, .vangeg, [], [255]⟩,
    ⟨"BIST_PLAN", 0x3510, 0x354F, 0x10, 0x10, .time, .ro, 2, .vangeg, [], [0]⟩,
    ⟨"BIST_REPAIR", 0x3570, 0x3570, 0x00, 0x00, .u8, .ro, 1, .both, [32], [64]⟩,
    ⟨"BIST_REPAIR", 0x3570, 0x3570, 0x01, 0x40, .u64, .ro, 1, .both, [0], [0]⟩,
    ⟨"BIST_REPAIR_FUSED", 0x3571, 0x3571, 0x00, 0x00, .u8, .ro, 1, .both, [24], [24]⟩,
    ⟨"BIST_REPAIR_FUSED", 0x3571, 0x3571, 0x01, 0x18, .u64, .ro, 1, .both, [0], [0]⟩,
    ⟨"BIST_FUSE_BURN", 0x3572, 0x3572, 0x00, 0x00, .u8, .wo, 0, .both, [0], [0]⟩,
    ⟨"BIST_FUSE_STATUS", 0x3573, 0x3573, 0x00, 0x00, .u8, .ro, 0, .both, [0], [0]⟩,
    ⟨"BIST_RESULT_LOG", 0x3580, 0x3580, 0x00, 0x00, .blob, .ro, 2, .both, [0], [0]⟩ ]

/-- Objects of index block 0x36 (12_silent_errors.md). -/
def objects36a : List ObjRow :=
  [ ⟨"SIG_CAPS", 0x3600, 0x3600, 0x00, 0x00, .u8, .ro, 2, .vangeg, [], [3]⟩,
    ⟨"SIG_CAPS", 0x3600, 0x3600, 0x01, 0x01, .u8, .ro, 2, .vangeg, [], [0]⟩,
    ⟨"SIG_CAPS", 0x3600, 0x3600, 0x02, 0x02, .u16, .ro, 2, .vangeg, [], [256]⟩,
    ⟨"SIG_CAPS", 0x3600, 0x3600, 0x03, 0x03, .u8, .ro, 2, .vangeg, [], [64]⟩,
    ⟨"SIG_CLEAN_JOB", 0x3601, 0x3601, 0x00, 0x00, .u16, .rw, 2, .vangeg, [], [65535]⟩,
    ⟨"SIG_SPARE_UNITS", 0x3602, 0x3602, 0x00, 0x00, .u8, .ro, 1, .vangeg, [], [8]⟩,
    ⟨"SIG_SPARE_UNITS", 0x3602, 0x3602, 0x01, 0x08, .u8, .rw, 1, .vangeg, [], [255]⟩,
    ⟨"SIG_TIMING", 0x3603, 0x3603, 0x00, 0x00, .u8, .ro, 1, .vangeg, [], [2]⟩,
    ⟨"SIG_AUDIT_DEADLINE", 0x3603, 0x3603, 0x01, 0x01, .u16, .rw, 1, .vangeg, [], [1000]⟩,
    ⟨"SIG_REPEAT_DEADLINE", 0x3603, 0x3603, 0x02, 0x02, .u16, .rw, 1, .vangeg, [], [100]⟩,
    ⟨"SIG_COUNTS", 0x3604, 0x3604, 0x00, 0x00, .u8, .ro, 2, .vangeg, [], [5]⟩,
    ⟨"SIG_AUDIT_PASS", 0x3604, 0x3604, 0x01, 0x01, .u64, .rwc, 2, .vangeg, [], [0]⟩,
    ⟨"SIG_AUDIT_FAIL", 0x3604, 0x3604, 0x02, 0x02, .u32, .rwc, 2, .vangeg, [], [0]⟩,
    ⟨"SIG_AUDIT_TIMEOUT", 0x3604, 0x3604, 0x03, 0x03, .u32, .rwc, 2, .vangeg, [], [0]⟩,
    ⟨"SIG_REPEATS", 0x3604, 0x3604, 0x04, 0x04, .u32, .rwc, 2, .vangeg, [], [0]⟩,
    ⟨"SIG_REPORTS", 0x3604, 0x3604, 0x05, 0x05, .u32, .ro, 2, .vangeg, [], [0]⟩,
    ⟨"SIG_GROUP", 0x3610, 0x361F, 0x00, 0x00, .u8, .ro, 2, .vangeg, [], [10]⟩,
    ⟨"SIG_GROUP", 0x3610, 0x361F, 0x01, 0x01, .u8, .rw, 1, .vangeg, [], [0]⟩,
    ⟨"SIG_GROUP", 0x3610, 0x361F, 0x02, 0x02, .u16, .rw, 1, .vangeg, [], [0]⟩,
    ⟨"SIG_GROUP", 0x3610, 0x361F, 0x03, 0x03, .u64, .rw, 1, .vangeg, [], [0]⟩,
    ⟨"SIG_GROUP", 0x3610, 0x361F, 0x04, 0x04, .u64, .rw, 1, .vangeg, [], [0]⟩,
    ⟨"SIG_GROUP", 0x3610, 0x361F, 0x05, 0x05, .u8, .rw, 1, .vangeg, [], [1]⟩,
    ⟨"SIG_GROUP", 0x3610, 0x361F, 0x06, 0x06, .u32, .rw, 1, .vangeg, [], [1]⟩,
    ⟨"SIG_GROUP", 0x3610, 0x361F, 0x07, 0x07, .u8, .rw, 1, .vangeg, [], [50]⟩,
    ⟨"SIG_GROUP", 0x3610, 0x361F, 0x08, 0x08, .u8, .rw, 1, .vangeg, [], [64]⟩,
    ⟨"SIG_GROUP", 0x3610, 0x361F, 0x09, 0x09, .u8, .rw, 1, .vangeg, [], [0]⟩,
    ⟨"SIG_GROUP", 0x3610, 0x361F, 0x0A, 0x0A, .u8, .rw, 1, .vangeg, [], [0]⟩,
    ⟨"SIG_UNIT_MAP", 0x3620, 0x3620, 0x00, 0x00, .u8, .ro, 1, .vangeg, [], [128]⟩,
    ⟨"SIG_UNIT_MAP", 0x3620, 0x3620, 0x01, 0x80, .u32, .rw, 1, .vangeg, [], [4294967295]⟩,
    ⟨"SIG_UNIT_MAP", 0x3621, 0x3621, 0x00, 0x00, .u8, .ro, 1, .vangeg, [], [128]⟩,
    ⟨"SIG_UNIT_MAP", 0x3621, 0x3621, 0x01, 0x80, .u32, .rw, 1, .vangeg, [], [4294967295]⟩,
    ⟨"SIG_UNIT_STATE", 0x3622, 0x3622, 0x00, 0x00, .u8, .ro, 2, .vangeg, [], [128]⟩,
    ⟨"SIG_UNIT_STATE", 0x3622, 0x3622, 0x01, 0x80, .u8, .rwc, 2, .vangeg, [], [0]⟩,
    ⟨"SIG_UNIT_STATE", 0x3623, 0x3623, 0x00, 0x00, .u8, .ro, 2, .vangeg, [], [128]⟩,
    ⟨"SIG_UNIT_STATE", 0x3623, 0x3623, 0x01, 0x80, .u8, .rwc, 2, .vangeg, [], [0]⟩,
    ⟨"SIG_JOB", 0x3630, 0x363F, 0x00, 0x00, .u8, .ro, 2, .vangeg, [], [7]⟩,
    ⟨"SIG_JOB", 0x3630, 0x363F, 0x01, 0x01, .u16, .ro, 2, .vangeg, [], [65535]⟩,
    ⟨"SIG_JOB", 0x3630, 0x363F, 0x02, 0x02, .u8, .rw, 2, .vangeg, [], [255]⟩,
    ⟨"SIG_JOB", 0x3630, 0x363F, 0x03, 0x03, .u32, .ro, 2, .vangeg, [], [0]⟩,
    ⟨"SIG_JOB", 0x3630, 0x363F, 0x04, 0x04, .u32, .ro, 2, .vangeg, [], [0]⟩ ]

/-- Objects of index block 0x36 (12_silent_errors.md). -/
def objects36b : List ObjRow :=
  [ ⟨"SIG_JOB", 0x3630, 0x363F, 0x05, 0x05, .u32, .ro, 2, .vangeg, [], [0]⟩,
    ⟨"SIG_JOB", 0x3630, 0x363F, 0x06, 0x06, .u32, .ro, 2, .vangeg, [], [4294967295]⟩,
    ⟨"SIG_JOB", 0x3630, 0x363F, 0x07, 0x07, .blob, .ro, 2, .vangeg, [], [0]⟩,
    ⟨"SIG_RECENT_SEL", 0x3640, 0x3640, 0x00, 0x00, .u8, .rw, 2, .vangeg, [], [0]⟩,
    ⟨"SIG_RECENT", 0x3641, 0x3641, 0x00, 0x00, .blob, .ro, 2, .vangeg, [], [0]⟩,
    ⟨"SIG_PEER_LOG", 0x3650, 0x3650, 0x00, 0x00, .blob, .ro, 1, .vangeg, [], [0]⟩,
    ⟨"SIG_VERDICT_COUNTS", 0x3680, 0x3680, 0x00, 0x00, .u8, .ro, 1, .shopostra, [7], []⟩,
    ⟨"SIG_ROUNDS_CLOSED", 0x3680, 0x3680, 0x01, 0x01, .u64, .rwc, 1, .shopostra, [0], []⟩,
    ⟨"SIG_SPLIT", 0x3680, 0x3680, 0x02, 0x02, .u32, .rwc, 1, .shopostra, [0], []⟩,
    ⟨"SIG_NO_MAJORITY", 0x3680, 0x3680, 0x03, 0x03, .u32, .rwc, 1, .shopostra, [0], []⟩,
    ⟨"SIG_SHORT", 0x3680, 0x3680, 0x04, 0x04, .u32, .rwc, 1, .shopostra, [0], []⟩,
    ⟨"SIG_CONFIG_MISMATCH", 0x3680, 0x3680, 0x05, 0x05, .u32, .rwc, 1, .shopostra, [0], []⟩,
    ⟨"SIG_VERDICT_LATE", 0x3680, 0x3680, 0x06, 0x06, .u32, .rwc, 1, .shopostra, [0], []⟩,
    ⟨"SIG_MINORITY_QUERIES", 0x3680, 0x3680, 0x07, 0x07, .u32, .rwc, 1, .shopostra, [0], []⟩,
    ⟨"SIG_RESUME", 0x3681, 0x3681, 0x00, 0x00, .u8, .ro, 1, .shopostra, [4], []⟩,
    ⟨"SIG_RESUME", 0x3681, 0x3681, 0x01, 0x01, .u32, .rw, 1, .shopostra, [0], []⟩,
    ⟨"SIG_RESUME", 0x3681, 0x3681, 0x02, 0x02, .u16, .rw, 1, .shopostra, [65535], []⟩,
    ⟨"SIG_RESUME", 0x3681, 0x3681, 0x03, 0x03, .u32, .rw, 1, .shopostra, [0], []⟩,
    ⟨"SIG_RESUME_STATUS", 0x3681, 0x3681, 0x04, 0x04, .u8, .ro, 1, .shopostra, [0], []⟩,
    ⟨"SIG_TAINT_SEL", 0x3682, 0x3682, 0x00, 0x00, .u8, .ro, 1, .shopostra, [2], []⟩,
    ⟨"SIG_TAINT_SEL", 0x3682, 0x3682, 0x01, 0x01, .u16, .rw, 1, .shopostra, [65535], []⟩,
    ⟨"SIG_TAINT_SEL", 0x3682, 0x3682, 0x02, 0x02, .u32, .rw, 1, .shopostra, [0], []⟩,
    ⟨"SIG_TAINT_MAP", 0x3683, 0x3683, 0x00, 0x00, .blob, .ro, 1, .shopostra, [0], []⟩,
    ⟨"SIG_VERDICT_LOG", 0x3684, 0x3684, 0x00, 0x00, .blob, .ro, 1, .shopostra, [0], []⟩,
    ⟨"SIG_CLASS_TABLE", 0x3685, 0x3685, 0x00, 0x00, .blob, .ro, 1, .shopostra, [0], []⟩ ]

/-- Objects of index block 0x37 (15_history_and_recorder.md). -/
def objects37 : List ObjRow :=
  [ ⟨"REC_CAPS", 0x3700, 0x3700, 0x00, 0x00, .u8, .ro, 2, .both, [3], [3]⟩,
    ⟨"REC_CAPS", 0x3700, 0x3700, 0x01, 0x01, .u32, .ro, 2, .both, [536870912], [131072]⟩,
    ⟨"REC_CAPS", 0x3700, 0x3700, 0x02, 0x02, .u32, .ro, 2, .both, [67108864], [0]⟩,
    ⟨"REC_CAPS", 0x3700, 0x3700, 0x03, 0x03, .u16, .ro, 2, .both, [228], [228]⟩,
    ⟨"REC_LOG_SEL", 0x3701, 0x3701, 0x00, 0x00, .u8, .rw, 2, .both, [0], [0]⟩,
    ⟨"REC_CURSOR", 0x3702, 0x3702, 0x00, 0x00, .u64, .rw, 2, .both, [0], [0]⟩,
    ⟨"REC_READ", 0x3703, 0x3703, 0x00, 0x00, .blob, .ro, 2, .both, [0], [0]⟩,
    ⟨"REC_POS", 0x3704, 0x3704, 0x00, 0x00, .u8, .ro, 2, .both, [3], [3]⟩,
    ⟨"REC_OLDEST", 0x3704, 0x3704, 0x01, 0x01, .u64, .ro, 2, .both, [0], [0]⟩,
    ⟨"REC_NEXT", 0x3704, 0x3704, 0x02, 0x02, .u64, .ro, 2, .both, [0], [0]⟩,
    ⟨"REC_REMOVALS", 0x3704, 0x3704, 0x03, 0x03, .u64, .ro, 2, .both, [0], [0]⟩,
    ⟨"REC_COUNTS", 0x3705, 0x3705, 0x00, 0x00, .u8, .ro, 2, .both, [7], [7]⟩,
    ⟨"REC_DROPPED", 0x3705, 0x3705, 0x01, 0x04, .u32, .rwc, 2, .both, [0], [0]⟩,
    ⟨"REC_BAD_INTAKE", 0x3705, 0x3705, 0x05, 0x05, .u32, .rwc, 2, .both, [0], [0]⟩,
    ⟨"REC_UNSENT_LOST", 0x3705, 0x3705, 0x06, 0x06, .u32, .rwc, 2, .vangeg, [], [0]⟩,
    ⟨"REC_FWD_FAIL", 0x3705, 0x3705, 0x07, 0x07, .u32, .rwc, 2, .vangeg, [], [0]⟩,
    ⟨"REC_PERSIST", 0x3706, 0x3706, 0x00, 0x00, .u8, .ro, 1, .shopostra, [4], []⟩,
    ⟨"REC_PERSIST_MIN", 0x3706, 0x3706, 0x01, 0x01, .u8, .rw, 1, .shopostra, [2], []⟩,
    ⟨"REC_PERSIST_BUDGET", 0x3706, 0x3706, 0x02, 0x02, .u32, .rw, 1, .shopostra, [4194304], []⟩,
    ⟨"REC_PERSIST_SKIP", 0x3706, 0x3706, 0x03, 0x03, .u32, .rwc, 1, .shopostra, [0], []⟩,
    ⟨"REC_TORN", 0x3706, 0x3706, 0x04, 0x04, .u32, .ro, 1, .shopostra, [0], []⟩,
    ⟨"REC_SELF", 0x3707, 0x3707, 0x00, 0x00, .u8, .ro, 4, .both, [3], [3]⟩,
    ⟨"REC_SEQ", 0x3707, 0x3707, 0x01, 0x01, .u32, .ro, 4, .both, [0], [0]⟩,
    ⟨"REC_OPHOURS", 0x3707, 0x3707, 0x02, 0x02, .u32, .ro, 4, .both, [4294967295], [4294967295]⟩,
    ⟨"REC_PCYCLES", 0x3707, 0x3707, 0x03, 0x03, .u32, .ro, 4, .both, [0], [0]⟩,
    ⟨"REC_DIE_TABLE", 0x3710, 0x3710, 0x00, 0x00, .blob, .ro, 1, .shopostra, [0], []⟩,
    ⟨"REC_DIE_SET", 0x3711, 0x3711, 0x00, 0x00, .u8, .ro, 0, .shopostra, [3], []⟩,
    ⟨"REC_DIE_SET", 0x3711, 0x3711, 0x01, 0x01, .u64, .rw, 0, .shopostra, [0], []⟩,
    ⟨"REC_DIE_SET", 0x3711, 0x3711, 0x02, 0x02, .u32, .rw, 0, .shopostra, [0], []⟩,
    ⟨"REC_DIE_SET", 0x3711, 0x3711, 0x03, 0x03, .u32, .rw, 0, .shopostra, [0], []⟩ ]

/-- Objects of index block 0x38 (18_protection_and_slices.md). -/
def objects38 : List ObjRow :=
  [ ⟨"PROT_CAPS", 0x3800, 0x3800, 0x00, 0x00, .u8, .ro, 4, .both, [2], [2]⟩,
    ⟨"PROT_CAPS", 0x3800, 0x3800, 0x01, 0x01, .u8, .ro, 4, .both, [0], [64]⟩,
    ⟨"PROT_CAPS", 0x3800, 0x3800, 0x02, 0x02, .u8, .ro, 4, .both, [64], [64]⟩,
    ⟨"PROT_MATRIX", 0x3801, 0x3801, 0x00, 0x00, .u8, .ro, 2, .both, [64], [64]⟩,
    ⟨"PROT_MATRIX", 0x3801, 0x3801, 0x01, 0x40, .u16, .ro, 2, .both, [0], [0]⟩,
    ⟨"PROT_FUSE_STATUS", 0x3802, 0x3802, 0x00, 0x00, .u8, .ro, 2, .shopostra, [0], []⟩,
    ⟨"PROT_PRIV_REFUSED", 0x3803, 0x3803, 0x00, 0x00, .u32, .rwc, 2, .both, [0], [0]⟩,
    ⟨"PROT_DRIVER_PASID", 0x3804, 0x3804, 0x00, 0x00, .u32, .rw, 2, .vangeg, [], [4294967295]⟩,
    ⟨"PROT_DRIVER_INTR", 0x3805, 0x3805, 0x00, 0x00, .u8, .ro, 2, .vangeg, [], [2]⟩,
    ⟨"PROT_DRIVER_INTR", 0x3805, 0x3805, 0x01, 0x01, .u64, .rw, 2, .vangeg, [], [0]⟩,
    ⟨"PROT_DRIVER_INTR", 0x3805, 0x3805, 0x02, 0x02, .u32, .rw, 2, .vangeg, [], [0]⟩,
    ⟨"PROT_INTR_SUPPRESSED", 0x3806, 0x3806, 0x00, 0x00, .u32, .rwc, 2, .vangeg, [], [0]⟩,
    ⟨"PROT_SLICE", 0x3810, 0x384F, 0x00, 0x00, .u8, .ro, 3, .vangeg, [], [7]⟩,
    ⟨"PROT_SLICE_STATE", 0x3810, 0x384F, 0x01, 0x01, .u8, .ro, 3, .vangeg, [], [0]⟩,
    ⟨"PROT_SLICE_PASID", 0x3810, 0x384F, 0x02, 0x02, .u32, .rw, 2, .vangeg, [], [4294967295]⟩,
    ⟨"PROT_SLICE_CMD", 0x3810, 0x384F, 0x03, 0x03, .u8, .wo, 3, .vangeg, [], [0]⟩,
    ⟨"PROT_SLICE_INTR_ADDR", 0x3810, 0x384F, 0x04, 0x04, .u64, .rw, 3, .vangeg, [], [0]⟩,
    ⟨"PROT_SLICE_INTR_DATA", 0x3810, 0x384F, 0x05, 0x05, .u32, .rw, 3, .vangeg, [], [0]⟩,
    ⟨"PROT_SLICE_RESETS", 0x3810, 0x384F, 0x06, 0x06, .u32, .ro, 3, .vangeg, [], [0]⟩,
    ⟨"PROT_SLICE_SQUASHED", 0x3810, 0x384F, 0x07, 0x07, .u32, .ro, 3, .vangeg, [], [0]⟩,
    ⟨"PROT_DBG", 0x3860, 0x3860, 0x00, 0x00, .u8, .ro, 1, .both, [8], [8]⟩,
    ⟨"PROT_DBG_CHALLENGE", 0x3860, 0x3860, 0x01, 0x01, .blob, .ro, 1, .both, [0], [0]⟩,
    ⟨"PROT_DBG_SCOPE", 0x3860, 0x3860, 0x02, 0x02, .u8, .rw, 1, .both, [0], [0]⟩,
    ⟨"PROT_DBG_DURATION", 0x3860, 0x3860, 0x03, 0x03, .u32, .rw, 1, .both, [600], [600]⟩,
    ⟨"PROT_DBG_KEY", 0x3860, 0x3860, 0x04, 0x04, .blob, .wo, 1, .both, [0], [0]⟩,
    ⟨"PROT_DBG_SIG", 0x3860, 0x3860, 0x05, 0x05, .blob, .wo, 1, .both, [0], [0]⟩,
    ⟨"PROT_DBG_STATUS", 0x3860, 0x3860, 0x06, 0x06, .u8, .ro, 1, .both, [0], [0]⟩,
    ⟨"PROT_DBG_EXPIRY", 0x3860, 0x3860, 0x07, 0x07, .time, .ro, 1, .both, [0], [0]⟩,
    ⟨"PROT_DBG_END", 0x3860, 0x3860, 0x08, 0x08, .u8, .wo, 1, .both, [0], [0]⟩,
    ⟨"PROT_DBG_MEM", 0x3861, 0x3861, 0x00, 0x00, .blob, .ro, 0, .shopostra, [0], []⟩,
    ⟨"PROT_PEER", 0x3870, 0x3870, 0x00, 0x00, .u8, .ro, 0, .shopostra, [16], []⟩,
    ⟨"PROT_PEER", 0x3870, 0x3870, 0x01, 0x10, .blob, .rw, 0, .shopostra, [0], []⟩ ]

/-- Objects of index block 0x40 (08_streams_and_sessions.md). -/
def objects40 : List ObjRow :=
  [ ⟨"STRM_CAPS", 0x4000, 0x4000, 0x00, 0x00, .u8, .ro, 2, .both, [3], [3]⟩,
    ⟨"STRM_CAPS", 0x4000, 0x4000, 0x01, 0x01, .u32, .ro, 2, .both, [65536], [32]⟩,
    ⟨"STRM_FREE", 0x4000, 0x4000, 0x02, 0x02, .u32, .ro, 2, .both, [65534], [32]⟩,
    ⟨"STRM_SESSIONS", 0x4000, 0x4000, 0x03, 0x03, .u16, .ro, 2, .both, [0], [0]⟩,
    ⟨"STRM_ENTRY_SEL", 0x4001, 0x4001, 0x00, 0x00, .u16, .rw, 1, .shopostra, [1], []⟩,
    ⟨"STRM_ENTRY", 0x4002, 0x4002, 0x00, 0x00, .blob, .ro, 1, .shopostra, [0], []⟩,
    ⟨"STRM_DESC", 0x4010, 0x4010, 0x00, 0x00, .u8, .ro, 1, .shopostra, [3], []⟩,
    ⟨"STRM_DESC_DATA", 0x4010, 0x4010, 0x01, 0x01, .u64, .wo, 1, .shopostra, [0], []⟩,
    ⟨"STRM_DESC_CURSOR", 0x4010, 0x4010, 0x02, 0x02, .u32, .rw, 1, .shopostra, [0], []⟩,
    ⟨"STRM_DESC_LEN", 0x4010, 0x4010, 0x03, 0x03, .u32, .rw, 1, .shopostra, [0], []⟩,
    ⟨"STRM_OPEN", 0x4011, 0x4011, 0x00, 0x00, .u8, .ro, 1, .shopostra, [3], []⟩,
    ⟨"STRM_OPEN", 0x4011, 0x4011, 0x01, 0x01, .u8, .wo, 1, .shopostra, [0], []⟩,
    ⟨"STRM_OPEN_SESSION", 0x4011, 0x4011, 0x02, 0x02, .u32, .ro, 1, .shopostra, [0], []⟩,
    ⟨"STRM_OPEN_RESULT", 0x4011, 0x4011, 0x03, 0x03, .u8, .ro, 1, .shopostra, [0], []⟩,
    ⟨"STRM_CLOSE", 0x4012, 0x4012, 0x00, 0x00, .u8, .ro, 1, .shopostra, [3], []⟩,
    ⟨"STRM_CLOSE", 0x4012, 0x4012, 0x01, 0x01, .u32, .rw, 1, .shopostra, [0], []⟩,
    ⟨"STRM_CLOSE", 0x4012, 0x4012, 0x02, 0x02, .time, .rw, 1, .shopostra, [0], []⟩,
    ⟨"STRM_CLOSE_RESULT", 0x4012, 0x4012, 0x03, 0x03, .u8, .ro, 1, .shopostra, [0], []⟩,
    ⟨"STRM_TIMING", 0x4013, 0x4013, 0x00, 0x00, .u8, .ro, 4, .both, [6], [6]⟩,
    ⟨"STRM_TIMING", 0x4013, 0x4013, 0x01, 0x06, .u32, .ro, 4, .both, [1000, 250, 2000, 500, 2000, 2000], [1000, 250, 2000, 500, 2000, 2000]⟩,
    ⟨"STRM_COUNTS", 0x4020, 0x4020, 0x00, 0x00, .u8, .ro, 2, .both, [6], [6]⟩,
    ⟨"STRM_EARLY", 0x4020, 0x4020, 0x01, 0x01, .u64, .rwc, 2, .both, [0], [0]⟩,
    ⟨"STRM_LATE_JOINS", 0x4020, 0x4020, 0x02, 0x02, .u32, .rwc, 2, .both, [0], [0]⟩,
    ⟨"STRM_REROUTES", 0x4020, 0x4020, 0x03, 0x03, .u32, .rwc, 2, .both, [0], [0]⟩,
    ⟨"STRM_DRAIN_TIMEOUTS", 0x4020, 0x4020, 0x04, 0x04, .u32, .rwc, 2, .both, [0], [0]⟩,
    ⟨"STRM_ORPHANS", 0x4020, 0x4020, 0x05, 0x05, .u32, .rwc, 2, .both, [0], [0]⟩,
    ⟨"STRM_STALE", 0x4020, 0x4020, 0x06, 0x06, .u64, .rwc, 2, .both, [0], [0]⟩ ]

/-- Objects of index block 0x41 (08_streams_and_sessions.md). -/
def objects41 : List ObjRow :=
  [ ⟨"STRM_SESSION", 0x4100, 0x41FF, 0x00, 0x00, .u8, .ro, 2, .both, [10], [10]⟩,
    ⟨"STRM_SESSION", 0x4100, 0x41FF, 0x01, 0x01, .u32, .ro, 2, .both, [0], [0]⟩,
    ⟨"STRM_SESSION", 0x4100, 0x41FF, 0x02, 0x02, .u8, .ro, 2, .both, [0], [0]⟩,
    ⟨"STRM_SESSION", 0x4100, 0x41FF, 0x03, 0x03, .time, .ro, 2, .both, [0], [0]⟩,
    ⟨"STRM_SESSION", 0x4100, 0x41FF, 0x04, 0x04, .time, .ro, 2, .both, [0], [0]⟩,
    ⟨"STRM_SESSION", 0x4100, 0x41FF, 0x05, 0x05, .time, .ro, 2, .both, [0], [0]⟩,
    ⟨"STRM_SESSION", 0x4100, 0x41FF, 0x06, 0x06, .u32, .ro, 2, .both, [0], [0]⟩,
    ⟨"STRM_SESSION", 0x4100, 0x41FF, 0x07, 0x07, .u32, .ro, 2, .both, [0], [0]⟩,
    ⟨"STRM_SESSION", 0x4100, 0x41FF, 0x08, 0x08, .u8, .ro, 2, .both, [0], [0]⟩,
    ⟨"STRM_SESSION", 0x4100, 0x41FF, 0x09, 0x09, .u32, .ro, 2, .both, [4294967295], [4294967295]⟩,
    ⟨"STRM_SESSION", 0x4100, 0x41FF, 0x0A, 0x0A, .u64, .ro, 2, .both, [0], [0]⟩ ]

/-- Objects of index block 0x48 (08_streams_and_sessions.md). -/
def objects48 : List ObjRow :=
  [ ⟨"STRM_VG_BIND", 0x4800, 0x4800, 0x00, 0x00, .u8, .ro, 2, .vangeg, [], [32]⟩,
    ⟨"STRM_VG_BIND", 0x4800, 0x4800, 0x01, 0x20, .u64, .ro, 2, .vangeg, [], [0]⟩ ]

/-- Objects of index block 0x50 (09_reduction.md). -/
def objects50a : List ObjRow :=
  [ ⟨"RED_CAPS", 0x5000, 0x5000, 0x00, 0x00, .u8, .ro, 2, .shopostra, [4], []⟩,
    ⟨"RED_CAPS", 0x5000, 0x5000, 0x01, 0x01, .u8, .ro, 2, .shopostra, [64], []⟩,
    ⟨"RED_CAPS", 0x5000, 0x5000, 0x02, 0x02, .u64, .ro, 2, .shopostra, [102400000000], []⟩,
    ⟨"RED_CAPS", 0x5000, 0x5000, 0x03, 0x03, .u32, .ro, 2, .shopostra, [524288], []⟩,
    ⟨"RED_CAPS", 0x5000, 0x5000, 0x04, 0x04, .u64, .ro, 2, .shopostra, [68719476736], []⟩,
    ⟨"RED_CELL_STATE", 0x5001, 0x5001, 0x00, 0x00, .u8, .ro, 2, .shopostra, [64], []⟩,
    ⟨"RED_CELL_STATE", 0x5001, 0x5001, 0x01, 0x40, .u8, .ro, 2, .shopostra, [0], []⟩,
    ⟨"RED_DESC_SEL", 0x5010, 0x5010, 0x00, 0x00, .u16, .rw, 1, .shopostra, [0], []⟩,
    ⟨"RED_DESC_CTRL", 0x5011, 0x5011, 0x00, 0x00, .u8, .ro, 1, .shopostra, [4], []⟩,
    ⟨"RED_DESC_DATA", 0x5011, 0x5011, 0x01, 0x01, .u64, .wo, 1, .shopostra, [0], []⟩,
    ⟨"RED_DESC_CURSOR", 0x5011, 0x5011, 0x02, 0x02, .u16, .rw, 1, .shopostra, [0], []⟩,
    ⟨"RED_DESC_COMMIT", 0x5011, 0x5011, 0x03, 0x03, .u8, .wo, 1, .shopostra, [0], []⟩,
    ⟨"RED_DESC_STATUS", 0x5011, 0x5011, 0x04, 0x04, .u8, .ro, 1, .shopostra, [0], []⟩,
    ⟨"RED_DESC_READ", 0x5012, 0x5012, 0x00, 0x00, .blob, .ro, 1, .shopostra, [0], []⟩,
    ⟨"RED_COUNTS", 0x5020, 0x5020, 0x00, 0x00, .u8, .ro, 2, .shopostra, [7], []⟩,
    ⟨"RED_LATE", 0x5020, 0x5020, 0x01, 0x01, .u64, .rwc, 2, .shopostra, [0], []⟩,
    ⟨"RED_DUP_INPUTS", 0x5020, 0x5020, 0x02, 0x02, .u64, .rwc, 2, .shopostra, [0], []⟩,
    ⟨"RED_DUP_SHARDS", 0x5020, 0x5020, 0x03, 0x03, .u64, .rwc, 2, .shopostra, [0], []⟩,
    ⟨"RED_OFFGRID", 0x5020, 0x5020, 0x04, 0x04, .u64, .rwc, 2, .shopostra, [0], []⟩,
    ⟨"RED_INCOMPLETE", 0x5020, 0x5020, 0x05, 0x05, .u64, .rwc, 2, .shopostra, [0], []⟩,
    ⟨"RED_CELL_FAULTS", 0x5020, 0x5020, 0x06, 0x06, .u32, .rwc, 2, .shopostra, [0], []⟩,
    ⟨"RED_MALFORMED", 0x5020, 0x5020, 0x07, 0x07, .u64, .rwc, 2, .shopostra, [0], []⟩,
    ⟨"RED_QUANTILE", 0x5030, 0x5030, 0x00, 0x00, .u8, .ro, 1, .shopostra, [7], []⟩,
    ⟨"RED_QUANTILE", 0x5030, 0x5030, 0x01, 0x01, .u16, .rw, 1, .shopostra, [1], []⟩,
    ⟨"RED_QUANTILE", 0x5030, 0x5030, 0x02, 0x02, .u8, .rw, 1, .shopostra, [0], []⟩,
    ⟨"RED_QUANTILE", 0x5030, 0x5030, 0x03, 0x03, .u16, .rw, 1, .shopostra, [0], []⟩,
    ⟨"RED_QUANTILE", 0x5030, 0x5030, 0x04, 0x04, .u32, .rw, 1, .shopostra, [32768], []⟩,
    ⟨"RED_QUANTILE", 0x5030, 0x5030, 0x05, 0x05, .u64, .ro, 1, .shopostra, [0], []⟩,
    ⟨"RED_QUANTILE", 0x5030, 0x5030, 0x06, 0x06, .u64, .ro, 1, .shopostra, [0], []⟩,
    ⟨"RED_QUANTILE", 0x5030, 0x5030, 0x07, 0x07, .u64, .ro, 1, .shopostra, [0], []⟩,
    ⟨"RED_READOUT", 0x5031, 0x5031, 0x00, 0x00, .u8, .ro, 1, .shopostra, [5], []⟩,
    ⟨"RED_READOUT", 0x5031, 0x5031, 0x01, 0x01, .u16, .rw, 1, .shopostra, [1], []⟩,
    ⟨"RED_READOUT", 0x5031, 0x5031, 0x02, 0x02, .u8, .rw, 1, .shopostra, [0], []⟩,
    ⟨"RED_READOUT", 0x5031, 0x5031, 0x03, 0x03, .u16, .rw, 1, .shopostra, [0], []⟩,
    ⟨"RED_READOUT", 0x5031, 0x5031, 0x04, 0x04, .u8, .rw, 1, .shopostra, [0], []⟩,
    ⟨"RED_READOUT", 0x5031, 0x5031, 0x05, 0x05, .blob, .ro, 1, .shopostra, [0], []⟩,
    ⟨"RED_LOG", 0x5040, 0x5040, 0x00, 0x00, .u8, .ro, 1, .shopostra, [4], []⟩,
    ⟨"RED_LOG_BYTES", 0x5040, 0x5040, 0x01, 0x01, .u64, .ro, 1, .shopostra, [0], []⟩,
    ⟨"RED_LOG_OLDEST", 0x5040, 0x5040, 0x02, 0x02, .time, .ro, 1, .shopostra, [0], []⟩,
    ⟨"RED_LOG_MIRROR_PORT", 0x5040, 0x5040, 0x03, 0x03, .u8, .ro, 1, .shopostra, [255], []⟩ ]

/-- Objects of index block 0x50 (09_reduction.md). -/
def objects50b : List ObjRow :=
  [ ⟨"RED_LOG_MIRROR_LOST", 0x5040, 0x5040, 0x04, 0x04, .u64, .rwc, 1, .shopostra, [0], []⟩,
    ⟨"RED_REPLAY", 0x5041, 0x5041, 0x00, 0x00, .u8, .ro, 1, .shopostra, [6], []⟩,
    ⟨"RED_REPLAY", 0x5041, 0x5041, 0x01, 0x01, .u16, .rw, 1, .shopostra, [1], []⟩,
    ⟨"RED_REPLAY", 0x5041, 0x5041, 0x02, 0x02, .u32, .rw, 1, .shopostra, [4294967295], []⟩,
    ⟨"RED_REPLAY", 0x5041, 0x5041, 0x03, 0x03, .time, .rw, 1, .shopostra, [0], []⟩,
    ⟨"RED_REPLAY", 0x5041, 0x5041, 0x04, 0x04, .time, .rw, 1, .shopostra, [0], []⟩,
    ⟨"RED_REPLAY_STATUS", 0x5041, 0x5041, 0x05, 0x05, .u8, .ro, 1, .shopostra, [0], []⟩,
    ⟨"RED_REPLAY_DONE", 0x5041, 0x5041, 0x06, 0x06, .u32, .ro, 1, .shopostra, [0], []⟩ ]

/-- Objects of index block 0x60 (10_detector_array.md, 11_detector_programs.md). -/
def objects60 : List ObjRow :=
  [ ⟨"TAN_CAPS", 0x6000, 0x6000, 0x00, 0x00, .u8, .ro, 2, .shopostra, [4], []⟩,
    ⟨"TAN_CAPS", 0x6000, 0x6000, 0x01, 0x01, .u8, .ro, 2, .shopostra, [48], []⟩,
    ⟨"TAN_CAPS", 0x6000, 0x6000, 0x02, 0x02, .u32, .ro, 2, .shopostra, [185600], []⟩,
    ⟨"TAN_CAPS", 0x6000, 0x6000, 0x03, 0x03, .u8, .ro, 2, .shopostra, [1], []⟩,
    ⟨"TAN_CAPS", 0x6000, 0x6000, 0x04, 0x04, .u8, .ro, 2, .shopostra, [1], []⟩,
    ⟨"TAN_TILE_STATE", 0x6001, 0x6001, 0x00, 0x00, .u8, .ro, 2, .shopostra, [48], []⟩,
    ⟨"TAN_TILE_STATE", 0x6001, 0x6001, 0x01, 0x30, .u8, .ro, 2, .shopostra, [0], []⟩,
    ⟨"TAN_TILE_MAP", 0x6002, 0x6002, 0x00, 0x00, .u8, .ro, 2, .shopostra, [48], []⟩,
    ⟨"TAN_TILE_MAP", 0x6002, 0x6002, 0x01, 0x30, .u8, .ro, 2, .shopostra, [0, 1, 2, 3, 4, 5, 6, 7, 8, 9, 10, 11, 12, 13, 14, 15, 16, 17, 18, 19, 20, 21, 22, 23, 24, 25, 26, 27, 28, 29, 30, 31, 32, 33, 34, 35, 36, 37, 38, 39, 40, 41, 42, 43, 44, 45, 46, 47], []⟩,
    ⟨"TAN_SCHED_END", 0x6003, 0x6003, 0x00, 0x00, .u32, .ro, 2, .shopostra, [0], []⟩,
    ⟨"TAN_COUNTS", 0x6004, 0x6004, 0x00, 0x00, .u8, .ro, 2, .shopostra, [5], []⟩,
    ⟨"TAN_STAGE_DROP", 0x6004, 0x6004, 0x01, 0x01, .u64, .rwc, 2, .shopostra, [0], []⟩,
    ⟨"TAN_LATE", 0x6004, 0x6004, 0x02, 0x02, .u64, .rwc, 2, .shopostra, [0], []⟩,
    ⟨"TAN_SKIPPED", 0x6004, 0x6004, 0x03, 0x03, .u32, .rwc, 2, .shopostra, [0], []⟩,
    ⟨"TAN_ALARM_DROP", 0x6004, 0x6004, 0x04, 0x04, .u32, .rwc, 2, .shopostra, [0], []⟩,
    ⟨"TAN_TILE_FAULTS", 0x6004, 0x6004, 0x05, 0x05, .u32, .rwc, 2, .shopostra, [0], []⟩,
    ⟨"TAN_FN_TABLE", 0x6005, 0x6005, 0x00, 0x00, .blob, .ro, 4, .shopostra, [0], []⟩,
    ⟨"SX_NONDET_EVENTS", 0x6010, 0x6010, 0x00, 0x00, .u8, .ro, 2, .shopostra, [8], []⟩,
    ⟨"SX_NONDET_EVENTS", 0x6010, 0x6010, 0x01, 0x08, .u64, .ro, 2, .shopostra, [0], []⟩,
    ⟨"TAN_SLOT_SEED", 0x6020, 0x6020, 0x00, 0x00, .u8, .ro, 1, .shopostra, [64], []⟩,
    ⟨"TAN_SLOT_SEED", 0x6020, 0x6020, 0x01, 0x40, .u64, .rw, 1, .shopostra, [0], []⟩ ]

/-- Objects of index block 0x61 (10_detector_array.md). -/
def objects61 : List ObjRow :=
  [ ⟨"TAN_SLOT", 0x6100, 0x613F, 0x00, 0x00, .u8, .ro, 1, .shopostra, [14], []⟩,
    ⟨"TAN_SLOT_STATE", 0x6100, 0x613F, 0x01, 0x01, .u8, .ro, 1, .shopostra, [0], []⟩,
    ⟨"TAN_SLOT_PROGRAM", 0x6100, 0x613F, 0x02, 0x02, .u32, .ro, 1, .shopostra, [0], []⟩,
    ⟨"TAN_SLOT_BASE", 0x6100, 0x613F, 0x03, 0x03, .u8, .rw, 1, .shopostra, [0], []⟩,
    ⟨"TAN_SLOT_TILES", 0x6100, 0x613F, 0x04, 0x04, .u8, .ro, 1, .shopostra, [0], []⟩,
    ⟨"TAN_SLOT_FOOTPRINT", 0x6100, 0x613F, 0x05, 0x05, .u32, .ro, 1, .shopostra, [0], []⟩,
    ⟨"TAN_SLOT_PHASES", 0x6100, 0x613F, 0x06, 0x06, .u8, .ro, 1, .shopostra, [0], []⟩,
    ⟨"TAN_SLOT_DURATION", 0x6100, 0x613F, 0x07, 0x07, .u32, .ro, 1, .shopostra, [0], []⟩,
    ⟨"TAN_SLOT_START", 0x6100, 0x613F, 0x08, 0x08, .u32, .ro, 1, .shopostra, [0], []⟩,
    ⟨"TAN_SLOT_OUT_LINES", 0x6100, 0x613F, 0x09, 0x09, .u8, .ro, 1, .shopostra, [0], []⟩,
    ⟨"TAN_SLOT_PARAM", 0x6100, 0x613F, 0x0A, 0x0A, .u64, .rw, 1, .shopostra, [0], []⟩,
    ⟨"TAN_SLOT_PARAM", 0x6100, 0x613F, 0x0B, 0x0B, .u64, .rw, 1, .shopostra, [0], []⟩,
    ⟨"TAN_SLOT_SESSION", 0x6100, 0x613F, 0x0C, 0x0C, .u32, .ro, 1, .shopostra, [0], []⟩,
    ⟨"TAN_SLOT_RUN_SEQ", 0x6100, 0x613F, 0x0D, 0x0D, .u32, .ro, 1, .shopostra, [0], []⟩,
    ⟨"TAN_SLOT_FAULTS", 0x6100, 0x613F, 0x0E, 0x0E, .u8, .rwc, 1, .shopostra, [0], []⟩ ]

/-- Objects of index block 0x62 (10_detector_array.md). -/
def objects62 : List ObjRow :=
  [ ⟨"TAN_INPUT", 0x6200, 0x63FF, 0x00, 0x00, .u8, .ro, 1, .shopostra, [7], []⟩,
    ⟨"TAN_INPUT_ENTRY", 0x6200, 0x63FF, 0x01, 0x01, .u16, .ro, 1, .shopostra, [0], []⟩,
    ⟨"TAN_INPUT_MAX_INTERVALS", 0x6200, 0x63FF, 0x02, 0x02, .u8, .rw, 1, .shopostra, [1], []⟩,
    ⟨"TAN_INPUT_LAT_MODE", 0x6200, 0x63FF, 0x03, 0x03, .u8, .rw, 1, .shopostra, [0], []⟩,
    ⟨"TAN_INPUT_LAT_Q", 0x6200, 0x63FF, 0x04, 0x04, .u64, .rw, 1, .shopostra, [32768], []⟩,
    ⟨"TAN_INPUT_LAT_Q", 0x6200, 0x63FF, 0x05, 0x05, .u64, .rw, 1, .shopostra, [0], []⟩,
    ⟨"TAN_INPUT_RAW_BYTES", 0x6200, 0x63FF, 0x06, 0x06, .u16, .rw, 1, .shopostra, [256], []⟩,
    ⟨"TAN_INPUT_AREA_OFF", 0x6200, 0x63FF, 0x07, 0x07, .u32, .ro, 1, .shopostra, [0], []⟩ ]

/-- Objects of index block 0x64 (11_detector_programs.md). -/
def objects64 : List ObjRow :=
  [ ⟨"TAN_LOAD", 0x6400, 0x6400, 0x00, 0x00, .u8, .ro, 1, .shopostra, [8], []⟩,
    ⟨"TAN_LOAD_DATA", 0x6400, 0x6400, 0x01, 0x01, .u64, .wo, 1, .shopostra, [0], []⟩,
    ⟨"TAN_LOAD_CURSOR", 0x6400, 0x6400, 0x02, 0x02, .u32, .rw, 1, .shopostra, [0], []⟩,
    ⟨"TAN_LOAD_LEN", 0x6400, 0x6400, 0x03, 0x03, .u32, .rw, 1, .shopostra, [0], []⟩,
    ⟨"TAN_LOAD_SLOT", 0x6400, 0x6400, 0x04, 0x04, .u8, .rw, 1, .shopostra, [0], []⟩,
    ⟨"TAN_LOAD_ROM", 0x6400, 0x6400, 0x05, 0x05, .u8, .rw, 1, .shopostra, [0], []⟩,
    ⟨"TAN_LOAD_COMMIT", 0x6400, 0x6400, 0x06, 0x06, .u8, .wo, 1, .shopostra, [0], []⟩,
    ⟨"TAN_LOAD_STATUS", 0x6400, 0x6400, 0x07, 0x07, .u8, .ro, 1, .shopostra, [0], []⟩,
    ⟨"TAN_LOAD_WORST", 0x6400, 0x6400, 0x08, 0x08, .u32, .ro, 1, .shopostra, [0], []⟩,
    ⟨"TAN_PROGRAM_KEYS", 0x6401, 0x6401, 0x00, 0x00, .u8, .ro, 0, .shopostra, [4], []⟩,
    ⟨"TAN_PROGRAM_KEYS", 0x6401, 0x6401, 0x01, 0x04, .blob, .rw, 0, .shopostra, [0], []⟩,
    ⟨"TAN_LIB", 0x6402, 0x6402, 0x00, 0x00, .blob, .ro, 4, .shopostra, [0], []⟩ ]

/-- Objects of index block 0x70 (01_fleet.md, 13_liveness_and_faults.md). -/
def objects70a : List ObjRow :=
  [ ⟨"LIVE_TIMING", 0x7000, 0x7000, 0x00, 0x00, .u8, .ro, 4, .both, [4], [4]⟩,
    ⟨"LIVE_TIMING", 0x7000, 0x7000, 0x01, 0x04, .u32, .ro, 4, .both, [2000, 500, 500, 1], [2000, 500, 500, 1]⟩,
    ⟨"LIVE_SELF", 0x7001, 0x7001, 0x00, 0x00, .u8, .ro, 4, .both, [3], [3]⟩,
    ⟨"LIVE_LEASE_EXPIRY", 0x7001, 0x7001, 0x01, 0x01, .time, .ro, 4, .both, [0], [0]⟩,
    ⟨"LIVE_FENCED", 0x7001, 0x7001, 0x02, 0x02, .u8, .ro, 4, .both, [1], [1]⟩,
    ⟨"LIVE_RESET_EPOCH", 0x7001, 0x7001, 0x03, 0x03, .u32, .ro, 4, .both, [0], [0]⟩,
    ⟨"LIVE_STATE", 0x7002, 0x7002, 0x00, 0x00, .u8, .ro, 2, .both, [48], [1]⟩,
    ⟨"LIVE_STATE", 0x7002, 0x7002, 0x01, 0x30, .u8, .ro, 2, .both, [0], [0]⟩,
    ⟨"LIVE_LAST_HB", 0x7003, 0x7003, 0x00, 0x00, .u8, .ro, 2, .both, [48], [1]⟩,
    ⟨"LIVE_LAST_HB", 0x7003, 0x7003, 0x01, 0x30, .u64, .ro, 2, .both, [0], [0]⟩,
    ⟨"LIVE_COUNTS", 0x7004, 0x7004, 0x00, 0x00, .u8, .ro, 2, .both, [7], [7]⟩,
    ⟨"LIVE_MISSED", 0x7004, 0x7004, 0x01, 0x01, .u64, .rwc, 2, .both, [0], [0]⟩,
    ⟨"LIVE_DECLARED", 0x7004, 0x7004, 0x02, 0x02, .u32, .rwc, 2, .both, [0], [0]⟩,
    ⟨"LIVE_BLOCKED", 0x7004, 0x7004, 0x03, 0x03, .u32, .rwc, 2, .both, [0], [0]⟩,
    ⟨"LIVE_DEAD_FRAMES", 0x7004, 0x7004, 0x04, 0x04, .u64, .rwc, 2, .both, [0], [0]⟩,
    ⟨"LIVE_STALE_REPLIES", 0x7004, 0x7004, 0x05, 0x05, .u64, .rwc, 2, .both, [0], [0]⟩,
    ⟨"LIVE_NOTICE_DROP", 0x7004, 0x7004, 0x06, 0x06, .u32, .rwc, 2, .both, [0], [0]⟩,
    ⟨"LIVE_GAMBIT_WITHHELD", 0x7004, 0x7004, 0x07, 0x07, .u32, .rwc, 2, .both, [0], [0]⟩,
    ⟨"LIVE_FENCE_CMD", 0x7005, 0x7005, 0x00, 0x00, .u8, .ro, 1, .shopostra, [3], []⟩,
    ⟨"LIVE_FENCE_CMD", 0x7005, 0x7005, 0x01, 0x01, .u32, .rw, 1, .shopostra, [4294967295], []⟩,
    ⟨"LIVE_FENCE_CMD", 0x7005, 0x7005, 0x02, 0x02, .time, .rw, 1, .shopostra, [0], []⟩,
    ⟨"LIVE_FENCE_STATUS", 0x7005, 0x7005, 0x03, 0x03, .u8, .ro, 1, .shopostra, [0], []⟩,
    ⟨"LIVE_ASSIGN", 0x7010, 0x7010, 0x00, 0x00, .u8, .ro, 1, .shopostra, [3], []⟩,
    ⟨"LIVE_ASSIGN", 0x7010, 0x7010, 0x01, 0x01, .u32, .wo, 1, .shopostra, [0], []⟩,
    ⟨"LIVE_ASSIGN", 0x7010, 0x7010, 0x02, 0x02, .u32, .wo, 1, .shopostra, [0], []⟩,
    ⟨"LIVE_ASSIGN", 0x7010, 0x7010, 0x03, 0x03, .u8, .ro, 1, .shopostra, [0], []⟩,
    ⟨"LIVE_CASTLE", 0x7011, 0x7011, 0x00, 0x00, .u8, .ro, 1, .shopostra, [6], []⟩,
    ⟨"LIVE_CASTLE", 0x7011, 0x7011, 0x01, 0x01, .u32, .rw, 1, .shopostra, [4294967295], []⟩,
    ⟨"LIVE_CASTLE", 0x7011, 0x7011, 0x02, 0x02, .u32, .rw, 1, .shopostra, [0], []⟩,
    ⟨"LIVE_CASTLE", 0x7011, 0x7011, 0x03, 0x03, .time, .rw, 1, .shopostra, [0], []⟩,
    ⟨"LIVE_CASTLE_STATUS", 0x7011, 0x7011, 0x04, 0x04, .u8, .ro, 1, .shopostra, [0], []⟩,
    ⟨"LIVE_CASTLE_GEN", 0x7011, 0x7011, 0x05, 0x05, .u32, .ro, 1, .shopostra, [0], []⟩,
    ⟨"LIVE_CASTLE_STALE", 0x7011, 0x7011, 0x06, 0x06, .u64, .rwc, 1, .shopostra, [0], []⟩,
    ⟨"LIVE_LOGICAL_MAP", 0x7012, 0x7012, 0x00, 0x00, .blob, .ro, 1, .shopostra, [0], []⟩,
    ⟨"LIVE_NOTICE_LOG", 0x7020, 0x7020, 0x00, 0x00, .blob, .ro, 2, .vangeg, [], [0]⟩,
    ⟨"LIVE_NOTICE_SLICE", 0x7021, 0x7021, 0x00, 0x00, .u8, .rw, 2, .vangeg, [], [255]⟩,
    ⟨"LIVE_GAMBIT", 0x7030, 0x7030, 0x00, 0x00, .u8, .ro, 1, .shopostra, [8], []⟩,
    ⟨"LIVE_GAMBIT", 0x7030, 0x7030, 0x01, 0x01, .u8, .rw, 1, .shopostra, [0], []⟩,
    ⟨"LIVE_GAMBIT", 0x7030, 0x7030, 0x02, 0x02, .u32, .rw, 1, .shopostra, [4294967295], []⟩,
    ⟨"LIVE_GAMBIT", 0x7030, 0x7030, 0x03, 0x03, .u16, .rw, 1, .shopostra, [0], []⟩ ]

/-- Objects of index block 0x70 (13_liveness_and_faults.md). -/
def objects70b : List ObjRow :=
  [ ⟨"LIVE_GAMBIT", 0x7030, 0x7030, 0x04, 0x04, .u16, .rw, 1, .shopostra, [1], []⟩,
    ⟨"LIVE_GAMBIT", 0x7030, 0x7030, 0x05, 0x05, .u32, .rw, 1, .shopostra, [0], []⟩,
    ⟨"LIVE_GAMBIT", 0x7030, 0x7030, 0x06, 0x06, .u16, .rw, 1, .shopostra, [1], []⟩,
    ⟨"LIVE_GAMBIT", 0x7030, 0x7030, 0x07, 0x07, .time, .rw, 1, .shopostra, [0], []⟩,
    ⟨"LIVE_GAMBIT_STATUS", 0x7030, 0x7030, 0x08, 0x08, .u8, .ro, 1, .shopostra, [0], []⟩,
    ⟨"LIVE_GAMBIT_LOG", 0x7031, 0x7031, 0x00, 0x00, .blob, .ro, 2, .vangeg, [], [0]⟩ ]

/-- Objects of index block 0x71 (15_history_and_recorder.md). -/
def objects71 : List ObjRow :=
  [ ⟨"HIST_CAPS", 0x7100, 0x7100, 0x00, 0x00, .u8, .ro, 2, .shopostra, [4], []⟩,
    ⟨"HIST_CAPS", 0x7100, 0x7100, 0x01, 0x01, .u16, .ro, 2, .shopostra, [2016], []⟩,
    ⟨"HIST_CAPS", 0x7100, 0x7100, 0x02, 0x02, .u32, .ro, 2, .shopostra, [67108864], []⟩,
    ⟨"HIST_CAPS", 0x7100, 0x7100, 0x03, 0x03, .u16, .ro, 2, .shopostra, [256], []⟩,
    ⟨"HIST_UNITS_FREE", 0x7100, 0x7100, 0x04, 0x04, .u16, .ro, 2, .shopostra, [2015], []⟩,
    ⟨"HIST_RETAIN_S", 0x7101, 0x7101, 0x00, 0x00, .u16, .rw, 1, .shopostra, [10], []⟩,
    ⟨"HIST_WRITE_LIMIT", 0x7102, 0x7102, 0x00, 0x00, .u32, .rw, 1, .shopostra, [400000], []⟩,
    ⟨"HIST_EXPORT_LIMIT", 0x7103, 0x7103, 0x00, 0x00, .u32, .ro, 2, .shopostra, [40000], []⟩,
    ⟨"HIST_RING_SEL", 0x7110, 0x7110, 0x00, 0x00, .u8, .rw, 1, .shopostra, [0], []⟩,
    ⟨"HIST_RING", 0x7111, 0x7111, 0x00, 0x00, .u8, .ro, 1, .shopostra, [7], []⟩,
    ⟨"HIST_RING", 0x7111, 0x7111, 0x01, 0x01, .u8, .ro, 1, .shopostra, [0], []⟩,
    ⟨"HIST_RING", 0x7111, 0x7111, 0x02, 0x02, .u16, .ro, 1, .shopostra, [0], []⟩,
    ⟨"HIST_RING", 0x7111, 0x7111, 0x03, 0x03, .u32, .ro, 1, .shopostra, [0], []⟩,
    ⟨"HIST_RING", 0x7111, 0x7111, 0x04, 0x04, .u16, .ro, 1, .shopostra, [0], []⟩,
    ⟨"HIST_RING", 0x7111, 0x7111, 0x05, 0x05, .u64, .ro, 1, .shopostra, [0], []⟩,
    ⟨"HIST_RING", 0x7111, 0x7111, 0x06, 0x06, .u64, .ro, 1, .shopostra, [0], []⟩,
    ⟨"HIST_RING", 0x7111, 0x7111, 0x07, 0x07, .u64, .ro, 1, .shopostra, [0], []⟩,
    ⟨"HIST_SEEK", 0x7112, 0x7112, 0x00, 0x00, .time, .wo, 1, .shopostra, [0], []⟩,
    ⟨"HIST_CURSOR", 0x7113, 0x7113, 0x00, 0x00, .u64, .rw, 1, .shopostra, [0], []⟩,
    ⟨"HIST_READ", 0x7114, 0x7114, 0x00, 0x00, .blob, .ro, 1, .shopostra, [0], []⟩,
    ⟨"HIST_COUNTS", 0x7120, 0x7120, 0x00, 0x00, .u8, .ro, 2, .shopostra, [3], []⟩,
    ⟨"HIST_ECC_CORR", 0x7120, 0x7120, 0x01, 0x01, .u64, .rwc, 2, .shopostra, [0], []⟩,
    ⟨"HIST_ECC_UNCORR", 0x7120, 0x7120, 0x02, 0x02, .u32, .rwc, 2, .shopostra, [0], []⟩,
    ⟨"HIST_EXPORT_LOST", 0x7120, 0x7120, 0x03, 0x03, .u64, .rwc, 2, .shopostra, [0], []⟩ ]

/-- Objects of index block 0x72 (17_management.md). -/
def objects72 : List ObjRow :=
  [ ⟨"MGT_BOOT", 0x7200, 0x7200, 0x00, 0x00, .u8, .ro, 2, .shopostra, [3], []⟩,
    ⟨"MGT_BOOT_STATE", 0x7200, 0x7200, 0x01, 0x01, .u8, .ro, 2, .shopostra, [0], []⟩,
    ⟨"MGT_FW_BUILD", 0x7200, 0x7200, 0x02, 0x02, .u64, .ro, 4, .shopostra, [0], []⟩,
    ⟨"MGT_RECOVERY_TRIES", 0x7200, 0x7200, 0x03, 0x03, .u32, .ro, 2, .shopostra, [0], []⟩,
    ⟨"MGT_SEC_FLOOR", 0x7201, 0x7201, 0x00, 0x00, .u8, .rw, 0, .shopostra, [0], []⟩,
    ⟨"MGT_RESET", 0x7202, 0x7202, 0x00, 0x00, .u8, .wo, 0, .shopostra, [0], []⟩,
    ⟨"MGT_UPDATE", 0x7203, 0x7203, 0x00, 0x00, .u8, .ro, 0, .shopostra, [6], []⟩,
    ⟨"MGT_UPDATE", 0x7203, 0x7203, 0x01, 0x01, .blob, .rw, 0, .shopostra, [0], []⟩,
    ⟨"MGT_UPDATE", 0x7203, 0x7203, 0x02, 0x02, .blob, .rw, 0, .shopostra, [0], []⟩,
    ⟨"MGT_UPDATE_CMD", 0x7203, 0x7203, 0x03, 0x03, .u8, .wo, 0, .shopostra, [0], []⟩,
    ⟨"MGT_UPDATE_STATUS", 0x7203, 0x7203, 0x04, 0x04, .u8, .ro, 1, .shopostra, [0], []⟩,
    ⟨"MGT_UPDATE_SECTOR", 0x7203, 0x7203, 0x05, 0x05, .u16, .ro, 1, .shopostra, [0], []⟩,
    ⟨"MGT_UPDATE_BUILD", 0x7203, 0x7203, 0x06, 0x06, .u64, .ro, 1, .shopostra, [0], []⟩,
    ⟨"MGT_PARAM", 0x7210, 0x7210, 0x00, 0x00, .u8, .ro, 0, .shopostra, [8], []⟩,
    ⟨"MGT_PARAM", 0x7210, 0x7210, 0x01, 0x02, .u64, .rw, 0, .shopostra, [0], []⟩,
    ⟨"MGT_PARAM", 0x7210, 0x7210, 0x03, 0x03, .blob, .rw, 0, .shopostra, [0], []⟩,
    ⟨"MGT_PARAM", 0x7210, 0x7210, 0x04, 0x04, .blob, .rw, 0, .shopostra, [0], []⟩,
    ⟨"MGT_PARAM", 0x7210, 0x7210, 0x05, 0x05, .blob, .rw, 0, .shopostra, [0], []⟩,
    ⟨"MGT_PARAM", 0x7210, 0x7210, 0x06, 0x06, .blob, .rw, 0, .shopostra, [0], []⟩,
    ⟨"MGT_ETH_FEC", 0x7210, 0x7210, 0x07, 0x07, .u8, .rw, 0, .shopostra, [1], []⟩,
    ⟨"MGT_PARAM_COMMIT", 0x7210, 0x7210, 0x08, 0x08, .u8, .wo, 0, .shopostra, [0], []⟩,
    ⟨"MGT_ETH_MODE", 0x7211, 0x7211, 0x00, 0x00, .u8, .rw, 1, .shopostra, [0], []⟩,
    ⟨"MGT_ETH_LINK", 0x7212, 0x7212, 0x00, 0x00, .u8, .ro, 2, .shopostra, [2], []⟩,
    ⟨"MGT_ETH_LINK", 0x7212, 0x7212, 0x01, 0x02, .u8, .ro, 2, .shopostra, [0], []⟩ ]

/-- The rows of the index block that holds `idx` (Table 19-1). -/
def objectBlock (idx : Nat) : List ObjRow :=
  if idx / 256 = 0x10 then objects10
  else if idx / 256 = 0x11 then objects11
  else if idx / 256 = 0x12 then objects12a ++ objects12b
  else if idx / 256 = 0x13 then objects13
  else if idx / 256 = 0x14 then objects14a ++ objects14b ++ objects14c ++ objects14d
  else if 0x2000 ≤ idx ∧ idx < 0x2800 then objects20
  else if idx / 256 = 0x28 then objects28
  else if idx / 256 = 0x29 then objects29
  else if idx / 256 = 0x2A then objects2A
  else if idx / 256 = 0x2B then objects2B
  else if idx / 256 = 0x2C then objects2C
  else if idx / 256 = 0x30 then objects30
  else if idx / 256 = 0x31 then objects31
  else if idx / 256 = 0x32 then objects32
  else if idx / 256 = 0x34 then objects34
  else if idx / 256 = 0x35 then objects35
  else if idx / 256 = 0x36 then objects36a ++ objects36b
  else if idx / 256 = 0x37 then objects37
  else if idx / 256 = 0x38 then objects38
  else if idx / 256 = 0x40 then objects40
  else if idx / 256 = 0x41 then objects41
  else if idx / 256 = 0x48 then objects48
  else if idx / 256 = 0x50 then objects50a ++ objects50b
  else if idx / 256 = 0x60 then objects60
  else if idx / 256 = 0x61 then objects61
  else if idx / 256 = 0x62 ∨ idx / 256 = 0x63 then objects62
  else if idx / 256 = 0x64 then objects64
  else if idx / 256 = 0x70 then objects70a ++ objects70b
  else if idx / 256 = 0x71 then objects71
  else if idx / 256 = 0x72 then objects72
  else []

/-- Every row of the dictionary. -/
def objectRows : List ObjRow :=
  objects10 ++ objects11 ++ objects12a ++ objects12b ++ objects13 ++ objects14a ++ objects14b ++ objects14c ++ objects14d ++ objects20 ++ objects28 ++ objects29 ++ objects2A ++ objects2B ++ objects2C ++ objects30 ++ objects31 ++ objects32 ++ objects34 ++ objects35 ++ objects36a ++ objects36b ++ objects37 ++ objects38 ++ objects40 ++ objects41 ++ objects48 ++ objects50a ++ objects50b ++ objects60 ++ objects61 ++ objects62 ++ objects64 ++ objects70a ++ objects70b ++ objects71 ++ objects72

end Sys2Proof.Machine
end

