-- ==== Sys2Proof/Machine/State.lean ====
section
/-! DEFINITION. The state of the two parts as plain data. Every object of the dictionary has ONE home, the register
store `dict` (key index * 256 + subindex; an unlisted key reads the object's default); everything that no object shows
stands in typed units, one structure per subsystem. `State.pending` is the queue of waiting commands. -/

namespace Sys2Proof.Machine

/-- Why the machine stops. -/
inductive Fault where
  /-- Raised by no meaning of this model: every command of the table has a next state. Kept so that the type is
  inhabited; safe. -/
  | none
  deriving DecidableEq, Repr

/-- Why a command has no meaning. -/
inductive Refusal where
  /-- A command whose meaning is not written yet: raised by `exec` only; safe. -/
  | notModelled (mnemonic : String)
  deriving DecidableEq, Repr

/-- Abort codes (Table 19-7). -/
inductive Abort where
  | protocol | noRoute | targetReset | busy | timeout | noObject | privilege | readOnly | writeOnly
  | type | value | state | hardware
  deriving DecidableEq, Repr

/-- Where a frame, record or word leaves the part. -/
inductive Dest where
  | port (p : Nat) | lane (port lane : Nat) | activeParent | parents | partner | children
  | parentsAndPartner | childrenAndPartner | die (logical : Nat) | apex | management | nowhere
  deriving DecidableEq, Repr

/-- What the part sends: the model's own log of everything that leaves it, newest first. -/
inductive Msg where
  /-- A response on the path of the request (Table 19-5). -/
  | response (path : Path) (r : CtlResponse)
  /-- A request relayed onward (R589). -/
  | forward (d : Dest) (source : Nat) (r : CtlRequest)
  /-- A CONTROL record or message: TYPE and its fields in the order of its layout. -/
  | record (d : Dest) (type : Nat) (fields : List Nat)
  /-- A CONTROL message whose TYPE and layout the spec does not state, named by what it says. -/
  | message (d : Dest) (what : String) (fields : List Nat)
  /-- A DATA message: stream tag, stream epoch, SOURCE and payload fields. -/
  | data (d : Dest) (tag epoch source : Nat) (payload : List Nat)
  /-- A TIME frame (Table 2-9): fields in layout order. -/
  | time (d : Dest) (fields : List Nat)
  /-- A control word (Table 6-2): CTYPE and its 56 low bits. -/
  | word (d : Dest) (ctype bits : Nat)
  /-- A write on the host memory write port: identifier, PASID, address, bytes, interrupt flag, payload fields. -/
  | hostWrite (id pasid addr bytes : Nat) (intr : Bool) (payload : List Nat)
  /-- A datagram on management Ethernet: Ethernet port, UDP port, destination, fields. -/
  | datagram (port udp dst : Nat) (fields : List Nat)
  /-- A PTP message: port, kind, fields. -/
  | ptp (port kind : Nat) (fields : List Nat)
  /-- A programming or erase operation on NOR or fuses: address and fields. -/
  | program (device addr : Nat) (fields : List Nat)
  /-- An I3C answer: fields. -/
  | i3c (fields : List Nat)
  deriving DecidableEq, Repr

/-- Output pins and handshake lines of the two parts (Tables 3-1 to 3-3 and 20-1). -/
inductive Pin where
  | fenceOut | cleanEpoch | cleanEpochTgl | testIso (b : Nat) | pwrAck (i : Nat) | wrstAck | hmwSqValid | hrpReady
  | errReady | audReqValid | thermtripN | lasEn (input : Nat) | spiCsN | clkOut
  -- inputs the part remembers
  | pwrReq (i : Nat) | wrstReq | vgCrstN | testIsoAck (b : Nat) | porstN | resetN | lasPresN (input : Nat)
  -- 1 while the reference clock runs
  | refclk (clk : Nat)
  deriving DecidableEq, Repr

/-- A requester, for stagings and ordering (R584, R588). -/
inductive Requester where
  | hrp (tag : Nat) | i3c | ctl (source number : Nat)
  deriving DecidableEq, Repr

/-- A staging of a wide value (R584). -/
structure Staging where
  who : Requester
  key : Nat
  words : List (Nat × Nat)
  last : Ticks
  pasid : Nat
  deriving DecidableEq, Repr

/-- A part fence in progress (R594): what it waits for is everything whose serial is below `serial`. -/
structure Fence where
  serial : Nat
  /-- `some v`: FENCE_REQ was written with v. -/
  req : Option Nat
  /-- Otherwise the FENCE request to answer. -/
  path : Path
  source : Nat
  reqId : Nat
  /-- INDEX and SUB of the request, which its response echoes. -/
  idx : Nat
  sub : Nat
  deriving DecidableEq, Repr

/-- A relayed request (R590, R591). -/
structure Relayed where
  source : Nat
  reqId : Nat
  back : Path
  out : Nat
  since : Ticks
  ingress : Bool
  /-- The reset epoch of the target, as this relay holds it; whether the neighbour on `out` is the target (R455). -/
  epoch : Nat
  last : Bool
  op : DictOp
  idx : Nat
  sub : Nat
  deriving DecidableEq, Repr

/-- The dictionary's transaction state (19_object_dictionary.md). -/
structure Ctl where
  stagings : List Staging
  /-- Implicit BLOB cursors, by path kind (0 register port, 1 I3C, 2 CONTROL) and object key (R586). -/
  cursors : List ((Nat × Nat) × Nat)
  /-- Word 1 of a TIME value latched for a requester (R583). -/
  latched : List (Requester × Nat × Nat)
  /-- Requests accepted at the instant `accepted`, outstanding until Tempo leaves it (R102, R588). -/
  accepted : Ticks
  outstanding : List (Path × Nat × Nat)
  relayed : List Relayed
  fences : List Fence
  /-- Serial number of the next thing a part fence may wait for. -/
  serial : Nat
  /-- The I3C target's response: tag, abort code, data (R141). -/
  i3c : Option (Nat × Nat × Nat)
  i3cSince : Ticks
  deriving DecidableEq, Repr

/-- A debug authorisation (R561 to R563). -/
structure DebugAuth where
  /-- The live nonce: none when voided. -/
  nonce : Option Nat
  key : Nat
  expiry : Option Ticks
  scope : Nat
  failures : Nat
  lockedUntil : Option Ticks
  deriving DecidableEq, Repr

/-- The exchange state of one lane (R82 to R88). -/
structure Exchange where
  /-- Of a lane, but for `paths` and `offsets`, which a link holds (a Shopostra's port, a Vangeg's lane). Upper end: SEQ
  of the last DOWN frame, its t1, and t4 of the last UP frame. -/
  seq : Nat
  t1 : Ticks
  t4 : Ticks
  answered : Bool
  /-- Lower end: t1, t2 and t3 of the exchange whose t4 the next DOWN frame brings. -/
  open_ : Option (Nat × Ticks × Ticks × Ticks)
  /-- The last 64 mean paths and the last 8 offsets, newest first, in 1/256 ns. -/
  paths : List Int
  offsets : List Int
  /-- Instant of the last completed exchange and whether the sender reported LOCKED (R88). -/
  lastDone : Option Ticks
  senderLocked : Bool
  /-- Board cycles in a row with a MODE violation (Table 6-8, 0x060C). -/
  modeErrors : Nat
  /-- Exchanges completed in the present training (R243). -/
  trained : Nat
  deriving DecidableEq, Repr

/-- A chord record waiting for its partner (R92). -/
structure ChordWait where
  msgId : Nat
  a : Nat
  b : Nat
  stamp : Ticks
  dir : Nat
  deriving DecidableEq, Repr

/-- The Tempo unit (02_tempo.md). -/
structure TempoUnit where
  /-- Slew term of the increment, 2^-32 ns per tick. -/
  slew : Int
  /-- Last clockClass of the grandmaster (R77). -/
  gmClass : Nat
  everLocked : Bool
  lowRun : Nat
  highRun : Nat
  /-- A pending change of format: the instant S and the new mode (R55). -/
  switchAt : Option (Ticks × Nat)
  /-- The last switch instant (R56). -/
  switchedAt : Option Ticks
  exch : List (Nat × Exchange)
  /-- Time-source port or lane in use (R87). -/
  source : Option Nat
  returnRun : Nat
  diffRun : Nat
  /-- Validity of the apex sources of Table 2-7: PTP phase, SyncE frequency, 1PPS. -/
  ptpValid : Bool
  synceValid : Bool
  ppsValid : Bool
  ppsRejects : Nat
  /-- Seconds for the next 1PPS edge from TEMPO_TOD. -/
  tod : Option Nat
  holdoverSince : Option Ticks
  hops : Nat
  /-- The quality level configured by firmware (R79), as an SSM code. -/
  minQl : Nat
  chordWaiting : List ChordWait
  /-- Per ordered pair: matched messages and least transit in the window (R93). -/
  chordPairs : List ((Nat × Nat) × (Nat × Int))
  /-- Published results: die, theta_x, fitted peers, fault flag (R95). -/
  chordResult : List (Nat × Int × Nat × Bool)
  chordExpired : Nat
  deriving DecidableEq, Repr

/-- One event record held in a log (R493, R496). -/
structure Record where
  pos : Nat
  sev : Nat
  type : Nat
  seq : Nat
  ophours : Nat
  pcycles : Nat
  /-- Physical address of the originating part. -/
  phys : Nat
  payload : List Nat
  deriving DecidableEq, Repr

/-- The event recorder (15_history_and_recorder.md). -/
structure Recorder where
  volatileLog : List Record
  volatileNext : Nat
  persistentLog : List Record
  persistentNext : Nat
  /-- Removal counters of the two logs. -/
  volatileRemoved : Nat
  persistentRemoved : Nat
  /-- Forwarded records awaiting an answer: POS, tray port, sends, due instant (R499). -/
  forwards : List (Nat × Nat × Nat × Ticks)
  /-- Persist queue: volatile POS waiting, hour number and bytes copied in it (R506). -/
  persistWaiting : List Nat
  persistHour : Nat
  persistBytes : Nat
  /-- The record being read through REC_READ: its POS, and the words of it still to come (R498). -/
  readPos : Option Nat
  reading : List Nat
  /-- The volatile log is lost with its HBM stack (R509). -/
  noVolatile : Bool
  /-- Identities of the last 64 forwarded records per child port (R500). -/
  seen : List (Nat × List (Nat × Nat × Nat))
  /-- Identities of error reports already stored: PHYS, SEQ (R427). -/
  reportsSeen : List (Nat × Nat)
  /-- OPHOURS unit: time counted toward the next 1/64 h. -/
  hoursKnown : Bool
  deriving DecidableEq, Repr

/-- One lane of a port. Whether the lane is in the agreed set is object PORT_LANE_USABLE. -/
structure Lane where
  /-- Word lock and FEC alignment (R244). -/
  locked : Bool
  /-- Usable as this end reports it, as the partner last reported it, and in the set agreed for the next cycle. -/
  mine : Bool
  partners : Bool
  next : Bool
  /-- Board cycles in a row over PORT_DEGRADE_SER; uncorrectable codewords and errored symbols in this cycle (R247). -/
  serRun : Nat
  uncorr : Nat
  ser : Nat
  /-- Board cycles in a row without a condition of R247, while retrained (R248). -/
  cleanRun : Nat
  retraining : Bool
  wordSeen : Bool
  flagWords : Nat
  /-- Per queue: frames sent, frames received, and the last CREDIT_SYNC figure (R242). -/
  sent : List (Nat × Nat)
  received : List (Nat × Nat)
  syncLast : List (Nat × Nat)
  deriving DecidableEq, Repr

/-- A message being assembled from fragments (R230). -/
structure Partial where
  source : Nat
  tag : Nat
  next : Nat
  payload : List Nat
  deriving DecidableEq, Repr

/-- One port (06_links.md). -/
structure Port where
  lanes : List Lane
  since : Ticks
  /-- The partner's IDENT as accepted at training: KIND, ROLE, FLAGS, PHYS, LOGICAL, TRAY, SLOT. -/
  ident : Option (List Nat)
  /-- Credits: offered by the partner, sent and freed, per queue. -/
  offered : List (Nat × Nat)
  spent : List (Nat × Nat)
  freed : List (Nat × Nat)
  /-- Credits this part granted at the port's training, frames it has freed, the counts last returned, and the queue
  whose turn to return comes next (R240, R241). -/
  granted : List (Nat × Nat)
  mine : List (Nat × Nat)
  returned : List (Nat × Nat)
  creditTurn : Nat
  /-- Next LSEQ expected per queue, and frames held in the reorder window (R231): queue, LSEQ, arrival. -/
  lseq : List (Nat × Nat)
  held : List (Frame × Ticks)
  lseqOut : List (Nat × Nat)
  /-- Guard windows in a row without a valid LANE word (R247). -/
  missing : Nat
  partials : List (Nat × Partial)
  /-- Log codes already recorded in this board cycle (R251). -/
  logged : List Nat
  noCredit : Nat
  heartbeats : Nat
  identCycles : Nat
  deriving DecidableEq, Repr

/-- What a host memory write carries (R105, R175 to R177). -/
inductive WriteUse where
  /-- Unit n of a ring: 0 dump, 1 sampling, 2 + k trace ring k. -/
  | unit (ring unit : Nat)
  /-- The mirror write of a ring. -/
  | mirror (ring : Nat)
  | interrupt
  deriving DecidableEq, Repr

/-- An outstanding write on the host memory write port (R103, R104). -/
structure HostWrite where
  id : Nat
  pasid : Nat
  addr : Nat
  bytes : Nat
  cls : Nat
  use : WriteUse
  serial : Nat
  /-- Offset of the first strobed byte in its beat, then the bytes. -/
  payload : List Nat
  deriving DecidableEq, Repr

/-- A unit of work (R253, R254): its class, the slice whose grant it may draw on, the source that orders it, its LINK
port, its whole cost, and what leaves the part when it starts. -/
structure WorkUnit where
  serial : Nat
  cls : Nat
  slice : Option Nat
  source : Nat
  port : Nat
  link : Nat
  hmw : Nat
  intr : Nat
  iso : Nat
  /-- Egress queue, where it is not the class's (the log mirror always uses queue 7, R265). -/
  queue : Option Nat
  isData : Bool
  msgs : List Msg
  /-- The writes of a host unit, issued when it starts. -/
  host : List HostWrite
  deriving DecidableEq, Repr

/-- A message in an egress queue (R265, R266). -/
structure QueueMsg where
  serial : Nat
  frames : Nat
  sent : Nat
  isData : Bool
  granted : Bool
  since : Ticks
  /-- The class that its frames are consumed in. -/
  cls : Nat
  deriving DecidableEq, Repr

/-- The budget enforcer, gate lists, queues and buckets (07_budgets_and_shaping.md). -/
structure Budget where
  /-- Amounts taken in this cycle: (level, class, resource, port), where level is 0 the class pool, 1 the port pool,
  and 2 + s the grant of slice s. -/
  used : List ((Nat × Nat × Nat × Nat) × Nat)
  /-- Amount consumed in this cycle by (class, resource), for BUD_USED_LAST. -/
  consumed : List ((Nat × Nat) × Nat)
  /-- Amounts written in this cycle: the value still in effect until the next board-cycle start (R257). -/
  inEffect : List (Nat × Nat)
  /-- Units waiting under STALL, oldest first, and units started but not finished. -/
  waiting : List WorkUnit
  running : List WorkUnit
  /-- Serial numbers of units dropped or abandoned after they were accepted for waiting, not yet told to their source. -/
  lostUnits : List Nat
  /-- Host writes of started units, on their way to the host memory write port. -/
  issuing : List HostWrite
  /-- Classes in which a unit waited in this cycle (R260). -/
  stalled : List Nat
  /-- Classes exhausted until the next renewal (R277). -/
  exhausted : List Nat
  isoReserved : Nat
  isoConsumed : Nat
  /-- Ports whose operational list a parity error replaces at the next cycle start (R277). -/
  gclReset : List Nat
  /-- Queues (port, queue) whose RATE or BURST was written in this cycle, with the values in effect (R274). -/
  shapeStaged : List (Nat × Nat)
  shapeOld : List (Nat × Nat)
  /-- Pending list switches: port, instant, list (R271). -/
  gclPending : List (Nat × Ticks × List Nat)
  queues : List ((Nat × Nat) × List QueueMsg)
  deficits : List ((Nat × Nat) × Nat)
  lastServed : List (Nat × Nat)
  /-- Bucket in millibits and the instant it was brought up to date (R273). -/
  buckets : List ((Nat × Nat) × (Int × Ticks))
  /-- DATA frames sent on (port, lane) in this cycle. -/
  dataSent : List ((Nat × Nat) × Nat)
  deriving DecidableEq, Repr

/-! ## Self-test (16_self_test.md) -/

/-- The test in progress, a block's or an element's (R513, R522). -/
structure Test where
  unit : Nat
  step : Nat
  began : Ticks
  stepAt : Ticks
  margin : Nat
  /-- Condition bucket of a stressed test; 0xFFFF otherwise. -/
  bucket : Nat
  /-- The fault a confirming test confirms: soft entry, array, address. -/
  confirm : Option (Nat × Nat × Nat)
  /-- Result code so far; 0xFF none. -/
  result : Nat
  /-- Last step completed. -/
  last : Nat
  /-- Result register, clock count and voltage read. -/
  reg : Nat
  clk : Nat
  volt : Nat
  /-- When TEST_ISO rose. -/
  isoAt : Option Ticks
  /-- Isolation time consumed, in ns, once TEST_ISO_ACK has fallen. -/
  isoNs : Nat
  deriving DecidableEq, Repr

/-- The self-test director. -/
structure Director where
  current : Option Test
  /-- Confirming tests due: block, soft entry, array, address. -/
  confirms : List (Nat × Nat × Nat × Nat)
  /-- Stressed-margin requests: block, bucket, margin, submitted at. -/
  requests : List (Nat × Nat × Nat × Ticks)
  lastBegan : List (Nat × Ticks)
  /-- Latest result per block or element. -/
  results : List (Nat × Nat)
  /-- The last 64 DETAIL fields, newest first. -/
  details : List (List Nat)
  stopped : Bool
  /-- Burn in progress: soft entry, fuse word, and the repair entry being programmed. -/
  burn : Option (Nat × Nat × Nat)
  /-- Instants at which elements were mapped out by fault. -/
  faults : List (Nat × Ticks)
  deriving DecidableEq, Repr

/-! ## Sessions (08_streams_and_sessions.md) -/

/-- An acknowledgement held from a child port (R291). -/
structure ChildAck where
  dies : Nat
  positions : Nat
  result : Nat
  refuser : Nat
  deriving DecidableEq, Repr

/-- A session at this part: what STRM_SESSION does not show. -/
structure Session where
  t0 : Ticks
  tAct : Ticks
  tD : Ticks
  deadline : Ticks
  tStop : Option Ticks
  crc : Nat
  /-- ENTRY messages to follow, the descriptor slices received, and the descriptor once it is held whole. -/
  need : Nat
  slices : List (Nat × List Nat)
  desc : List Nat
  held : Bool
  /-- Per template of this part's level: the parent's tag and epoch bits, and this part's own tag. -/
  parentTags : List (Nat × Nat)
  tags : List Nat
  /-- This part's own refusal: code and refuser; code 0 none. -/
  refusal : Nat × Nat
  /-- Whether the standby's check has re-sent the PREPARE (R290). -/
  resent : Bool
  receipts : List Nat
  acks : List (Nat × ChildAck)
  ackSent : Bool
  commit : Bool
  late : Bool
  /-- Per child port: member dies drained and drain timeouts; and this part's own drain timeouts. -/
  drains : List (Nat × (Nat × Nat))
  timeouts : Nat
  drainSent : Bool
  /-- The instant of CLOSED or CANCELLED. -/
  ended : Option Ticks
  deriving DecidableEq, Repr

/-- Sessions by record number, the next session number, and the descriptor being written (R285). -/
structure Streams where
  sessions : List (Nat × Session)
  next : Nat
  desc : List (Nat × Nat)
  deriving DecidableEq, Repr

/-! ## Liveness (13_liveness_and_faults.md) -/

/-- What a part holds of the neighbour on one port (R435 to R448). -/
structure Peer where
  /-- Last known heartbeat (R435), latest heartbeat received here, and latest heartbeat this member granted. -/
  known : Option Ticks
  own : Option Ticks
  granted : Option Ticks
  /-- Reset epoch held, and the FENCED and ACTIVE flags and the SOURCE of its last heartbeat. -/
  epoch : Option Nat
  fenced : Bool
  active : Bool
  logical : Nat
  /-- Heartbeats sent on the port. -/
  sent : Nat
  /-- REVOKE as this member sets it; and whether this member has revoked the part for its partner (R442). -/
  revoke : Bool
  revoked : Bool
  /-- The partner's REVOKED, SEEN and CHILD_LAST for the part; and whether the last rule of R442 still holds. -/
  pRevoked : Bool
  pSeen : Bool
  pLast : Option Ticks
  bridge : Bool
  /-- G of R443 while SUSPECT; the block; and the end of the hold of R460. -/
  g : Option Ticks
  blocked : Bool
  holdUntil : Option Ticks
  /-- FENCE_NOW is set toward the part (R447). -/
  commanded : Bool
  /-- LAPSED, toward the apex members (R445). -/
  lapsed : Bool
  deriving DecidableEq, Repr

/-- A scheduled rehearsal (R456), and the runs it has made. -/
structure Gambit where
  kind : Nat
  target : Nat
  tag : Nat
  dur : Nat
  period : Nat
  reps : Nat
  start : Ticks
  runs : Nat
  deriving DecidableEq, Repr

/-- The liveness unit of a part. -/
structure Live where
  peers : List (Nat × Peer)
  /-- Expiry of the part's own lease. -/
  lease : Option Ticks
  /-- STAMP of the last partner heartbeat; and S of R444 once the partner is declared DEAD. -/
  partnerHb : Option Ticks
  partnerDead : Option Ticks
  /-- An apex member: per zone position the expiry of its grants, and the LAPSED bits of its active member (R445). -/
  zoneGrants : List (Nat × Ticks)
  lapses : List (Nat × (Bool × Bool))
  /-- The mirror apex has declared the apex DEAD. -/
  takeover : Bool
  /-- At the apex: commanded fences pending, and parts DEAD or FENCED: logical address, state, last heartbeat. -/
  commands : List (Nat × Ticks)
  down : List (Nat × (Nat × Nat))
  /-- Notices kept, newest first (32 at a Vangeg), and rehearsal records. -/
  notices : List (List Nat)
  rehearsals : List (List Nat)
  gambits : List Gambit
  /-- Rehearsals running: target and end. -/
  rehearsing : List (Nat × Ticks)
  /-- Detector notices last sent, by subject and code (R453). -/
  detSent : List ((Nat × Nat) × Ticks)
  deriving DecidableEq, Repr

/-! ## Flag and cut (14_flag_and_cut.md) -/

/-- A Flag trigger that a part holds (R464). -/
structure Trigger where
  id : Nat
  kind : Nat
  hops : Nat
  t : Ticks
  deriving DecidableEq, Repr

/-- A trigger submitted at this origin (R466): the instant at which its symbol is sent, and whether it was. -/
structure Submission where
  id : Nat
  kind : Nat
  t : Ticks
  sendAt : Ticks
  sent : Bool
  deriving DecidableEq, Repr

/-- The capture of a port (R472, R473): the RECEIVED counts at the cut by (lane, queue), TIME as queue 8; the frames still
wanted once SNAP_COUNT is held; and the frames captured with their lane. -/
structure PortCapture where
  port : Nat
  recv : List ((Nat × Nat) × Nat)
  sent : Option (List ((Nat × Nat) × Nat))
  frames : List (Nat × Frame)
  done : Bool
  incomplete : Bool
  deriving DecidableEq, Repr

/-- A snapshot image (R474): its sections as lists of entries, by KIND; the captured frames stand in `ports`. -/
structure SnapImage where
  id : Nat
  kind : Nat
  hops : Nat
  t : Ticks
  flags : Nat
  sections : List (Nat × List (List Nat))
  ports : List PortCapture
  deriving DecidableEq, Repr

/-- A saved image (R478): regions of slots (Shopostra); objects of bound pawn cells and window totals (Vangeg). -/
structure SavedImage where
  t : Ticks
  slots : List (Nat × List (List Host.Cell))
  values : List (Nat × Nat)
  windows : List (Nat × Nat)
  deriving DecidableEq, Repr

/-- The flag receiver, the origin and the snapshots of a part. -/
structure FlagUnit where
  held : List Trigger
  subs : List Submission
  seq : Nat
  /-- The mirror apex: triggers copied from the apex (R480). -/
  copied : List Trigger
  /-- T_s of the last STOP that acted here, and T_r once a RESUME has. -/
  span : Option (Ticks × Option Ticks)
  /-- Images, newest first. -/
  images : List SnapImage
  saved : Option SavedImage
  /-- The saved image came with a Castle and is restored at the resume (R478). -/
  restore : Bool
  /-- A tray: saved images of its dies, by logical address. -/
  dieSaved : List (Nat × SavedImage)
  deriving DecidableEq, Repr

/-- The units that both parts have. -/
structure Common (kd : Part) where
  dict : List (Nat × Nat)
  now : Ticks
  out : List Msg
  /-- The model's own counter of free values drawn (see `Config.freeNat`). -/
  fresh : Nat
  pins : List (Pin × Nat)
  tempo : TempoUnit
  ctl : Ctl
  dbg : DebugAuth
  log : Recorder
  bud : Budget
  ports : List (Nat × Port)
  /-- Binding sets per port (R623). -/
  bindings : List (Nat × List Nat)
  bist : Director
  strm : Streams
  live : Live
  flag : FlagUnit
  deriving DecidableEq, Repr

/-- Which part the units belong to. -/
def Common.kind {kd : Part} (_c : Common kd) : Part := kd

/-! ## Vangeg (03_vangeg_boundary.md, 18_protection_and_slices.md) -/

/-- Reset of one slice in progress (R567). -/
structure SliceReset where
  since : Ticks
  unbind : Bool
  squashed : Bool
  deriving DecidableEq, Repr

/-- A slice: what no object shows. -/
structure Slice where
  reset : Option SliceReset
  parityBad : Bool
  deriving DecidableEq, Repr

/-- A host power island (R116 to R122): what VG_PWR_STATE does not show. -/
structure Island where
  /-- Instant of the last change of PWR_REQ, or of WRST_REQ for a warm reset's save or restore. -/
  changedAt : Ticks
  gatedAt : Ticks
  /-- An uncorrectable word of the save store, to be marked LOST at restore (R187). -/
  eccBad : Bool
  /-- Saved by a host warm reset rather than by PWR_REQ (R132). -/
  warm : Bool
  deriving DecidableEq, Repr

/-- The boundary with the host die. -/
structure Boundary where
  inReset : Bool
  pllLocked : Bool
  islands : List (Nat × Island)
  writes : List HostWrite
  /-- Writes that wait for one of the 64 identifiers. -/
  writeQueue : List HostWrite
  /-- The squash in progress: PASID and the rise of HMW_SQ_VALID; and PASIDs whose squash waits (R107, R567). -/
  squash : Option (Nat × Ticks)
  squashNext : List Nat
  /-- The 64 fuse words (Table 3-11). -/
  fuses : List Nat
  /-- A fuse programming operation in progress: word and value. -/
  burning : Option (Nat × Nat)
  /-- A host warm reset in progress: its start, and whether every action is done. -/
  warmSince : Option Ticks
  warmRestoring : Bool
  i3cAddress : Nat
  /-- CLEAN_EPOCH: end of the 250 ns hold and the value waiting (R127, R405). -/
  cleanHold : Option Ticks
  cleanNext : Option Nat
  /-- Trims taken from the tray's calibration record (R548): site words as received. -/
  calRecord : Option (List Nat)
    deriving DecidableEq, Repr

/-! ## Counters (04_counters.md) -/

/-- A unit of a ring: an image, a sampling record or a trace chunk. -/
structure RingUnit where
  id : Nat
  payload : List Nat
  issued : Bool
  failed : Bool
  /-- Whether its mirror write is followed by an interrupt. -/
  intr : Bool
  /-- Trace source and CHUNK_SEQ of a chunk. -/
  src : Nat
  seq : Nat
  /-- Its number in the order that part fences count by (R594). -/
  serial : Nat
  deriving DecidableEq, Repr

/-- A ring in host memory (R175 to R177): 0 dump images, 1 sampling records, 2 + k trace ring k. -/
structure Ring where
  active : Option RingUnit
  waiting : List RingUnit
  nextId : Nat
  sinceIntr : Nat
  /-- The mirror write is outstanding, and an interrupt follows its answer. -/
  mirrorOut : Bool
  intrDue : Bool
  deriving DecidableEq, Repr

/-- A dump destination (R169, R173). -/
structure DumpDest where
  seq : Nat
  /-- Serials of the aggregator's images not yet sent. -/
  held : List Nat
  gap : Bool
  deriving DecidableEq, Repr

/-- What no object shows of a pawn cell. -/
structure Cell where
  /-- Marked lost since the last image of each destination, and since the last latch. -/
  lostAgg : Bool
  lostHost : Bool
  lostTick : Bool
  /-- A command was applied at this instant; the cell was zeroed by a command since the previous latch. -/
  cmdAt : Option Ticks
  zeroed : List Nat
  /-- A counter overflowed since the previous latch edge, and in the interval the last latch closed. -/
  ovfSince : Bool
  ovfLatched : Bool
  frozenAtLatch : Bool
  deriving DecidableEq, Repr

/-- A capture unit at work (R162). -/
structure Capture where
  cell : Nat
  mask : Nat
  multi : Bool
  stamp : Nat
  skid : Nat
  edges : Nat
  deriving DecidableEq, Repr

/-- A pending command of PAWN_CMD or TRC_CMD. -/
structure TimedCmd where
  action : Nat
  target : Nat
  mask : Nat
  at_ : Ticks
  deriving DecidableEq, Repr

/-- A bandwidth window (R180). -/
structure Window where
  opened : Bool
  prev : Nat
  total : Nat
  ticks : Nat
  deriving DecidableEq, Repr

/-- The pawn cells and the rank reader. -/
structure Pawn where
  cells : List (Nat × Cell)
  /-- EVT_TAG and EVT of the previous edge, by block and group. -/
  prevEvt : List ((Nat × Nat) × (Nat × Nat))
  captures : List ((Nat × Nat) × Capture)
  cmds : List TimedCmd
  /-- Latch period in effect, and the change that waits for a second boundary (R167). -/
  period : Nat
  periodNext : Option (Ticks × Nat)
  lastLatch : Option Ticks
  agg : DumpDest
  host : DumpDest
  windows : List (Nat × Window)
  baseSeq : Nat
  baseGap : Bool
  rings : List (Nat × Ring)
  deriving DecidableEq, Repr

/-! ## Trace (05_trace.md) -/

/-- A closed chunk in its partition. `host` and `agg`: 0 not offered, 1 offered, 2 taken or not wanted. -/
structure Chunk where
  seq : Nat
  firstOff : Nat
  syncOff : Nat
  padded : Bool
  bad : Bool
  body : List Nat
  host : Nat
  agg : Nat
  deriving DecidableEq, Repr

/-- A packet in a front-end buffer: its bytes and the operations it carries. -/
structure Packet where
  bytes : List Nat
  ops : Nat
  deriving DecidableEq, Repr

/-- A trace source: what no object shows. -/
structure TraceSrc where
  front : List Packet
  run : Nat
  targetBase : Nat
  dataBase : Nat
  syncDue : Bool
  sinceSync : Nat
  /-- TRC_CTX and TRC_PASID of the last traced record. -/
  last : Option (Nat × Nat)
  /-- The interval of 2^TS_LOG2 ns of the last look. -/
  tsBucket : Nat
  lostBytes : Nat
  lostOps : Nat
  /-- The most recent retire record's TRC_CTX and TRC_PASID, traced or not (R155). -/
  retired : Option (Nat × Nat)
  /-- The source runs but its island is off; operations presented meanwhile. -/
  powered : Bool
  powerOps : Nat
  powerSeen : Bool
  /-- Chunks dropped at drain not yet reported by OVERFLOW. -/
  drainLost : Nat
  chunks : List Chunk
  /-- The chunk being filled: body, offset of the first packet and of the first SYNC that begin in it (0xFF none). -/
  body : List Nat
  bodyFirst : Nat
  bodySync : Nat
  gapHost : Bool
  gapAgg : Bool
  /-- TRC_BUF_READ's latch: the chunk's bytes and the next word. -/
  latch : Option (List Nat × Nat)
  deriving DecidableEq, Repr

/-- The trace unit. -/
structure TraceUnit where
  srcs : List (Nat × TraceSrc)
  cmds : List TimedCmd
  deriving DecidableEq, Repr

/-! ## Signatures (12_silent_errors.md) -/

/-- A host unit's signature accumulator and what is kept of its steps (R393, R394). -/
structure UnitSig where
  /-- CRC register and bytes folded in the step in progress. -/
  crc : Nat
  bytes : Nat
  /-- Job tag of the last END; none before the first. -/
  job : Option Nat
  /-- First and last END epochs under that job. -/
  first : Nat
  lastEnd : Option Nat
  /-- The last 64 steps, newest first: epoch and signature; epoch and readings and bucket at the END (R421). -/
  recent : List (Nat × Nat)
  places : List (Nat × Nat × Nat × Nat)
  parityBad : Bool
  /-- Last audited epoch, and steps since. -/
  audited : Option Nat
  sincePass : Nat
  deriving DecidableEq, Repr

/-- A replay in progress: an audit (trigger 0), or a repeat of a faulty step: 1 SPLIT or query, 2 AUDIT_FAIL, 3 RESIDUE. -/
structure Replay where
  unit : Nat
  spare : Nat
  epoch : Nat
  group : Nat
  began : Ticks
  crc : Nat
  bytes : Nat
  /-- The first replay's signature and spare, where this is a second replay. -/
  first : Option (Nat × Nat)
  trig : Nat
  /-- The reference of a repeat; the class 5 report seen during it; bucket; the unit's state before. -/
  ref : Nat
  residue : Bool
  bucket : Nat
  prior : Nat
  deriving DecidableEq, Repr

/-- A round input being formed: group, epoch, the stamp of its first END, and the units ended (R397). -/
structure DieRound where
  group : Nat
  epoch : Nat
  first : Ticks
  stamp : Nat
  sigs : List (Nat × Nat)
  absent : List Nat
  deriving DecidableEq, Repr

/-- A peer log entry of an epoch (R417): receivers, and OVERFLOW. -/
structure PeerEpoch where
  epoch : Nat
  receivers : List Nat
  overflow : Bool
  deriving DecidableEq, Repr

/-- A fault flag for a coming round input: unit, epoch (none: the unit's first), bit of FLAGS, and the bucket at its stamp
(R421). -/
structure Flagged where
  unit : Nat
  epoch : Option Nat
  bit : Nat
  bucket : Nat
  deriving DecidableEq, Repr

/-- A corrected-error report being coalesced (R424): unit, stamp, address, job, count, and the first report's readings. -/
structure Coalesced where
  unit : Nat
  stamp : Nat
  addr : Nat
  job : Nat
  count : Nat
  place : Nat × Nat × Nat
  deriving DecidableEq, Repr

/-- The signature unit, the error intake and the health intake. -/
structure SigUnit where
  units : List (Nat × UnitSig)
  rounds : List DieRound
  /-- Last epoch sent by each group, and the flags of its last 64 round inputs, newest first. -/
  sent : List (Nat × Nat)
  sentFlags : List (Nat × Nat × Nat)
  /-- Flags for a coming round input. -/
  flagged : List Flagged
  /-- AUDIT_FAIL to be carried by a group: its BAD_FROM. -/
  auditFail : List (Nat × Nat)
  /-- Units due for audit: unit, epoch, group. -/
  due : List (Nat × Nat × Nat)
  replays : List Replay
  /-- TRANSIENT faults of the last 24 h: unit, bucket, instant. -/
  transients : List (Nat × Nat × Ticks)
  /-- The session that enabled each group. -/
  owners : List (Nat × Nat)
  /-- Abandoned ranges of each SIG_JOB entry, newest first. -/
  ranges : List (Nat × List (Nat × Nat))
  peers : List (Nat × List PeerEpoch)
  coalesced : List Coalesced
  /-- Slot counts of each block at the last two board-cycle starts: retired, and all. -/
  slotsPrev : List (Nat × Nat × Nat)
  slotsLast : List (Nat × Nat × Nat)
  deriving DecidableEq, Repr

/-- The Vangeg telemetry unit. -/
structure Vangeg where
  c : Common .vangeg
  bnd : Boundary
  slices : List (Nat × Slice)
  pawn : Pawn
  trc : TraceUnit
  sig : SigUnit
  deriving DecidableEq, Repr

/-! ## Shopostra (01_fleet.md, 17_management.md, 20_package_and_power.md) -/

/-- A pending Castle (R42 to R47). -/
structure Castle where
  l : Nat
  s : Nat
  at_ : Ticks
  acked : Bool
  deriving DecidableEq, Repr

/-- The fleet unit: role, logical map and Castles. -/
structure Fleet where
  /-- Whether this member acts as the apex (R24, R445), and whether it is the active member of its position (R28). -/
  actingApex : Bool
  active : Bool
  /-- Logical map: logical address, (physical address, Castle count) (R40). -/
  map : List (Nat × (Nat × Nat))
  castles : List Castle
  /-- Ports and the logical addresses that Castle has moved away from them (R45). -/
  moved : List (Nat × Nat)
  /-- LIVE_ASSIGN's staged physical address. -/
  assignPhys : Nat
  deriving DecidableEq, Repr

/-- Kinds of journal entry (Table 17-4). -/
inductive JournalKind where
  | begin_ | done_ | end_
  deriving DecidableEq, Repr

/-- The newest journal entry (R539). -/
structure JournalEntry where
  jseq : Nat
  kind : JournalKind
  sector : Nat
  len : Nat
  hash : Nat
  deriving DecidableEq, Repr

/-- A commit in progress (R540). -/
structure Commit where
  next : Nat
  total : Nat
  retried : Bool
  recovery : Bool
  since : Ticks
  deriving DecidableEq, Repr

/-- What the management subsystem is doing (Table 17-3, R536): the ROM's first reads, the copy of the core section, the
core section, the whole image; the recovery loader, and recovery mode. -/
inductive BootPhase where
  | rom | checked | coreLoaded | running | loader | recovery
  deriving DecidableEq, Repr

/-- The management subsystem (17_management.md). -/
structure Mgt where
  phase : BootPhase
  cause : Nat
  /-- A management reset, not a cold one (R542). -/
  warm : Bool
  /-- The case of R535 that sent the ROM to recovery; 0 none. -/
  recoveryCase : Nat
  recoveryPort : Nat
  /-- The image in NOR; none when its header is not valid. -/
  nor : Option Image
  running : Option Image
  staged : Option Image
  journal : Option JournalEntry
  commit : Option Commit
  /-- Boot parameters in NOR: subindex and value; none when the sector fails its CRC. -/
  params : Option (List (Nat × Nat))
  fuseMac : Nat × Nat
  /-- Calibration set in NOR and in the writer's buffer: word index and 64-bit word. -/
  calNor : List (Nat × Nat)
  calStage : List (Nat × Nat)
  calCommitting : Bool
  /-- Latencies and trims in use (R547): slot and value. -/
  calInUse : List (Nat × Nat)
  /-- The counters journal: power cycles and operating hours as last written (R505). -/
  journalCounts : Nat × Nat
  /-- Die table (Table 15-8): serial, PCYCLES, OPHOURS, LAST_SEEN, NEW; and as last written to NOR. -/
  dies : List (Nat × Nat × Nat × Nat × Bool)
  diesNor : List (Nat × Nat × Nat × Nat × Bool)
  /-- NOR sectors retired. -/
  retired : List Nat
  /-- POS of the next record to export (R544), and RPOS of the next record to export of each ring (R492). -/
  exportPos : Nat
  exportRing : List (Nat × Nat)
  /-- The die on each child port: serial, and whether its RESET_EPOCH 0 was already counted (R502). -/
  portDie : List (Nat × Nat × Bool)
  /-- Child ports owed the record of R548 when the image has started (Table 17-7). -/
  calOwed : List Nat
  deriving DecidableEq, Repr

/-- The package (20_package_and_power.md). -/
structure Package where
  inReset : Bool
  tripped : Bool
  /-- Both reference clocks stopped and the PLL lost lock: held in reset (R620). -/
  heldForClock : Bool
  /-- PORST_N fell during the present reset. -/
  porCause : Bool
  /-- Straps on the pins: KIND, SIDE, POS, BOOT_RECOVERY. -/
  strapKind : Nat
  strapSide : Nat
  strapPos : Nat
  strapRecovery : Nat
  serial : Nat
  /-- Own fuse array: 24 repair entries (R520), the matrix of 64 entries, the key hash, and the SEC floor. -/
  fuseRepairs : List Nat
  fuseMatrix : List Nat
  fuseKeyHash : Nat
  fuseCrcOk : Bool
  secFloor : Nat
  /-- Engine site below 80 °C since (R610). -/
  coolSince : List (Nat × Ticks)
  /-- Last warning report per site (R549), and last critical report per site (R609). -/
  warnedAt : List (Nat × Ticks)
  critAt : List (Nat × Ticks)
  portsReleased : Bool
  deriving DecidableEq, Repr

/-! ## History store (15_history_and_recorder.md) -/

/-- A ring record (Table 15-2). `bad` marks an uncorrectable word (R509). -/
structure RingRecord where
  rpos : Nat
  replay : Bool
  bad : Bool
  entry : Nat
  session : Nat
  instant : Nat
  message : List Nat
  deriving DecidableEq, Repr

/-- A history ring (R486 to R491): 0 FREE, 1 WRITING, 2 RETAINED. -/
structure HistRing where
  state : Nat
  entry : Nat
  session : Nat
  units : Nat
  next : Nat
  overwritten : Nat
  records : List RingRecord
  /-- Order in which rings became RETAINED. -/
  retainedAt : Nat
  deriving DecidableEq, Repr

/-- The history store. -/
structure History where
  rings : List (Nat × HistRing)
  retainNext : Nat
  /-- An HBM stack was lost (R509). -/
  lost : Bool
  /-- The ring record being read through HIST_READ: its RPOS, and the words of it still to come (R491). -/
  readPos : Option Nat
  reading : List Nat
  deriving DecidableEq, Repr

/-! ## The stream table (08_streams_and_sessions.md) -/

/-- A stream-table entry (Table 8-1), with the ports that have delivered END or were drained by timeout, and whether
its own END was sent. An entry that is not listed is FREE with EPOCH 0. -/
structure Entry where
  state : Nat
  kind : Nat
  cls : Nat
  route : Nat
  epoch : Nat
  session : Nat
  outStream : Nat
  outEpoch : Nat
  inPorts : Nat
  inCount : Nat
  interval : Nat
  elements : Nat
  redDesc : Nat
  tanSlot : Nat
  rateIn : Nat
  rateOut : Nat
  frames : Nat
  stale : Nat
  missing : Nat
  ended : List Nat
  deriving DecidableEq, Repr

/-! ## Reduction (09_reduction.md) -/

/-- One element's accumulator (R311 to R323). Sums are exact integers: SUM_FP in units of 2^-192 or 2^-1088. -/
inductive RedElem where
  | sum (v : Int) (any : Bool)
  | fp (v : Int) (fp64 any negz ninf pinf nan : Bool)
  | ext (key : Option Nat) (nanSeen : Bool) (orig : Nat)
  | arg (entries : List (Nat × Nat × List Nat)) (nanSeen : Bool) (orig : Nat)
  | count (n : Nat)
  | lattice (neg nan above : Nat) (buckets : List (Nat × Nat))
  | vote (total : Nat) (spill : Bool) (groups : List (Nat × Nat × List Nat))
  deriving DecidableEq, Repr

/-- A shard candidate (R327): shard number, completion stamp, source, message. -/
structure Candidate where
  shard : Nat
  stamp : Nat
  source : Nat
  message : List Nat
  deriving DecidableEq, Repr

/-- An open interval of an entry (R308): the sources folded with their ports, member dies present, the missing dies that
child outputs list, output FLAGS so far, and the partials. -/
structure Interval where
  tag : Nat
  instant : Ticks
  cls : Nat
  seen : List (Nat × Nat)
  present : Nat
  listed : List Nat
  flags : Nat
  runs : List (List RedElem)
  cands : List Candidate
  deriving DecidableEq, Repr

/-- A closed output, as read-out and staging need it. -/
structure RedOutput where
  tag : Nat
  instant : Ticks
  closedAt : Ticks
  cls : Nat
  present : Nat
  expected : Nat
  flags : Nat
  runs : List (List RedElem)
  deriving DecidableEq, Repr

/-- A record of the recent-input log (R330), own or mirrored for another part. -/
structure LogRecord where
  stream : Nat
  epoch : Nat
  shard : Bool
  source : Nat
  instant : Ticks
  message : List Nat
  mirror : Bool
  deriving DecidableEq, Repr

/-- A reduction descriptor: its words, and 0 empty, 1 loaded, 2 invalid. -/
structure RedDesc where
  words : List (Nat × Nat)
  status : Nat
  deriving DecidableEq, Repr

/-- The reduction array. -/
structure Reduction where
  descs : List (Nat × RedDesc)
  opened : List Interval
  /-- Intervals closed before their deadline, by tag. -/
  closed : List (Nat × Ticks)
  /-- Outputs still to be staged, and the last output of each entry. -/
  outputs : List RedOutput
  last : List (Nat × RedOutput)
  log : List LogRecord
  deriving DecidableEq, Repr

/-! ## Tangent (10_detector_array.md, 11_detector_programs.md) -/

/-- A loaded program container (Table 11-1): bundles as 256-bit numbers, images as bytes; and the data of R379. -/
structure Program where
  ident : Nat
  tiles : Nat
  phases : Nat
  footprint : Nat
  windowLen : Nat
  codeOff : Nat
  imageOff : Nat
  dataOff : Nat
  dataLen : Nat
  seedOff : Nat
  outLines : Nat
  inputs : Nat
  costs : List Nat
  code : List Nat
  image : List Nat
  data : List Nat
  /-- Number in the ROM library; 0 for a container of fleet software. -/
  rom : Nat
  deriving DecidableEq, Repr

/-- A weight buffer (Table 10-1): chunks of 256 bytes, and 64 block scales. -/
structure Weights where
  chunks : List (Nat × List Nat)
  scales : List Nat
  deriving DecidableEq, Repr

/-- A result on its way to its destination (R346). -/
inductive Landing where
  | vreg (v : Nat) (lanes : List (Nat × Nat))
  /-- Mask register, the lanes written, and their bits. -/
  | mask (k enabled v : Nat)
  | sreg (s v : Nat)
  /-- Bank, row, columns, whether some column saturated, and CLR. -/
  | accRow (bank row : Nat) (v : List Nat) (sat clr : Bool)
  | accZero (bank : Nat)
  | swap
  | chunk (c : Nat) (bytes : List Nat)
  | scales (bytes : List Nat)
  | store (addr : Nat) (bytes : List Nat)
  | out (line : Nat) (v : List Nat)
  | exch (line : Nat) (v : List Nat)
  deriving DecidableEq, Repr

/-- A landing: the cycle at which it is visible. -/
structure Pending where
  at_ : Nat
  what : Landing
  deriving DecidableEq, Repr

/-- What a built-in detector keeps for a series, or for an address (R385 to R390): its registers, in its own order. -/
structure SeriesState where
  regs : List Nat
  deriving DecidableEq, Repr

/-- An interval as staged for an input (R360): its header and the bytes that follow it. -/
structure StagedInterval where
  stamp : Nat
  present : Nat
  expected : Nat
  flags : Nat
  bytes : List Nat
  deriving DecidableEq, Repr

/-- The part of a logical tile that runs a program (Table 10-1). Registers that are not listed hold zero. -/
structure Tile where
  region : List Host.Cell
  v : List (Nat × List Nat)
  msk : List (Nat × Nat)
  s : List (Nat × Nat)
  acc : List ((Nat × Nat) × List Nat)
  sat : List Nat
  active : Weights
  shadow : Weights
  exch : List (Nat × List Nat)
  exchOld : List (Nat × List Nat)
  out : List (Nat × List Nat)
  pending : List Pending
  addrFault : Bool
  /-- Notices raised in this run: code and argument, newest first. -/
  notices : List (Nat × Nat)
  /-- State of a program of the ROM library, per series. -/
  series : List (Nat × SeriesState)
  deriving DecidableEq, Repr

/-- A program slot: its program, its logical tiles, the phases of the present run completed, and what its next output
carries. -/
structure TanSlot where
  prog : Option Program
  tiles : List Tile
  running : Bool
  done : Nat
  runAt : Ticks
  /-- The inputs of the present run, as staged: input and its intervals, oldest first. -/
  staged : List (Nat × List StagedInterval)
  runs : Nat
  tileFault : Bool
  restarted : Bool
  stageDrop : Bool
  class3 : Bool
  skipped : Bool
  deriving DecidableEq, Repr

/-- A raw input held for staging (R361). -/
structure RawInput where
  tag : Nat
  instant : Ticks
  source : Nat
  cls : Nat
  message : List Nat
  deriving DecidableEq, Repr

/-- The detector array and its loader. -/
structure Tangent where
  slots : List (Nat × TanSlot)
  /-- The container being staged, by 8-byte word. -/
  staged : List (Nat × Nat)
  raws : List RawInput
  /-- Tiles whose mapping out or return waits for the next board-cycle start (R369). -/
  changed : List (Nat × Nat)
  deriving DecidableEq, Repr

/-! ## Verdicts (12_silent_errors.md) -/

/-- An open round (R398): the entry, job, group and epoch, and the inputs folded: source, port and message. -/
structure Round where
  tag : Nat
  job : Nat
  group : Nat
  epoch : Nat
  inputs : List (Nat × Nat × List Nat)
  deriving DecidableEq, Repr

/-- A closed round as the verdict unit keeps it. -/
structure RoundClosed where
  tag : Nat
  job : Nat
  group : Nat
  epoch : Nat
  first : Ticks
  wait : Nat
  /-- Outcome (Table 12-3), and whether every present die's audit is at or after `audited`. -/
  outcome : Nat
  auditedAll : Bool
  audited : Nat
  deriving DecidableEq, Repr

/-- A job at its verdict position (R402, R403, R407). -/
structure JobVerdict where
  session : Nat
  job : Nat
  first : Nat
  /-- The lowest epoch not declared CLEAN, and the highest declared CLEAN. -/
  next : Nat
  clean : Option Nat
  /-- Highest epoch folded. -/
  folded : Nat
  /-- FAILED epoch awaiting a resume, with its cause, group, BAD_FROM and bad set. -/
  failed : Option (Nat × Nat × Nat × Nat)
  bad : List Nat
  badCount : Nat
  /-- Declared MINORITY_PENDING, not yet answered. -/
  minority : Bool
  deriving DecidableEq, Repr

/-- A class-table entry (R422): physical address, unit, class, bucket, and the instants of its faults. -/
structure ClassEntry where
  phys : Nat
  unit : Nat
  cls : Nat
  bucket : Nat
  stamp : Nat
  at_ : Ticks
  deriving DecidableEq, Repr

/-- The verdict unit. -/
structure VerdictUnit where
  rounds : List Round
  closed : List RoundClosed
  jobs : List JobVerdict
  /-- Verdict records, newest first. -/
  log : List (List Nat)
  /-- Taint maps: job, epoch, entries. -/
  taints : List (Nat × Nat × List (Nat × Nat))
  classes : List ClassEntry
  deriving DecidableEq, Repr

/-- The Shopostra aggregator. -/
structure Shopostra where
  c : Common .shopostra
  fleet : Fleet
  mgt : Mgt
  pkg : Package
  hist : History
  table : List (Nat × Entry)
  red : Reduction
  tan : Tangent
  ver : VerdictUnit
  deriving DecidableEq, Repr

/-- The machine: one Vangeg, one Shopostra, and the queue of commands waiting, first in, first out. -/
structure State where
  vg : Vangeg
  sx : Shopostra
  pending : List Instr
  deriving DecidableEq, Repr

/-! ## After reset

T* of the bring-up sequences (R131, Table 17-3), with an example integration descriptor, fuses and straps (log entries
2 and 3). Every dictionary object that is not listed reads its default. -/

/-- Tempo after a cold reset: FREERUN, count 0 (Table 2-6). -/
def TempoUnit.reset : TempoUnit :=
  { slew := 0, gmClass := 248, everLocked := false, lowRun := 0, highRun := 0, switchAt := none, switchedAt := none, exch := [],
    source := none, returnRun := 0, diffRun := 0, ptpValid := false, synceValid := false, ppsValid := false,
    ppsRejects := 0, tod := none, holdoverSince := none, hops := 0, minQl := 0x0B, chordWaiting := [], chordPairs := [],
    chordResult := [], chordExpired := 0 }

/-- The dictionary's transactions after reset: none. -/
def Ctl.reset : Ctl :=
  { stagings := [], cursors := [], latched := [], accepted := 0, outstanding := [], relayed := [], fences := [],
    serial := 0, i3c := none, i3cSince := 0 }

/-- No authorisation, no lockout. -/
def DebugAuth.reset : DebugAuth :=
  { nonce := none, key := 0, expiry := none, scope := 0, failures := 0, lockedUntil := none }

/-- Empty logs. -/
def Recorder.reset : Recorder :=
  { volatileLog := [], volatileNext := 0, persistentLog := [], persistentNext := 0, volatileRemoved := 0,
    persistentRemoved := 0, forwards := [], persistWaiting := [], persistHour := 0, persistBytes := 0, readPos := none,
    reading := [], noVolatile := false, seen := [], reportsSeen := [], hoursKnown := false }

/-- Nothing waiting, nothing used. -/
def Budget.reset : Budget :=
  { used := [], consumed := [], inEffect := [], waiting := [], running := [], lostUnits := [], issuing := [], stalled := [],
    exhausted := [], isoReserved := 0, isoConsumed := 0, gclReset := [], shapeStaged := [], shapeOld := [],
    gclPending := [], queues := [], deficits := [], lastServed := [], buckets := [], dataSent := [] }

/-- No test, no confirmation. -/
def Director.reset : Director :=
  { current := none, confirms := [], requests := [], lastBegan := [], results := [], details := [], stopped := false,
    burn := none, faults := [] }

/-- No lease, no neighbour known. -/
def Live.reset : Live :=
  { peers := [], lease := none, partnerHb := none, partnerDead := none, zoneGrants := [], lapses := [], takeover := false,
    commands := [], down := [], notices := [], rehearsals := [], gambits := [], rehearsing := [], detSent := [] }

/-- No trigger, no image, never stopped. -/
def FlagUnit.reset : FlagUnit :=
  { held := [], subs := [], seq := 0, copied := [], span := none, images := [], saved := none, restore := false, dieSaved := [] }

/-- The units that both parts have, after a cold reset. -/
def Common.reset (kd : Part) (dict : List (Nat × Nat)) (pins : List (Pin × Nat)) : Common kd :=
  { dict := dict, now := 0, out := [], fresh := 0, pins := pins, tempo := TempoUnit.reset,
    ctl := Ctl.reset, dbg := DebugAuth.reset, log := Recorder.reset, bud := Budget.reset, ports := [], bindings := [],
    bist := Director.reset, strm := { sessions := [], next := 1, desc := [] }, live := Live.reset,
    flag := FlagUnit.reset }

/-- The boundary after VG_CRST_N rises: fuses read, hub PLL not locked (R131). -/
def Boundary.reset : Boundary :=
  { inReset := false, pllLocked := false, islands := [], writes := [], writeQueue := [], squash := none,
    squashNext := [], fuses := [1, 1] ++ List.replicate 61 0 ++ [0x52DEEDDC], burning := none, warmSince := none,
    warmRestoring := false, i3cAddress := 0x2C, cleanHold := none, cleanNext := none,
    calRecord := none }

/-- A dump destination after reset. -/
def DumpDest.reset : DumpDest := { seq := 0, held := [], gap := false }

/-- The pawn unit after reset: latch period 125 µs (R167). -/
def Pawn.reset : Pawn :=
  { cells := [], prevEvt := [], captures := [], cmds := [], period := 125, periodNext := none, lastLatch := none,
    agg := DumpDest.reset, host := DumpDest.reset, windows := [], baseSeq := 0, baseGap := false, rings := [] }

/-- The signature unit after reset: nothing folded, nothing kept. -/
def SigUnit.reset : SigUnit :=
  { units := [], rounds := [], sent := [], sentFlags := [], flagged := [], auditFail := [], due := [], replays := [],
    transients := [], owners := [], ranges := [], peers := [], coalesced := [], slotsPrev := [], slotsLast := [] }

/-- The Vangeg after reset. -/
def Vangeg.reset : Vangeg :=
  { c := Common.reset .vangeg [(0x100003, 0x1), (0x101000, 0xFFFFF3F), (0x102000, 0x2), (0x102001, 0x3E800000001040A0), (0x102002, 0x3E800801102001E0), (0x102100, 0x2), (0x102200, 0x1), (0x110000, 0x2), (0x300001, 0x2), (0x360001, 0x2)]
      [(.fenceOut, 1), (.vgCrstN, 1)],
    bnd := Boundary.reset, slices := [], pawn := Pawn.reset, trc := { srcs := [], cmds := [] }, sig := SigUnit.reset }

/-- The fleet unit after reset. -/
def Fleet.reset : Fleet := { actingApex := false, active := true, map := [], castles := [], moved := [], assignPhys := 0 }

/-- The management subsystem at T* of Table 17-3, with a blank NOR. -/
def Mgt.reset : Mgt :=
  { phase := .rom, cause := 0, warm := false, recoveryCase := 0, recoveryPort := 0, nor := none,
    running := none, staged := none, journal := none, commit := none, params := none, fuseMac := (0, 0),
    calNor := [], calStage := [], calCommitting := false, calInUse := [], journalCounts := (0, 0),
    dies := [], diesNor := [], retired := [], exportPos := 0, exportRing := [], portDie := [], calOwed := [] }

/-- The package at T*: a tray Shopostra, side A, position 0, every rail and clock good. -/
def Package.reset : Package :=
  { inReset := false, tripped := false, heldForClock := false, porCause := false,
    strapKind := 1, strapSide := 0, strapPos := 0, strapRecovery := 0, serial := 1, fuseRepairs := [], fuseMatrix := [],
    fuseKeyHash := 0, fuseCrcOk := true, secFloor := 0, coolSince := [], warnedAt := [], critAt := [],
    portsReleased := false }

/-- The history store after reset: every ring FREE but the replay ring (R486). -/
def History.reset : History := { rings := [], retainNext := 0, lost := false, readPos := none, reading := [] }

/-- The reduction array after reset. -/
def Reduction.reset : Reduction := { descs := [], opened := [], closed := [], outputs := [], last := [], log := [] }

/-- The detector array after reset: every slot EMPTY. -/
def Tangent.reset : Tangent := { slots := [], staged := [], raws := [], changed := [] }

/-- The verdict unit after reset. -/
def VerdictUnit.reset : VerdictUnit := { rounds := [], closed := [], jobs := [], log := [], taints := [], classes := [] }

/-- The Shopostra after reset. -/
def Shopostra.reset : Shopostra :=
  { c := Common.reset .shopostra [(0x100003, 0x1), (0x101000, 0x20000020), (0x114001, 0x1)]
      [(.porstN, 1), (.resetN, 1), (.thermtripN, 1), (.spiCsN, 1), (.refclk 0, 1), (.refclk 1, 1)],
    fleet := Fleet.reset, mgt := Mgt.reset, pkg := Package.reset, hist := History.reset,
    table := [], red := Reduction.reset, tan := Tangent.reset, ver := VerdictUnit.reset }

/-- The machine right after reset, with no command waiting. -/
def State.reset : State := { vg := Vangeg.reset, sx := Shopostra.reset, pending := [] }

end Sys2Proof.Machine
end

