-- ==== Sys2Proof/Machine/Ops.lean ====
section
/-! DEFINITION. The named operations that the meanings share: keyed lists, bytes, the register store, Tempo
arithmetic, free values, sending, and the ports a destination stands for. -/

namespace Sys2Proof.Machine

variable {kd : Part}

/-! ## Keyed lists -/

/-- The value at `k` of a list of pairs, `d` when none is listed. -/
def lookupD {α : Type} {β : Type} [DecidableEq α] (d : β) : List (α × β) → α → β
  | [], _ => d
  | (a, b) :: m, k => if a = k then b else lookupD d m k

/-- The list with the pair of `k` replaced, or added at the end. -/
def putKey {α : Type} {β : Type} [DecidableEq α] : List (α × β) → α → β → List (α × β)
  | [], k, v => [(k, v)]
  | (a, b) :: m, k, v => if a = k then (k, v) :: m else (a, b) :: putKey m k v

/-- The list without the pair of `k`. -/
def dropKey {α : Type} {β : Type} [DecidableEq α] (m : List (α × β)) (k : α) : List (α × β) :=
  m.filter (fun p => decide (p.1 ≠ k))

/-- Entry `k` of a list of naturals, `d` past its end. -/
def nth (d : Nat) : List Nat → Nat → Nat
  | [], _ => d
  | a :: _, 0 => a
  | _ :: l, k + 1 => nth d l k

/-! ## Bytes and bits -/

/-- The `n` low bytes of `v`, least significant first (R15). -/
def bytesLE : Nat → Nat → List Nat
  | 0, _ => []
  | n + 1, v => v % 256 :: bytesLE n (v / 256)

/-- The number that little-endian bytes spell. -/
def fromLE : List Nat → Nat
  | [] => 0
  | b :: l => b + 256 * fromLE l

/-- Bits [hi:lo] of `v`. -/
def bits (v hi lo : Nat) : Nat := v / 2 ^ lo % 2 ^ (hi + 1 - lo)

/-- Bit n of `v`. -/
def bitOf (v n : Nat) : Bool := v / 2 ^ n % 2 = 1

/-- `v` with bit `n` set to `b`. -/
def withBit (v n : Nat) (b : Bool) : Nat :=
  if bitOf v n = b then v else if b then v + 2 ^ n else v - 2 ^ n

/-- A number from a truth value. -/
def b2n (b : Bool) : Nat := if b then 1 else 0

/-- Two's complement of width `w`. -/
def toTwos (w : Nat) (i : Int) : Nat := (i % (2 ^ w : Nat)).toNat

/-- The signed reading of the low `w` bits of `v`. -/
def ofTwos (w : Nat) (v : Nat) : Int :=
  if v % 2 ^ w < 2 ^ (w - 1) then ((v % 2 ^ w : Nat) : Int) else ((v % 2 ^ w : Nat) : Int) - ((2 ^ w : Nat) : Int)

/-- One bit of a reflected CRC register (Castagnoli polynomial, R234). -/
def crc32cBit (c : Nat) : Nat := if c % 2 = 1 then Nat.xor (c / 2) 0x82F63B78 else c / 2

/-- One byte of CRC-32C. -/
def crc32cByte (c b : Nat) : Nat :=
  crc32cBit (crc32cBit (crc32cBit (crc32cBit (crc32cBit (crc32cBit (crc32cBit (crc32cBit (Nat.xor c b))))))))

/-- CRC-32C with initial value 0xFFFF_FFFF and final inversion (R234). -/
def crc32c (l : List Nat) : Nat := Nat.xor (l.foldl crc32cByte 0xFFFFFFFF) 0xFFFFFFFF

/-- One bit of CRC-8, polynomial x^8 + x^2 + x + 1, most significant bit first (R228). -/
def crc8Bit (c : Nat) : Nat := if 128 ≤ c % 256 then Nat.xor (2 * c % 256) 7 else 2 * c % 256

/-- One byte of CRC-8. -/
def crc8Byte (c b : Nat) : Nat :=
  crc8Bit (crc8Bit (crc8Bit (crc8Bit (crc8Bit (crc8Bit (crc8Bit (crc8Bit (Nat.xor c b))))))))

/-- CRC-8 of bytes, initial value 0 (R228). -/
def crc8 (l : List Nat) : Nat := l.foldl crc8Byte 0

/-! ## The register store -/

/-- The key of an object: its index and its 8-bit subindex. -/
def key (idx sub : Nat) : Nat := idx * 256 + sub % 256

/-- The row of the tables that describes an object. -/
def findRow (idx sub : Nat) : Option ObjRow :=
  (objectBlock idx).find? (fun r => decide (r.lo ≤ idx ∧ idx ≤ r.hi ∧ r.slo ≤ sub ∧ sub ≤ r.shi))

/-- Default `i` of a row's list: one value for all subindices, or one each. -/
def rowDefault (l : List Nat) (i : Nat) : Nat :=
  match l with
  | [v] => v
  | _ => nth 0 l i

/-- The value after cold reset of the object at a key (R581). -/
def defaultAt (p : Part) (k : Nat) : Nat :=
  match findRow (k / 256) (k % 256) with
  | none => 0
  | some r =>
    match p with
    | .vangeg => rowDefault r.dv (k % 256 - r.slo)
    | .shopostra => rowDefault r.dx (k % 256 - r.slo)

/-- The value listed for a key. -/
def storeFind : List (Nat × Nat) → Nat → Option Nat
  | [], _ => none
  | (a, b) :: m, k => if a = k then some b else storeFind m k

/-- The store without a key. -/
def storeErase : List (Nat × Nat) → Nat → List (Nat × Nat)
  | [], _ => []
  | (a, b) :: m, k => if a = k then storeErase m k else (a, b) :: storeErase m k

/-- The store with a key's value listed, keys strictly rising. -/
def storeInsert : List (Nat × Nat) → Nat → Nat → List (Nat × Nat)
  | [], k, v => [(k, v)]
  | (a, b) :: m, k, v =>
    if k < a then (k, v) :: (a, b) :: m
    else if a = k then (k, v) :: m
    else (a, b) :: storeInsert m k v

/-- Writes a key: the canonical form lists no value equal to the default. -/
def storeSet (p : Part) (m : List (Nat × Nat)) (k v : Nat) : List (Nat × Nat) :=
  if v = defaultAt p k then storeErase m k else storeInsert m k v

/-- Reads a key. -/
def storeGet (p : Part) (m : List (Nat × Nat)) (k : Nat) : Nat := (storeFind m k).getD (defaultAt p k)

/-- The canonical form of a register store: keys strictly rising, and no entry equal to what an unlisted key reads. -/
def storeWf (p : Part) : List (Nat × Nat) → Bool
  | [] => true
  | (a, b) :: m =>
    decide (b ≠ defaultAt p a) && (match m with | [] => true | (c, _) :: _ => decide (a < c)) && storeWf p m

/-- The value of an object. -/
def Common.reg (c : Common kd) (idx sub : Nat) : Nat := storeGet c.kind c.dict (key idx sub)

/-- Writes an object's value. -/
def Common.setReg (c : Common kd) (idx sub v : Nat) : Common kd :=
  { c with dict := storeSet c.kind c.dict (key idx sub) v }

/-- The signed value of an object of width `w`. -/
def Common.regI (c : Common kd) (w idx sub : Nat) : Int := ofTwos w (c.reg idx sub)

/-- Writes a signed object. -/
def Common.setRegI (c : Common kd) (w idx sub : Nat) (i : Int) : Common kd := c.setReg idx sub (toTwos w i)

/-- Width of a type in bits (Table 19-2); BLOBs have none. -/
def typeBits : ObjType → Nat
  | .u8 => 8 | .i8 => 8 | .u16 => 16 | .i16 => 16 | .u32 => 32 | .i32 => 32 | .f32 => 32
  | .u64 => 64 | .i64 => 64 | .time => 128 | .blob => 0

/-- Width in bits of the object at (idx, sub); 64 where the tables list none. -/
def objBits (idx sub : Nat) : Nat :=
  match findRow idx sub with
  | some r => typeBits r.ty
  | none => 64

/-- Adds to a counter, modulo its width. -/
def Common.addReg (c : Common kd) (idx sub n : Nat) : Common kd :=
  c.setReg idx sub ((c.reg idx sub + n) % 2 ^ objBits idx sub)

/-- Adds one to a counter. -/
def Common.bump (c : Common kd) (idx sub : Nat) : Common kd := c.addReg idx sub 1

/-- Adds one to baseline counter n of Table 4-11 (object 0x2C00, a Vangeg only). -/
def Common.baseline (c : Common kd) (n : Nat) : Common kd :=
  match c.kind with
  | .vangeg => c.bump 0x2C00 (n + 1)
  | .shopostra => c

/-! ## Free values -/

/-- Draws a free value below `2 ^ w`. The two parts draw from disjoint sequences. -/
def Common.drawFree (c : Common kd) (w : Nat) : Common kd × Nat :=
  ({ c with fresh := c.fresh + 1 },
   Config.freeNat (2 * c.fresh + (match c.kind with | .vangeg => 0 | .shopostra => 1)) % 2 ^ w)

/-! ## Tempo arithmetic -/

/-- One nanosecond, in ticks of 2^-32 ns. -/
def ns : Nat := 2 ^ 32

/-- Nanoseconds as ticks. -/
def nsT (n : Nat) : Ticks := n * ns

/-- Microseconds as ticks. -/
def usT (n : Nat) : Ticks := n * 1000 * ns

/-- Milliseconds as ticks. -/
def msT (n : Nat) : Ticks := n * 1000000 * ns

/-- Seconds as ticks. -/
def secT (n : Nat) : Ticks := n * 1000000000 * ns

/-- One board cycle (R69). -/
def cycleT : Ticks := nsT 125000

/-- The start of the board cycle that holds an instant. -/
def cycleStart (t : Ticks) : Ticks := t / cycleT * cycleT

/-- The number 0 to 7,999 of the board cycle that holds an instant. -/
def cycleNo (t : Ticks) : Nat := t / cycleT % 8000

/-- Whether an instant is the start of a board cycle. -/
def isCycleStart (t : Ticks) : Bool := t % cycleT = 0

/-- TEMPO_MODE: 0 LINEAR, 1 CALENDAR. -/
def Common.mode (c : Common kd) : Nat := c.reg 0x1200 0

/-- The fleet epoch in TAI seconds. -/
def Common.epoch (c : Common kd) : Nat := c.reg 0x1201 0

/-- Total nanosecond count of an instant in the part's format (R64). -/
def totalNs (mode epoch : Nat) (t : Ticks) : Nat :=
  if mode = 0 then (t / ns + 2 ^ 64 - epoch * 1000000000 % 2 ^ 64) % 2 ^ 64
  else t / ns / 1000000000 % 2 ^ 32 * 1000000000 + t / ns % 1000000000

/-- A TIME value with a class (Tables 2-1 and 2-2). -/
def encodeTime (mode epoch cls : Nat) (t : Ticks) : Nat :=
  if mode = 0 then
    cls * 2 ^ 126 + totalNs 0 epoch t * 2 ^ 32 + t % ns
  else
    cls * 2 ^ 126 + 2 ^ 124 + t / ns / 1000000000 % 2 ^ 48 * 2 ^ 62 + t / ns % 1000000000 * 2 ^ 32 + t % ns

/-- The instant that a TIME value names (R54). -/
def decodeTime (epoch v : Nat) : Ticks :=
  if bits v 125 124 = 0 then (bits v 95 32 + epoch * 1000000000) * ns + bits v 31 0
  else (bits v 109 62 * 1000000000 + bits v 61 32) * ns + bits v 31 0

/-- The instant of a TIME value written to this part. -/
def Common.timeOf (c : Common kd) (v : Nat) : Ticks := decodeTime c.epoch v

/-- Tempo state values (Table 2-6). -/
def Common.tempoState (c : Common kd) : Nat := c.reg 0x1209 0

/-- The stamp class in effect for an island of uncertainty `u` (in 1/256 ns): R71. -/
def Common.stampClass (c : Common kd) (u : Nat) : Nat :=
  let sum := u + (c.regI 64 0x120A 0).natAbs
  if c.tempoState ≠ 2 then 3
  else if sum ≤ 64 then 0 else if sum ≤ 256 then 1 else if sum ≤ 1024 then 2 else 3

/-- The TIME value that names an instant, at the hub's class. -/
def Common.timeValue (c : Common kd) (t : Ticks) : Nat := encodeTime c.mode c.epoch (c.stampClass 128) t

/-- The short stamp of an instant (Table 2-3), with the class of an island of uncertainty `u`. -/
def Common.stampU (c : Common kd) (u : Nat) (t : Ticks) : Nat :=
  c.stampClass u * 2 ^ 46 + totalNs c.mode c.epoch t % 2 ^ 32 * 2 ^ 8 + t % ns / 2 ^ 24

/-- The hub's short stamp of an instant. -/
def Common.stamp (c : Common kd) (t : Ticks) : Nat := c.stampU 128 t

/-- The instant nearest to now that a short stamp names (R65, R66). -/
def Common.extend (c : Common kd) (s : Nat) : Ticks :=
  let base : Nat := totalNs c.mode c.epoch c.now % 2 ^ 32 * 2 ^ 8 + c.now % ns / 2 ^ 24
  let d := ofTwos 40 (s % 2 ^ 40 + 2 ^ 40 - base)
  ((((c.now / 2 ^ 24 : Nat) : Int) + d).toNat) * 2 ^ 24

/-- Brings Tempo to an instant that has arrived. -/
def Common.arrive (c : Common kd) (t : Ticks) : Common kd := { c with now := max c.now t }

/-! ## Sending -/

/-- Appends to the log of what leaves the part. -/
def Common.send (c : Common kd) (m : Msg) : Common kd := { c with out := m :: c.out }

/-- Drives a pin. -/
def Common.setPin (c : Common kd) (p : Pin) (v : Nat) : Common kd := { c with pins := putKey c.pins p v }

/-- The level of a pin. -/
def Common.pin (c : Common kd) (p : Pin) : Nat := lookupD 0 c.pins p

/-- Takes a serial number for something a part fence may wait for (R594). -/
def Common.takeSerial (c : Common kd) : Common kd × Nat :=
  ({ c with ctl := { c.ctl with serial := c.ctl.serial + 1 } }, c.ctl.serial)

/-- Physical address of the part. -/
def Common.phys (c : Common kd) : Nat := c.reg 0x1010 0

/-- Logical address of the part. -/
def Common.logical (c : Common kd) : Nat := c.reg 0x1011 0

/-- Whether the part is a spare (R39). -/
def Common.isSpare (c : Common kd) : Bool := c.logical = 0xFFFFFFFF

/-! ## Ports and destinations (Table 1-2) -/

/-- PORT_STATE values (Table 6-5). -/
def Common.portState (c : Common kd) (p : Nat) : Nat := c.reg 0x1300 (p + 1)

/-- The number of ports of the part: 48, 1, or 2 for a Vangeg in redundant tray mode (R220, R252). -/
def Common.portCount (c : Common kd) : Nat := c.reg 0x1300 0

/-- Whether a port is ACTIVE or DEGRADED. -/
def Common.portUp (c : Common kd) (p : Nat) : Bool := c.portState p = 4 || c.portState p = 5

/-- The port of child index c of a Shopostra (Table 1-2). -/
def childPort (i : Nat) : Nat := i / 8 * 12 + i % 8

/-- Whether a port of a Shopostra is a child port, and its child index. -/
def childIndex (p : Nat) : Option Nat := if p < 48 ∧ p % 12 < 8 ∧ p ≠ 8 then some (p / 12 * 8 + p % 12) else none

/-- Whether a port of a Shopostra is a parent port. -/
def isParentPort (p : Nat) : Bool := p = 8 || p = 20

/-- Whether a port of a Shopostra is a partner port. -/
def isPartnerPort (p : Nat) : Bool := p = 32 || p = 44

/-- The partner port in use: 32, or 44 while 32 is not ACTIVE or DEGRADED (Table 19-6). -/
def Common.partnerPort (c : Common kd) : Nat := if c.portUp 32 then 32 else 44

/-- The ports a destination stands for. -/
def Common.destPorts (c : Common kd) (d : Dest) : List Nat :=
  match c.kind, d with
  | _, .port p => [p]
  | _, .lane p _ => [p]
  | .vangeg, .activeParent => [if c.portCount = 2 then c.reg 0x1015 0 else 0]
  | .vangeg, .parents => List.range c.portCount
  | .vangeg, .apex => List.range c.portCount
  | .vangeg, .parentsAndPartner => List.range c.portCount
  | .shopostra, .activeParent => [if c.reg 0x1015 0 = 1 then 20 else 8]
  | .shopostra, .parents => [8, 20]
  | .shopostra, .apex => [if c.reg 0x1015 0 = 1 then 20 else 8]
  | .shopostra, .partner => [c.partnerPort]
  | .shopostra, .children => ((List.range 32).map childPort).filter c.portUp
  | .shopostra, .parentsAndPartner => [8, 20, c.partnerPort]
  | .shopostra, .childrenAndPartner => ((List.range 32).map childPort).filter c.portUp ++ [c.partnerPort]
  | .shopostra, .die l =>
    match c.bindings.find? (fun b => decide (l ∈ b.2)) with
    | some b => [b.1]
    | none => []
  | _, _ => []

end Sys2Proof.Machine
end

