-- ==== Sys2Proof/Machine/Budgets.lean ====
section
/-! DEFINITION. The budget enforcer (R253 to R264): the amounts of the three levels, the start of a unit, waiting and
dropping; and the creation of CONTROL records, each a unit of one frame. -/

namespace Sys2Proof.Machine

variable {kd : Part}

/-- An amount in effect in this cycle: the one an accepted write replaces at the next start, else the object (R257). -/
def Common.amount (c : Common kd) (idx sub : Nat) : Nat := lookupD (c.reg idx sub) c.bud.inEffect (key idx sub)

/-- Whether a slice is CRITICAL, and its profile (BUD_SLICE_ATTR). -/
def Common.sliceAttr (c : Common kd) (s : Nat) : Nat := c.amount 0x1420 (s + 1)

/-- The configured grant of slice s for a class and resource (0 LINK, 1 HMW, 2 INTR, 3 ISO): R255. -/
def Common.grantOf (c : Common kd) (s cls res : Nat) : Nat :=
  if bitOf (c.sliceAttr s) 7 then c.amount (0x1418 + c.sliceAttr s % 8) (cls * 4 + res + 1) else 0

/-- CRITICAL slices of a Vangeg. -/
def Common.criticalSlices (c : Common kd) : List Nat :=
  match c.kind with
  | .vangeg => (List.range 64).filter (fun s => bitOf (c.sliceAttr s) 7)
  | .shopostra => []

/-- The configured class pool (R255). -/
def Common.classPool (c : Common kd) (cls res : Nat) : Nat := c.amount (0x1410 + cls) (res + 1)

/-- A lane at reset. -/
def laneReset : Lane :=
  { locked := false, mine := false, partners := false, next := false, serRun := 0, uncorr := 0, ser := 0, cleanRun := 0,
    retraining := false, wordSeen := false, flagWords := 0, sent := [], received := [], syncLast := [] }

/-- A port at reset: DOWN, nothing exchanged. -/
def portReset : Port :=
  { lanes := [laneReset, laneReset], since := 0, ident := none, offered := [], spent := [], freed := [], granted := [],
    mine := [], returned := [], creditTurn := 0, lseq := [], held := [], lseqOut := [], missing := 0, partials := [], logged := [],
    noCredit := 0, heartbeats := 0, identCycles := 0 }

/-- The record of a port. -/
def Common.port (c : Common kd) (p : Nat) : Port := lookupD portReset c.ports p

/-- Writes a port's record. -/
def Common.setPort (c : Common kd) (p : Nat) (q : Port) : Common kd := { c with ports := putKey c.ports p q }

/-- Subindex of lane l of port p in the per-lane objects (R252). -/
def Common.laneSub (c : Common kd) (p l : Nat) : Nat :=
  match c.kind with
  | .shopostra => 2 * p + l + 1
  | .vangeg => if c.portCount = 2 then p + 1 else l + 1

/-- Whether lane l of port p is in the agreed set (PORT_LANE_USABLE). -/
def Common.laneUsable (c : Common kd) (p l : Nat) : Bool := c.reg 0x1303 (c.laneSub p l) = 1

/-- The lanes a port has by construction: one for a Vangeg port, or a child port of a tray Shopostra, in redundant tray
mode (R220, Table 6-5); two otherwise. -/
def Common.lanesOf (c : Common kd) (p : Nat) : List Nat :=
  match c.kind with
  | .vangeg => if c.portCount = 2 then [0] else [0, 1]
  | .shopostra =>
    if c.reg 0x1014 0 = 1 ∧ c.reg 0x1012 0 = 0 ∧ (childIndex p).isSome then [c.reg 0x1013 0 % 2] else [0, 1]

/-- The number of usable lanes of a port in this cycle. -/
def Common.usableLanes (c : Common kd) (p : Nat) : Nat := ((c.lanesOf p).filter (fun l => c.laneUsable p l)).length

/-- Lane l of a port's record. -/
def Port.lane (q : Port) (l : Nat) : Lane := (q.lanes[l]?).getD laneReset

/-- Writes lane l of a port's record. -/
def Port.setLane (q : Port) (l : Nat) (x : Lane) : Port := { q with lanes := q.lanes.set l x }

/-- The ceiling of a resource (R255). -/
def Common.ceiling (c : Common kd) (res port : Nat) : Nat :=
  match res with
  | 0 => 12200 * c.usableLanes port
  | r => match c.kind with | .vangeg => c.amount 0x1400 r | .shopostra => 0

/-- The sum of all grants of CRITICAL slices and all class pools for a resource. -/
def Common.reserved (c : Common kd) (res : Nat) : Nat :=
  ((List.range 8).map (fun cls => c.classPool cls res +
    (c.criticalSlices.map (fun s => c.grantOf s cls res)).sum)).sum

/-- The configured port pool (R255). -/
def Common.portPool (c : Common kd) (res port : Nat) : Nat := c.ceiling res port - c.reserved res

/-- What is left of a level in this cycle. -/
def Common.left (c : Common kd) (level cls res port amount : Nat) : Nat :=
  if cls ∈ c.bud.exhausted then 0 else amount - lookupD 0 c.bud.used (level, cls, res, port)

/-- What is left of the three levels for a unit: grant, class pool, port pool (R256). -/
def Common.levels (c : Common kd) (u : WorkUnit) (res : Nat) : Nat × Nat × Nat :=
  let port := if res = 0 then u.port else 0
  let g := match u.slice with
    | some s => c.left (2 + s) u.cls res port (c.grantOf s u.cls res)
    | none => 0
  (g, c.left 0 u.cls res port (c.classPool u.cls res), c.left 1 0 res port (c.portPool res port))

/-- The cost of a unit in a resource. -/
def WorkUnit.cost (u : WorkUnit) : Nat → Nat
  | 0 => u.link
  | 1 => u.hmw
  | 2 => u.intr
  | _ => u.iso

/-- Whether the levels cover the unit's cost in a resource. -/
def Common.covers (c : Common kd) (u : WorkUnit) (res : Nat) : Bool :=
  let l := c.levels u res
  decide (u.cost res ≤ l.1 + l.2.1 + l.2.2)

/-- Whether a unit's cost in a resource exceeds what its levels could hold in one board cycle (R261). -/
def Common.neverFits (c : Common kd) (u : WorkUnit) (res : Nat) : Bool :=
  let port := if res = 0 then u.port else 0
  let g := match u.slice with
    | some s => c.grantOf s u.cls res
    | none => 0
  decide (g + c.classPool u.cls res + c.portPool res port < u.cost res)

/-- Takes an amount from the grant, then the class pool, then the port pool (R256). -/
def Common.take (c : Common kd) (u : WorkUnit) (res : Nat) : Common kd :=
  let port := if res = 0 then u.port else 0
  let l := c.levels u res
  let n := u.cost res
  let g := min n l.1
  let k := min (n - g) l.2.1
  let p := n - g - k
  let add := fun (used : List ((Nat × Nat × Nat × Nat) × Nat)) (kk : Nat × Nat × Nat × Nat) (a : Nat) =>
    if a = 0 then used else putKey used kk (lookupD 0 used kk + a)
  let used1 := match u.slice with
    | some s => add c.bud.used (2 + s, u.cls, res, port) g
    | none => c.bud.used
  let used2 := add used1 (0, u.cls, res, port) k
  let used3 := add used2 (1, 0, res, port) p
  { c with bud := { c.bud with used := used3 } }

/-- Consumes an amount of a resource in a class (R263). -/
def Common.consume (c : Common kd) (cls res n : Nat) : Common kd :=
  if n = 0 then c
  else { c with bud := { c.bud with consumed := putKey c.bud.consumed (cls, res) (lookupD 0 c.bud.consumed (cls, res) + n) } }

/-- A unit that waits: its class is stalled in this cycle (R260). -/
def Common.wait (c : Common kd) (us : List WorkUnit) (cls : Nat) : Common kd :=
  { c with bud := { c.bud with
    waiting := us, stalled := if cls ∈ c.bud.stalled then c.bud.stalled else c.bud.stalled ++ [cls] } }

/-- The egress queue of a unit (R265). -/
def Common.unitQueue (c : Common kd) (u : WorkUnit) : Nat :=
  match u.queue with
  | some q => q
  | none => lookupD (c.reg 0x1402 (u.cls + 1)) c.bud.inEffect (key 0x1402 (u.cls + 1))

/-- Starts a unit: reserves its whole cost, hands its frames to its queue and sends what it carries (R256, R265). -/
def Common.startUnit (c : Common kd) (u : WorkUnit) : Common kd :=
  let granted := decide (u.link ≤ (c.levels u 0).1)
  let c1 := (((c.take u 0).take u 1).take u 2).take u 3
  let k := (u.port, c.unitQueue u)
  let q : QueueMsg :=
    { serial := u.serial, frames := u.link, sent := 0, isData := u.isData, granted := granted, since := c.now,
      cls := u.cls }
  let c2 := if u.link = 0 then c1 else
    { c1 with bud := { c1.bud with
      queues := putKey c1.bud.queues k (lookupD [] c1.bud.queues k ++ [q]),
      running := c1.bud.running ++ [u] } }
  let c3 : Common kd := { c2 with bud := { c2.bud with
    issuing := c2.bud.issuing ++ u.host.map (fun w => { w with serial := u.serial, cls := u.cls }) } }
  u.msgs.foldl (fun a m => a.send m) c3

/-- The policy of a class: true for DROP (BUD_POLICY). -/
def Common.drops (c : Common kd) (cls : Nat) : Bool := c.reg 0x1401 (cls + 1) = 1

/-- Counts a dropped unit (R260). -/
def Common.countLoss (c : Common kd) (cls : Nat) : Common kd := (c.bump 0x1405 (cls + 1)).baseline (10 + cls)

/-- A unit is lost: its source is told, and it is counted; at a Shopostra under a DROP policy also among the causes of
Table 11-3. -/
def Common.loseUnit (c : Common kd) (cls serial : Nat) : Common kd :=
  let c1 := ({ c with bud := { c.bud with lostUnits := c.bud.lostUnits ++ [serial] } } : Common kd).countLoss cls
  match c.kind with
  | .vangeg => c1
  | .shopostra => if c.drops cls then (c1.bump 0x6010 6).bump 0x6010 1 else c1

/-- What happened to a unit offered to the enforcer. -/
inductive UnitFate where
  | started | waits | dropped
  deriving DecidableEq, Repr

/-- Offers a ready unit to the enforcer (R256, R259 to R261). A unit of a waiting class and source waits behind it. -/
def Common.offer (c : Common kd) (u : WorkUnit) : Common kd × UnitFate :=
  let bad := c.neverFits u 0 || c.neverFits u 1 || c.neverFits u 2 || c.neverFits u 3
  let fits := c.covers u 0 && c.covers u 1 && c.covers u 2 && c.covers u 3
  let behind := c.bud.waiting.any (fun w => decide (w.cls = u.cls ∧ w.source = u.source))
  if bad then (c.loseUnit u.cls u.serial, .dropped)
  else if fits && !behind then (c.startUnit u, .started)
  else if c.drops u.cls then (c.loseUnit u.cls u.serial, .dropped)
  else (c.wait (c.bud.waiting ++ [u]) u.cls, .waits)

/-- Whether the part is STOPPED (R477). -/
def Common.stopped (c : Common kd) : Bool := c.reg 0x3402 0 = 1

/-- Whether an instant lies in the frozen span of the last STOP: from T_s, and once resumed before T_r (R477, R479). -/
def Common.frozenAt (c : Common kd) (t : Ticks) : Bool :=
  match c.flag.span with
  | some (a, none) => decide (a ≤ t)
  | some (a, some b) => decide (a ≤ t ∧ t < b)
  | none => false

/-- Counts frames of the TIME class on a lane, as queue 8 of its counts (R472). -/
def Common.countTime (c : Common kd) (p l : Nat) (out : Bool) : Common kd :=
  let q := c.port p
  let x := q.lane l
  c.setPort p (q.setLane l (if out then { x with sent := putKey x.sent 8 (lookupD 0 x.sent 8 + 1) }
    else { x with received := putKey x.received 8 (lookupD 0 x.received 8 + 1) }))

/-- Whether a fenced Shopostra keeps silent on a port: on its parent and partner ports only TIME, IDENT and heartbeats
go out (R439). -/
def Common.silent (c : Common kd) (p : Nat) : Bool :=
  match c.kind with
  | .vangeg => false
  | .shopostra => decide (c.reg 0x7001 2 ≠ 0) && (isParentPort p || isPartnerPort p)

/-- A new unit with the next serial number (R594 counts by serial). -/
def Common.submit (c : Common kd) (u : WorkUnit) : Common kd × UnitFate :=
  if c.silent u.port && decide (u.link ≠ 0) then (c, .dropped)
  else
    let s := c.takeSerial
    s.1.offer { u with serial := s.2 }

/-- Whether a record to a destination leaves at all. -/
def Common.speaks (c : Common kd) (d : Dest) : Bool := (c.destPorts d).isEmpty || (c.destPorts d).any (fun p => !c.silent p)

/-- A unit of a class with LINK cost only. -/
def linkUnit (cls port frames source : Nat) (data : Bool) (msgs : List Msg) : WorkUnit :=
  { serial := 0, cls := cls, slice := none, source := source, port := port, link := frames, hmw := 0, intr := 0,
    iso := 0, queue := none, isData := data, msgs := msgs, host := [] }

/-- Retries every waiting unit in order (R260). -/
def Common.retry (c : Common kd) : Common kd :=
  c.bud.waiting.foldl (fun a u => (a.offer u).1) { c with bud := { c.bud with waiting := [] } }

/-- Creates a CONTROL record: the record is logged as formed, and one frame of the CONTROL class is offered on every
port of its destination (R253, R259). -/
def Common.control (c : Common kd) (d : Dest) (type : Nat) (fields : List Nat) : Common kd :=
  if c.speaks d then
    (c.destPorts d).foldl (fun a p => (a.submit (linkUnit 4 p 1 0 false [])).1) (c.send (.record d type fields))
  else c

/-- Creates a CONTROL message whose layout the spec does not state. -/
def Common.message (c : Common kd) (d : Dest) (what : String) (fields : List Nat) : Common kd :=
  if c.speaks d then
    (c.destPorts d).foldl (fun a p => (a.submit (linkUnit 4 p 1 0 false [])).1) (c.send (.message d what fields))
  else c

/-- Creates a session message (class SESSION). -/
def Common.sessionMsg (c : Common kd) (d : Dest) (type : Nat) (fields : List Nat) : Common kd :=
  if c.speaks d then
    (c.destPorts d).foldl (fun a p => (a.submit (linkUnit 5 p 1 1 false [])).1) (c.send (.record d type fields))
  else c

end Sys2Proof.Machine
end

