-- ==== Sys2Proof/Machine/Records.lean ====
section
/-! DEFINITION. Event records, logs and error reports: what every unit of a part uses to say what happened. -/

namespace Sys2Proof.Machine

variable {kd : Part}

/-! ## Event records (15_history_and_recorder.md) -/

/-- Bytes of a record: 16 of header, the payload padded to 4, and 4 of CRC (R493). -/
def recordLen (payload : List Nat) : Nat := 20 + (payload.length + 3) / 4 * 4

/-- The payload padded with zeros to a multiple of 4 bytes. -/
def padded4 (payload : List Nat) : List Nat :=
  payload ++ List.replicate ((payload.length + 3) / 4 * 4 - payload.length) 0

/-- The bytes of a record (Table 15-3). -/
def Record.bytes (r : Record) : List Nat :=
  let body := bytesLE 2 (recordLen r.payload) ++ [r.sev, r.type] ++ bytesLE 4 r.seq ++ bytesLE 4 r.ophours ++
    bytesLE 4 r.pcycles ++ padded4 r.payload
  body ++ bytesLE 4 (crc32c body)

/-- Bytes held in a log. -/
def logBytes (l : List Record) : Nat := (l.map (fun r => recordLen r.payload)).sum

/-- Removes records of severity at most `s`, lowest POS first, until `n` bytes are free of `cap`. The second component
counts the removals. -/
def logMakeRoom (s n cap : Nat) (held : Nat) : List Record → List Record × Nat
  | [] => ([], 0)
  | r :: l =>
    if held + n ≤ cap then (r :: l, 0)
    else if r.sev ≤ s then
      let q := logMakeRoom s n cap (held - recordLen r.payload) l
      (q.1, q.2 + 1)
    else
      let q := logMakeRoom s n cap held l
      (r :: q.1, q.2)

/-- Storing a record of length `n` in a log of capacity `cap`: the log, how many were removed, and whether it was
stored (R497). -/
def logStore (cap : Nat) (l : List Record) (r : Record) : List Record × Nat × Bool :=
  let n := recordLen r.payload
  if logBytes l + n ≤ cap then (l ++ [r], 0, true)
  else if cap - logBytes l + logBytes (l.filter (fun q => decide (q.sev ≤ r.sev))) < n then (l, 0, false)
  else
    let q := logMakeRoom r.sev n cap (logBytes l) l
    (q.1 ++ [r], q.2, true)

/-- Tray ports to which a Vangeg forwards its records: one, or two in redundant tray mode (R220, R499). -/
def Common.trayPorts (c : Common kd) : List Nat := if c.reg 0x1300 0 = 2 then [0, 1] else [0]

/-- Stores a record in the persistent log of a Shopostra (R497, R506). -/
def Common.storePersistent (c : Common kd) (r : Record) : Common kd :=
  let q := logStore (c.reg 0x3700 2) c.log.persistentLog { r with pos := c.log.persistentNext }
  if q.2.2 then
    { c with log := { c.log with
      persistentLog := q.1, persistentNext := c.log.persistentNext + 1,
      persistentRemoved := c.log.persistentRemoved + q.2.1 } }
  else c.bump 0x3705 (r.sev + 1)

/-- Stores a whole record in the volatile log (R497), queues its copy to NOR at a Shopostra (R506) and forwards it
from a Vangeg (R499). -/
def Common.storeRecord (c : Common kd) (r0 : Record) : Common kd :=
  if c.log.noVolatile then (if c.reg 0x3706 1 ≤ r0.sev then c.storePersistent r0 else c)
  else
  let r := { r0 with pos := c.log.volatileNext }
  let q := logStore (c.reg 0x3700 1) c.log.volatileLog r
  if q.2.2 then
    let removed := c.log.volatileLog.filter (fun x => !(q.1.any (fun y => y.pos == x.pos)))
    let lost := (removed.filter (fun x => c.log.forwards.any (fun f => x.pos == f.1))).length
    let c1 : Common kd := { c with log := { c.log with
      volatileLog := q.1, volatileNext := c.log.volatileNext + 1,
      volatileRemoved := c.log.volatileRemoved + q.2.1,
      forwards := c.log.forwards.filter (fun f => !(removed.any (fun x => x.pos == f.1))) } }
    match c.kind with
    | .vangeg =>
      let c3 := if lost = 0 then c1 else c1.addReg 0x3705 6 lost
      let due := c.now + msT 1
      let c4 : Common kd := { c3 with log := { c3.log with
        forwards := c3.log.forwards ++ c.trayPorts.map (fun p => (r.pos, p, 1, due)) } }
      c.trayPorts.foldl (fun a p => a.control (.port p) 0x70 ([0, 0, 0] ++ bytesLE 4 r.pos ++ r.bytes)) c4
    | .shopostra =>
      if r.sev ≥ c.reg 0x3706 1 then
        { c1 with log := { c1.log with persistWaiting := c1.log.persistWaiting ++ [r.pos] } }
      else c1
  else c.bump 0x3705 (r.sev + 1)

/-- Creates a record of this part: header from REC_SEQ, OPHOURS and PCYCLES (Table 15-3), then stores it. -/
def Common.createRecord (c : Common kd) (sev type : Nat) (payload : List Nat) : Common kd :=
  let r : Record :=
    { pos := 0, sev := sev, type := type, seq := c.reg 0x3707 1, ophours := c.reg 0x3707 2, pcycles := c.reg 0x3707 3,
      phys := c.phys, payload := payload }
  (c.bump 0x3707 1).storeRecord r

/-- An event record (R495): code, severity and detail bytes. -/
def Common.event (c : Common kd) (code sev : Nat) (detail : List Nat) : Common kd :=
  c.createRecord sev 0x03
    (bytesLE 4 c.phys ++ bytesLE 4 c.logical ++ bytesLE 6 (c.stamp c.now) ++ bytesLE 2 code ++ detail)

/-- The boot record (R507): stepping, cause and torn records discarded. -/
def Common.bootRecord (cause torn : Nat) (c : Common kd) : Common kd :=
  c.createRecord 1 0x08
    (bytesLE 4 c.phys ++ bytesLE 2 (c.reg 0x1000 2) ++ [cause, 0] ++ bytesLE 4 torn ++ List.replicate 4 0)

/-! ## Error reports (12_silent_errors.md) -/

/-- The fields of an error report that its cause decides (Table 12-9); the others come from the part. -/
structure ReportFields where
  sev : Nat
  code : Nat
  stamp : Option Nat := none
  temp : Nat := 0
  volt : Nat := 0
  unit : Nat := 0xFF
  cls : Nat := 0
  job : Nat := 0xFFFF
  bucket : Nat := 0xFFFF
  epoch : Nat := 0
  addr : Nat := 0
  detail : Nat := 0
  deriving DecidableEq, Repr

/-- The hottest of `n` thermal sites, as a signed number of 1/16 °C. -/
def Common.hottest (c : Common kd) (idx : Nat) (n : Nat) : Int :=
  (List.range n).foldl (fun m i => max m (c.regI 16 idx (i + 1))) (c.regI 16 idx 1)

/-- The 64 bytes of a report (Table 12-9). -/
def Common.reportBytes (c : Common kd) (f : ReportFields) : List Nat :=
  let temp := match c.kind with | .vangeg => f.temp | .shopostra => toTwos 16 (c.hottest 0x1120 32)
  [0x40, f.sev] ++ bytesLE 2 f.code ++ bytesLE 4 c.logical ++ bytesLE 4 c.phys ++
    bytesLE 6 (f.stamp.getD (c.stamp c.now)) ++ bytesLE 2 temp ++ bytesLE 2 f.volt ++ [f.unit, f.cls] ++
    bytesLE 2 f.job ++ bytesLE 2 f.bucket ++ bytesLE 4 f.epoch ++ bytesLE 8 f.addr ++ bytesLE 8 f.detail ++
    bytesLE 4 (c.reg 0x3604 5) ++ List.replicate 12 0

/-- Sends an error report (R425, R427): from a Vangeg to both parents and into its own log as a record (TYPE 0x01);
from a Shopostra into its log, from which it is exported (R544). SIG_REPORTS counts it. -/
def Common.report (c : Common kd) (f : ReportFields) : Common kd :=
  let b := c.reportBytes f
  let c1 := (c.setReg 0x3604 5 ((c.reg 0x3604 5 + 1) % 2 ^ 32)).createRecord f.sev 0x01 b
  match c.kind with
  | .vangeg => c1.control .parents 0x40 (b.drop 1)
  | .shopostra => c1

/-- A report with a severity, a code and a detail. -/
def Common.reportCode (c : Common kd) (sev code detail : Nat) : Common kd :=
  c.report { sev := sev, code := code, detail := detail }

/-! ## Partner protocol violations (R251) -/

/-- Answers a violation by the partner of a port: counts it, and records the first of each log code in a board
cycle. -/
def Common.violation (c : Common kd) (port lane code : Nat) : Common kd :=
  let c1 := c.bump 0x1310 (code - 0x0600)
  let q := c1.port port
  if code ∈ q.logged then c1
  else (c1.setPort port { q with logged := code :: q.logged }).event code 1 [port, lane]

/-! ## Sessions that include the part (R625) -/

/-- Whether some listed register satisfies a test on its key and value. -/
def Common.anyListed (c : Common kd) (f : Nat → Nat → Bool) : Bool := c.dict.any (fun kv => f kv.1 kv.2)

/-- Whether a session includes the part: it holds a record in PREPARING, COMMITTED, ACTIVE or CLOSING. -/
def Common.inSession (c : Common kd) : Bool :=
  c.anyListed (fun k v => decide (0x4100 ≤ k / 256 ∧ k / 256 ≤ 0x41FF ∧ k % 256 = 2 ∧ 1 ≤ v ∧ v ≤ 4))

end Sys2Proof.Machine
end

