-- ==== Sys2Proof/Machine/Access.lean ====
section
/-! DEFINITION. The dictionary's answers and its access decision: existence, privilege, access kind and type. -/

namespace Sys2Proof.Machine

variable {kd : Part}

/-! ## Answers and the access decision (18_protection_and_slices.md, 19_object_dictionary.md) -/

/-- The number of an abort code (Table 19-7). -/
def Abort.code : Abort → Nat
  | .protocol => 0x0008 | .noRoute => 0x000A | .targetReset => 0x0009 | .busy => 0x000C | .timeout => 0x000B
  | .noObject => 0x0001 | .privilege => 0x0007 | .readOnly => 0x0002 | .writeOnly => 0x0003 | .type => 0x0004
  | .value => 0x0005 | .state => 0x0006 | .hardware => 0x000E

/-- The code of an answer: 0 for success. -/
def abortCode : Option Abort → Nat
  | none => 0
  | some a => a.code

/-- The requester of R584 and R588. -/
def reqRequester (r : Req) : Requester :=
  match r.path with
  | .hrp => .hrp r.tag
  | .i3c => .i3c
  | _ => .ctl r.source (r.tag / 65536)

/-- Sends a response on the path of its request (R590): one whose return port is not ACTIVE or DEGRADED is discarded. -/
def Common.respond (c : Common kd) (path : Path) (q : CtlResponse) : Common kd :=
  let onPort := fun (p : Nat) =>
    if c.portUp p then (((c.send (.response path q)).submit (linkUnit 4 p 1 0 false [])).1) else c
  match path with
  | .upper p => onPort p
  | .child p => onPort p
  | _ => c.send (.response path q)

/-- Answers a request: counts it (VG_CTRL_COUNTS, SX_CTRL_COUNTS) and sends the response on its path. -/
def Common.answer (c : Common kd) (r : Req) (op : DictOp) (idx sub : Nat) (a : Option Abort) (data len : Nat)
    (more : Bool) : Common kd :=
  let c1 := match a with
    | none => c.bump 0x1032 1
    | some .privilege => ((c.bump 0x1032 2).bump 0x3803 0).baseline 57
    | some .busy => (c.bump 0x1032 2).bump 0x1032 4
    | some .timeout => (c.bump 0x1032 2).bump 0x1032 3
    | some _ => c.bump 0x1032 2
  let c2 := match r.path with
    | .hrp => (let c3 := c1.baseline 55; if a.isSome then c3.baseline 56 else c3)
    | .i3c => { c1 with ctl := { c1.ctl with i3c := some (r.tag, abortCode a, data), i3cSince := c1.now } }
    | _ => c1
  c2.respond r.path
    { op := op, more := more, relayed := false, reqId := r.tag, responder := c.logical, responderPhys := c.phys,
      abort := abortCode a, len := len, resetEpoch := c.reg 0x7001 3, idx := idx, sub := sub, data := data }

/-- Discards open stagings that a test selects; each is counted (R584). -/
def Common.discardStagings (c : Common kd) (sel : Staging → Bool) : Common kd :=
  let n := (c.ctl.stagings.filter sel).length
  if n = 0 then c
  else { (c.addReg 0x1032 6 n) with ctl := { c.ctl with stagings := c.ctl.stagings.filter (fun s => !sel s) } }

/-- Whether the integration uses a pawn cell (R143, R144). -/
def Common.usesCell (c : Common kd) (cell : Nat) : Bool :=
  (List.range (c.reg 0x1020 0)).any (fun b => decide (bits (c.reg 0x1020 (b + 1)) 31 24 ≤ cell ∧
    cell < bits (c.reg 0x1020 (b + 1)) 31 24 + bits (c.reg 0x1020 (b + 1)) 23 16))

/-- Whether some block declares a trace source (R189). -/
def Common.usesSrc (c : Common kd) (s : Nat) : Bool :=
  (List.range (c.reg 0x1020 0)).any (fun b => bitOf (c.reg 0x1020 (b + 1)) 7 && decide (bits (c.reg 0x1020 (b + 1)) 11 8 = s))

/-- Whether an object exists for the part (R18, R574, R575): its row is held by the part, its subindex is within the
record's entry count, and a per-port index names a port of the part. -/
def Common.exists_ (c : Common kd) (idx sub : Nat) : Bool :=
  match findRow idx sub with
  | none => false
  | some r =>
    decide ((r.holder = .both ∨ (r.holder = .vangeg ∧ c.kind = .vangeg) ∨ (r.holder = .shopostra ∧ c.kind = .shopostra)) ∧
      (sub = 0 ∨ sub ≤ c.reg idx 0) ∧
      (idx < 0x1430 ∨ 0x14EF < idx ∨ (idx - 0x1430) % 48 < c.portCount)) &&
    (!decide (0x2000 ≤ idx ∧ idx < 0x2800) || c.usesCell ((idx - 0x2000) / 8)) &&
    (!decide (0x3100 ≤ idx ∧ idx < 0x3110) || c.usesSrc (idx - 0x3100))

/-- Whether an index is a record: it has rows above subindex 0. -/
def isRecord (idx : Nat) : Bool := (objectBlock idx).any (fun r => decide (r.lo ≤ idx ∧ idx ≤ r.hi ∧ 0 < r.shi))

/-- The highest-numbered privilege level the object's table admits; subindex 0 of a record admits the record's lowest
entry privilege (R574, R582). -/
def objPriv (idx sub : Nat) : Nat :=
  if sub = 0 then
    ((objectBlock idx).filter (fun r => decide (r.lo ≤ idx ∧ idx ≤ r.hi))).foldl (fun m r => max m r.priv) 0
  else match findRow idx sub with
    | some r => r.priv
    | none => 0

/-- Whether a matrix entry (Table 18-2) admits a request at level `p` to block `b`. -/
def matrixAdmits (e b p : Nat) (write control : Bool) : Bool :=
  if bitOf e 0 && decide (bits e 15 8 = b) then
    if write then
      decide (p ≤ bits e 4 2) && decide (bits e 4 2 ≤ 4) && (control || !bitOf e 1)
    else decide (p ≤ bits e 7 5) && decide (bits e 7 5 ≤ 4)
  else true

/-- Whether a path is the CONTROL path (ROUTE_LOCK, R556). -/
def pathIsControl : Path → Bool
  | .mgmt => true | .upper _ => true | .child _ => true | .firmware => true | .hrp => false | .i3c => false

/-- The fuse status that puts R136 in force: VG_FUSE_STATUS or PROT_FUSE_STATUS. -/
def Common.fuseFault (c : Common kd) : Bool :=
  match c.kind with
  | .vangeg => c.reg 0x1023 0 ≠ 0
  | .shopostra => c.reg 0x3802 0 ≠ 0

/-- Whether the path and level are admitted at all (R101, R136, R553, R555, R558). -/
def Common.pathAdmits (c : Common kd) (r : Req) : Bool :=
  decide (r.priv ≤ 4) &&
  (match r.path with
   | .hrp => decide (c.kind = .vangeg) && decide (1 ≤ r.priv) && (decide (2 ≤ r.priv) || decide (c.reg 0x1022 0 = 1))
   | .i3c => decide (c.kind = .vangeg) && decide (r.priv = 1)
   | .mgmt => decide (c.kind = .shopostra)
   | .child _ => false
   | _ => true) &&
  (!c.fuseFault || decide (r.priv = 0))

/-- The level decision of R556: the object's Privilege entry and every matrix entry. -/
def Common.levelAdmits (c : Common kd) (r : Req) (idx sub : Nat) (write : Bool) : Bool :=
  decide (r.priv ≤ objPriv idx sub) &&
  (List.range 64).all (fun i => matrixAdmits (c.reg 0x3801 (i + 1)) (idx / 256) r.priv write (pathIsControl r.path))

/-- The aborts before the object's own rules, in the order of Table 19-7: NO_OBJECT, PRIVILEGE, READ_ONLY or
WRITE_ONLY. `slice` is the result of the slice rules of R559 and R572. -/
def Common.gate (c : Common kd) (r : Req) (idx sub : Nat) (write : Bool) (slice : Bool) : Option Abort :=
  if !c.exists_ idx sub then some .noObject
  else if !(c.pathAdmits r && c.levelAdmits r idx sub write && slice) then some .privilege
  else match findRow idx sub with
    | none => some .noObject
    | some o =>
      if write && decide (o.acc = .ro) then some .readOnly
      else if !write && decide (o.acc = .wo) then some .writeOnly
      else none

/-- Whether a value is within its type (R577). -/
def Common.valueFits (c : Common kd) (ty : ObjType) (v : Nat) : Bool :=
  match ty with
  | .u8 => decide (v < 2 ^ 8) | .u16 => decide (v < 2 ^ 16) | .u32 => decide (v < 2 ^ 32) | .f32 => decide (v < 2 ^ 32)
  | .u64 => decide (v < 2 ^ 64) | .i64 => decide (v < 2 ^ 64)
  | .i8 => decide (v < 2 ^ 7 ∨ (2 ^ 64 - 2 ^ 7 ≤ v ∧ v < 2 ^ 64))
  | .i16 => decide (v < 2 ^ 15 ∨ (2 ^ 64 - 2 ^ 15 ≤ v ∧ v < 2 ^ 64))
  | .i32 => decide (v < 2 ^ 31 ∨ (2 ^ 64 - 2 ^ 31 ≤ v ∧ v < 2 ^ 64))
  | .time => decide (v < 2 ^ 128) && (decide (v = 0) || decide (bits v 125 124 = c.mode))
  | .blob => true

/-- The stored form of a written value: truncated to the type's width; CLASS and reserved bits of a TIME value are
ignored (R17, R577). -/
def storedForm (ty : ObjType) (v : Nat) : Nat :=
  match ty with
  | .time =>
    if bits v 125 124 = 0 then bits v 95 0 else 2 ^ 124 + bits v 109 0
  | .blob => v
  | t => v % 2 ^ typeBits t

/-! ## Relayed requests -/

/-- The target's reset epoch as this relay holds it: the last relay holds the one of the latest heartbeat (R455). -/
def Common.heldEpoch (c : Common kd) (r : Relayed) : Nat :=
  if r.last then
    match (c.live.peers.find? (fun q => decide (q.1 = r.out))).bind (fun q => q.2.epoch) with
    | some e => e
    | none => r.epoch
  else r.epoch

/-- Answers relayed requests that a test selects, by this relay: the code, with RELAYED set (R455, R591). -/
def Common.abortRelayed (c : Common kd) (sel : Relayed → Bool) (a : Abort) : Common kd :=
  let hit := c.ctl.relayed.filter sel
  let c1 : Common kd := { c with ctl := { c.ctl with relayed := c.ctl.relayed.filter (fun r => !sel r) } }
  hit.foldl (fun b r => (b.bump 0x1032 2).respond r.back
    { op := r.op, more := false, relayed := true, reqId := r.reqId, responder := c.logical, responderPhys := c.phys,
      abort := a.code, len := 0, resetEpoch := b.heldEpoch r, idx := r.idx, sub := r.sub, data := 0 }) c1

end Sys2Proof.Machine
end

