-- ==== Sys2Proof/Machine/HostPort.lean ====
section
/-! DEFINITION. The host memory write port of a Vangeg (R103 to R107), the rings it writes (R175 to R177), interrupt
messages (R566), and what is done after every command: started host units issue their writes. -/

namespace Sys2Proof.Machine

/-- A change of the Vangeg's common units. -/
def Vangeg.onC (v : Vangeg) (f : Common .vangeg → Common .vangeg) : Vangeg := { v with c := f v.c }

/-! ## Slices (R564) -/

/-- What no object shows of a slice. -/
def Vangeg.slice (x : Vangeg) (s : Nat) : Slice := lookupD { reset := none, parityBad := false } x.slices s

/-- Writes what no object shows of a slice. -/
def Vangeg.setSlice (x : Vangeg) (s : Nat) (q : Slice) : Vangeg := { x with slices := putKey x.slices s q }

/-- STATE of a slice: 0 FREE, 1 BOUND, 2 RESETTING (R564). -/
def Vangeg.sliceState (x : Vangeg) (s : Nat) : Nat := x.c.reg (0x3810 + s) 1

/-- PASID of a slice. -/
def Vangeg.slicePasid (x : Vangeg) (s : Nat) : Nat := x.c.reg (0x3810 + s) 2

/-- The slice that is not FREE and is bound to a PASID. -/
def Vangeg.sliceOfPasid (x : Vangeg) (pasid : Nat) : Option Nat :=
  (List.range 64).find? (fun s => decide (x.sliceState s ≠ 0 ∧ x.slicePasid s = pasid))

/-! ## Rings -/

/-- A ring at reset. -/
def ringReset : Ring :=
  { active := none, waiting := [], nextId := 0, sinceIntr := 0, mirrorOut := false, intrDue := false }

/-- A ring: 0 dump images, 1 sampling records, 2 + k trace ring k. -/
def Vangeg.ring (v : Vangeg) (r : Nat) : Ring := lookupD ringReset v.pawn.rings r

/-- Writes a ring. -/
def Vangeg.setRing (v : Vangeg) (r : Nat) (q : Ring) : Vangeg :=
  { v with pawn := { v.pawn with rings := putKey v.pawn.rings r q } }

/-- The object that holds a ring. -/
def ringIdx (r : Nat) : Nat := if r = 0 then 0x2911 else if r = 1 then 0x2912 else 0x3200 + (r - 2)

/-- Subindices of a ring: 0 ENABLE, 1 OWNER, 2 base, 3 SIZE_LOG2, 4 MIRROR, 5 WPTR, 6 RPTR, 7 INTR_EVERY. -/
def ringSub (r f : Nat) : Nat :=
  if r = 1 then (if f = 0 then 1 else f) else if f = 7 then (if r = 0 then 14 else 8) else f + 1

/-- A field of a ring. -/
def Vangeg.ringReg (v : Vangeg) (r f : Nat) : Nat := v.c.reg (ringIdx r) (ringSub r f)

/-- Writes a field of a ring. -/
def Vangeg.setRingReg (v : Vangeg) (r f x : Nat) : Vangeg := v.onC (fun c => c.setReg (ringIdx r) (ringSub r f) x)

/-- OWNER of a ring; the sampling ring is the driver's. -/
def Vangeg.ringOwner (v : Vangeg) (r : Nat) : Nat := if r = 1 then 0xFF else v.ringReg r 1

/-- The PASID with which a ring is written, while its owner can be written for (R175, R565). -/
def Vangeg.ringPasid (v : Vangeg) (r : Nat) : Option Nat :=
  let o := v.ringOwner r
  if o = 0xFF then (if v.c.reg 0x3804 0 = 0xFFFFFFFF then none else some (v.c.reg 0x3804 0))
  else if v.sliceState o = 1 then some (v.slicePasid o) else none

/-- The slice whose grant a ring's units draw on. -/
def Vangeg.ringSlice (v : Vangeg) (r : Nat) : Option Nat := if v.ringOwner r = 0xFF then none else some (v.ringOwner r)

/-- The interrupt of an owner: address, data, PASID; none where it is suppressed (R566). -/
def Vangeg.intrTarget (v : Vangeg) (owner : Nat) : Option (Nat × Nat × Nat) :=
  if owner = 0xFF then
    if v.c.reg 0x3805 1 = 0 ∨ v.c.reg 0x3804 0 = 0xFFFFFFFF then none
    else some (v.c.reg 0x3805 1, v.c.reg 0x3805 2, v.c.reg 0x3804 0)
  else if v.c.reg (0x3810 + owner) 4 = 0 ∨ v.sliceState owner = 0 then none
  else some (v.c.reg (0x3810 + owner) 4, v.c.reg (0x3810 + owner) 5, v.slicePasid owner)

/-- The interrupt message of an owner as a write (R105). -/
def intrWrite (cls : Nat) (t : Nat × Nat × Nat) : HostWrite :=
  { id := 0, pasid := t.2.2, addr := t.1, bytes := 4, cls := cls, use := .interrupt, serial := 0,
    payload := 0 :: bytesLE 4 t.2.1 }

/-- Sends an interrupt message whose budget is already reserved. -/
def Vangeg.issueIntr (v : Vangeg) (cls owner : Nat) : Vangeg :=
  match v.intrTarget owner with
  | none => v.onC (fun c => c.bump 0x3806 0)
  | some t =>
    let n := v.c.takeSerial
    { v with c := { n.1 with bud := { n.1.bud with issuing := n.1.bud.issuing ++ [{ intrWrite cls t with serial := n.2 }] } } }

/-- Sends an interrupt message as a unit of its own, of a class that has none of its own (R105): one INTR. -/
def Vangeg.interrupt (v : Vangeg) (owner : Nat) : Vangeg :=
  match v.intrTarget owner with
  | none => v.onC (fun c => c.bump 0x3806 0)
  | some t => v.onC (fun c => (c.submit
      { serial := 0, cls := 4, slice := if owner = 0xFF then none else some owner, source := 99, port := 0, link := 0,
        hmw := 0, intr := 1, iso := 0, queue := none, isData := false, msgs := [], host := [intrWrite 4 t] }).1)

/-- Cuts bytes into writes that cross no 4 KiB boundary, from an offset of a ring of `size` bytes on. -/
def ringPieces (base size : Nat) : Nat → Nat → List Nat → List (Nat × List Nat)
  | 0, _, _ => []
  | fuel + 1, off, bytes =>
    if bytes = [] then []
    else
      let at_ := off % size
      let n := 4096 - at_ % 4096
      (base + at_, bytes.take n) :: ringPieces base size fuel (off + n) (bytes.drop n)

/-- The writes of a ring unit at WPTR. -/
def Vangeg.ringWrites (v : Vangeg) (r cls pasid : Nat) (u : RingUnit) : List HostWrite :=
  (ringPieces (v.ringReg r 2) (2 ^ v.ringReg r 3) (u.payload.length / 4096 + 2) (v.ringReg r 5) u.payload).map (fun p =>
    { id := 0, pasid := pasid, addr := p.1 / 64 * 64, bytes := p.2.length, cls := cls, use := .unit r u.id, serial := 0,
      payload := p.1 % 64 :: p.2 })

/-- A trace source's record. -/
def srcReset : TraceSrc :=
  { front := [], run := 0, targetBase := 0, dataBase := 0, syncDue := false, sinceSync := 0, last := none, tsBucket := 0,
    lostBytes := 0, lostOps := 0, retired := none, powered := false, powerOps := 0, powerSeen := false, drainLost := 0,
    chunks := [], body := [], bodyFirst := 0xFF, bodySync := 0xFF, gapHost := false, gapAgg := false, latch := none }

/-- A trace source. -/
def Vangeg.src (v : Vangeg) (s : Nat) : TraceSrc := lookupD srcReset v.trc.srcs s

/-- Writes a trace source. -/
def Vangeg.setSrc (v : Vangeg) (s : Nat) (q : TraceSrc) : Vangeg :=
  { v with trc := { v.trc with srcs := putKey v.trc.srcs s q } }

/-- Marks a chunk for a sink: host (true) or aggregator. Chunks that every selected sink has taken are freed (R207). -/
def Vangeg.markChunk (v : Vangeg) (s seq : Nat) (host : Bool) (n : Nat) : Vangeg :=
  let q := v.src s
  let cs := q.chunks.map (fun k =>
    if k.seq = seq then (if host then { k with host := n } else { k with agg := n }) else k)
  v.setSrc s { q with chunks := cs.filter (fun k => !(decide (k.host = 2) && decide (k.agg = 2))) }

/-- A chunk dropped at drain (R209, R177). -/
def Vangeg.dropChunk (v : Vangeg) (s seq : Nat) (host : Bool) : Vangeg :=
  let v1 := (v.markChunk s seq host 2).onC (fun c => c.bump (0x3100 + s) 11)
  let q := v1.src s
  v1.setSrc s { q with drainLost := q.drainLost + 1, syncDue := true,
                       gapHost := q.gapHost || host, gapAgg := q.gapAgg || !host }

/-- A ring unit is lost: an image (R173), a sampling record (R166), a chunk (R209). -/
def Vangeg.ringDrop (v : Vangeg) (r : Nat) (u : RingUnit) : Vangeg :=
  if r = 0 then
    { v.onC (fun c => (c.bump 0x2911 15).baseline 50) with pawn := { v.pawn with host := { v.pawn.host with gap := true } } }
  else if r = 1 then v.onC (fun c => (c.bump 0x2912 8).baseline 52)
  else v.dropChunk u.src u.seq true

/-- Starts the oldest waiting unit of a ring when none is being written: its owner must be bound and the ring must
have room (R175, R176). -/
def Vangeg.ringStart (r : Nat) (v : Vangeg) : Vangeg :=
  let q := v.ring r
  match q.active, q.waiting with
  | none, u :: rest =>
    match v.ringPasid r with
    | none => (v.setRing r { q with waiting := rest }).ringDrop r u
    | some pasid =>
      if 2 ^ v.ringReg r 3 < (v.ringReg r 5 - v.ringReg r 6) + u.payload.length then
        (if r = 1 then (v.setRing r { q with waiting := rest }).ringDrop r u else v)
      else
        let due := decide (v.ringReg r 7 ≠ 0 ∧ v.ringReg r 7 ≤ q.sinceIntr + 1) && (v.intrTarget (v.ringOwner r)).isSome
        let cls := if r < 2 then 1 else 2
        let u1 := { u with intr := decide (v.ringReg r 7 ≠ 0 ∧ v.ringReg r 7 ≤ q.sinceIntr + 1) }
        let p := v.c.submit
          { serial := 0, cls := cls, slice := v.ringSlice r, source := 100 + r, port := 0, link := 0,
            hmw := u.payload.length + 8, intr := b2n due, iso := 0, queue := none, isData := false, msgs := [],
            host := v.ringWrites r cls pasid u }
        let v1 := { v with c := p.1 }
        match p.2 with
        | .started => v1.setRing r { q with waiting := rest, active := some { u1 with issued := true } }
        | .waits => v1.setRing r { q with waiting := rest, active := some u1 }
        | .dropped => (v1.setRing r { q with waiting := rest }).ringDrop r u
  | _, _ => v

/-- Starts what a ring can start. -/
def Vangeg.ringPump (r : Nat) (v : Vangeg) : Vangeg :=
  (List.range ((v.ring r).waiting.length + 1)).foldl (fun a _ => a.ringStart r) v

/-- Puts a unit in a ring's queue. -/
def Vangeg.ringPush (r : Nat) (payload : List Nat) (src seq : Nat) (v : Vangeg) : Vangeg :=
  let q := v.ring r
  let n := v.c.takeSerial
  let u : RingUnit := { id := q.nextId, payload := payload, issued := false, failed := false, intr := false, src := src, seq := seq,
                        serial := n.2 }
  (({ v with c := n.1 }).setRing r { q with waiting := q.waiting ++ [u], nextId := q.nextId + 1 }).ringPump r

/-- The units a ring holds. -/
def Ring.held (q : Ring) : Nat := q.waiting.length + (match q.active with | some _ => 1 | none => 0)

/-! ## The write port -/

/-- The least identifier no outstanding write uses. -/
def Boundary.freeId (b : Boundary) : Option Nat :=
  (List.range 64).find? (fun i => !(b.writes.any (fun w => decide (w.id = i))))

/-- Issues a write under an identifier: counted as bytes or as an interrupt message. -/
def Vangeg.issue (v : Vangeg) (w : HostWrite) (i : Nat) : Vangeg :=
  let w1 := { w with id := i }
  let intr := decide (w.use = .interrupt)
  let v1 := v.onC (fun c =>
    ((if intr then (c.baseline 8).consume w.cls 2 1 else (c.addReg 0x2C00 8 w.bytes).consume w.cls 1 w.bytes)).send
        (.hostWrite i w.pasid w.addr w.bytes intr w.payload))
  { v1 with bnd := { v1.bnd with writes := v1.bnd.writes ++ [w1] } }

/-- Issues a write, or lets it wait for an identifier (R104). -/
def Vangeg.issueOrWait (v : Vangeg) (w : HostWrite) : Vangeg :=
  match v.bnd.freeId with
  | some i => v.issue w i
  | none => { v with bnd := { v.bnd with writeQueue := v.bnd.writeQueue ++ [w] } }

/-- An amount of host writing or interrupts that a started unit has not yet issued. -/
def hostPart (cls : Nat) (slice : Option Nat) (hmw intr : Nat) : WorkUnit :=
  { serial := 0, cls := cls, slice := slice, source := 0, port := 0, link := 0, hmw := hmw, intr := intr, iso := 0,
    queue := none, isData := false, msgs := [], host := [] }

/-- What started host units have not yet issued: writes that wait for an identifier, the mirror write of a unit still
being written, and the interrupt that follows a mirror write (R262). -/
def Vangeg.hostRest (v : Vangeg) : List WorkUnit :=
  v.bnd.writeQueue.map (fun w =>
    match w.use with
    | .unit r _ => hostPart w.cls (v.ringSlice r) w.bytes 0
    | .mirror r => hostPart w.cls (v.ringSlice r) w.bytes 0
    | .interrupt => hostPart w.cls none 0 1) ++
  (List.range 6).map (fun r =>
    let q := v.ring r
    let cls := if r < 2 then 1 else 2
    match q.active with
    | some u => if u.issued then hostPart cls (v.ringSlice r) 8 (b2n u.intr) else hostPart cls none 0 0
    | none => hostPart cls (v.ringSlice r) 0 (b2n (q.mirrorOut && q.intrDue)))

/-- Whether a write belongs to a unit of a ring. -/
def usesUnit (r id : Nat) (w : HostWrite) : Bool := decide (w.use = .unit r id)

/-- Whether writes of a ring unit are outstanding. -/
def Vangeg.unitBusy (v : Vangeg) (r id : Nat) : Bool :=
  v.bnd.writes.any (usesUnit r id) || v.bnd.writeQueue.any (usesUnit r id) || v.c.bud.issuing.any (usesUnit r id)

/-- The outputs of a Vangeg that follow its state: FENCE_OUT is 1 while it is fenced (R125, R439, R440), HMW_SQ_VALID
while a squash is in progress (R107), ERR_READY once the hub runs and fewer than 256 reports wait (R115, R424). -/
def Vangeg.drive (v : Vangeg) : Vangeg :=
  v.onC (fun c => ((c.setPin .fenceOut (b2n (v.bnd.inReset || decide (c.reg 0x7001 2 ≠ 0)))).setPin .hmwSqValid
    (b2n v.bnd.squash.isSome)).setPin .errReady
    (b2n (v.bnd.pllLocked && decide ((c.bud.waiting.filter (fun u => decide (u.cls = 4))).length < 256))))

/-- A write of a unit that was started goes to the port, or waits for an identifier. -/
def Vangeg.issueStarted (v : Vangeg) (w : HostWrite) : Vangeg :=
  match w.use with
  | .unit r id =>
    (match (v.ring r).active with
     | some u => if u.id = id then v.setRing r { v.ring r with active := some { u with issued := true } } else v
     | none => v).issueOrWait w
  | _ => v.issueOrWait w

/-- Images of the aggregator among the lost units are counted, and the dump has a gap (R173, R174). -/
def Vangeg.dropImages (lost : List Nat) (v : Vangeg) : Vangeg :=
  let d := v.pawn.agg
  let gone := (d.held.filter (fun s => decide (s ∈ lost))).length
  if gone = 0 then v
  else { v with
    c := (List.range gone).foldl (fun a _ => (a.bump 0x2910 9).baseline 50) v.c,
    pawn := { v.pawn with agg := { d with gap := true, held := d.held.filter (fun s => !decide (s ∈ lost)) } } }

/-- After a command at a Vangeg: writes of started units go to the port; images of the aggregator that were dropped or
abandoned are counted; a ring unit dropped while it waited is lost. -/
def Vangeg.settle (v : Vangeg) : Vangeg :=
  (v.c.bud.issuing.foldl Vangeg.issueStarted
    { v with c := { v.c with bud := { v.c.bud with issuing := [], lostUnits := [] } } }).dropImages v.c.bud.lostUnits

/-- What ends every command at a Vangeg: no unit is left in transit, and the outputs follow the state. -/
def Vangeg.flush (v : Vangeg) : Vangeg := v.settle.drive

/-- A write has ended: it leaves the port, and the oldest waiting write takes its identifier. -/
def Vangeg.retire (v : Vangeg) (w : HostWrite) : Vangeg :=
  let v1 := { v with bnd := { v.bnd with writes := v.bnd.writes.filter (fun x => decide (x.id ≠ w.id)) } }
  match v1.bnd.writeQueue with
  | [] => v1
  | q :: rest => ({ v1 with bnd := { v1.bnd with writeQueue := rest } }).issue q w.id

/-- A unit of a ring fails with one of its writes (R177). -/
def Vangeg.failUnit (v : Vangeg) (w : HostWrite) : Vangeg :=
  match w.use with
  | .unit r id =>
    (let q := v.ring r
     match q.active with
     | some u => if u.id = id then v.setRing r { q with active := some { u with failed := true } } else v
     | none => v)
  | _ => v

/-- A response on the host memory write port (R103, R106): 0 done, 1 translation fault, 2 target error; the reserved
value 3 is one of the two by a free value. -/
def Vangeg.writeResponse (id resp : Nat) (v : Vangeg) : Vangeg :=
  match v.bnd.writes.find? (fun w => decide (w.id = id)) with
  | none => v
  | some w =>
    let d := v.c.drawFree 1
    let bad := if resp < 3 then decide (resp ≠ 0) else decide (d.2 = 1)
    let v1 := if resp < 3 then v else { v with c := d.1 }
    if bad then
      ((v1.failUnit w).onC (fun c => ((c.countLoss w.cls).bump 0x1024 0).baseline 59)).retire w
    else v1.retire w

/-- Every write of the unit being written is answered: WPTR advances and the mirror write is issued, or the unit is
dropped (R177). -/
def Vangeg.ringAnswered (r : Nat) (v : Vangeg) : Vangeg :=
  let q := v.ring r
  match q.active with
  | none => v
  | some u =>
    let waits := v.c.bud.waiting.any (fun w => decide (w.source = 100 + r))
    if waits || v.unitBusy r u.id then v
    else if u.failed || !u.issued then ((v.setRing r { q with active := none }).ringDrop r u).ringPump r
    else
      let wptr := v.ringReg r 5 + u.payload.length
      let pasid := (v.ringPasid r).getD 0
      let m := v.ringReg r 4
      let w : HostWrite := { id := 0, pasid := pasid, addr := m / 64 * 64, bytes := 8, cls := if r < 2 then 1 else 2,
                             use := .mirror r, serial := u.serial, payload := m % 64 :: bytesLE 8 wptr }
      let every := v.ringReg r 7
      let n := q.sinceIntr + 1
      let hit := decide (every ≠ 0 ∧ every ≤ n)
      let q1 := { q with active := none, mirrorOut := true, intrDue := q.intrDue || hit, sinceIntr := if hit then 0 else n }
      let v1 := ((v.setRing r q1).setRingReg r 5 wptr).onC (fun c =>
        { c with bud := { c.bud with issuing := c.bud.issuing ++ [w] } })
      let v2 := if r < 2 then v1 else v1.markChunk u.src u.seq true 2
      v2.ringPump r

/-- The mirror write is answered; an interrupt message follows every INTR_EVERY units (R177). -/
def Vangeg.mirrorAnswered (r : Nat) (v : Vangeg) : Vangeg :=
  let q := v.ring r
  let isMirror := fun (w : HostWrite) => decide (w.use = .mirror r)
  if q.mirrorOut && !(v.bnd.writes.any isMirror || v.bnd.writeQueue.any isMirror) then
    let v1 := v.setRing r { q with mirrorOut := false, intrDue := false }
    if q.intrDue then v1.issueIntr (if r < 2 then 1 else 2) (v.ringOwner r) else v1
  else v

/-- The host acknowledges a squash (R107): every outstanding write of the PASID is retired and counted; the next
waiting squash is asserted. -/
def Vangeg.squashAck (v : Vangeg) : Vangeg :=
  match v.bnd.squash with
  | none => v
  | some (pasid, _) =>
    let hit := v.bnd.writes.filter (fun w => decide (w.pasid = pasid))
    let v1 := hit.foldl (fun a w => ((a.failUnit w).onC (fun c => (c.bump 0x1025 0).baseline 60)).retire w) v
    let next := match v1.bnd.squashNext with
      | [] => none
      | p :: _ => some (p, v1.c.now)
    { v1 with
      bnd := { v1.bnd with squash := next, squashNext := v1.bnd.squashNext.drop 1 } }

/-- A write of RPTR (R176). -/
def Vangeg.ruleRptr (r x : Nat) (v : Vangeg) : Vangeg × Option Abort :=
  if v.ringReg r 5 < x ∨ x < v.ringReg r 6 then (v, some .value)
  else ((v.setRingReg r 6 x).ringPump r, none)

end Sys2Proof.Machine
end

