-- ==== Sys2Proof/Machine/Lift.lean ====
section
/-! DEFINITION. How a command acts on one part: it changes that part alone, never the queue, and does nothing to a part
that is held in reset. -/

namespace Sys2Proof.Machine

variable {kd : Part}

/-- The outcome type of a command. -/
abbrev Res := Host.Outcome State Fault Refusal

/-- Whether the Shopostra runs: neither in reset, nor tripped, nor held for want of a reference clock (R609, R616,
R620). -/
def Shopostra.runs (x : Shopostra) : Bool := !(x.pkg.inReset || x.pkg.tripped || x.pkg.heldForClock)

/-- A command to the Vangeg. -/
def onV (f : Vangeg → Vangeg) (s : State) : Res :=
  .next (if s.vg.bnd.inReset then s else { s with vg := (f s.vg).flush })

/-- The outputs of a Shopostra that follow its state: THERMTRIP_N is low while the trip is latched (R609, R616), LASx_EN
is high while the part runs, its ports are released and the module is present (R613, R616), and the clock output carries
what TEMPO_CLKOUT_SEL selects (R79). -/
def Shopostra.drive (x : Shopostra) : Shopostra :=
  let en := fun (c : Common _) (i : Nat) => b2n (x.runs && x.pkg.portsReleased && decide (c.pin (.lasPresN i) = 0))
  let c1 := ((x.c.setPin .thermtripN (b2n (!x.pkg.tripped))).setPin (.lasEn 0) (en x.c 0)).setPin (.lasEn 1) (en x.c 1)
  { x with c := c1.setPin .clkOut (if x.runs then x.c.reg 0x1235 0 else 0) }

/-- What ends every command at a Shopostra: units dropped or abandoned have no source to tell, and the outputs follow
the state. -/
def Shopostra.flush (x : Shopostra) : Shopostra :=
  Shopostra.drive { x with c := { x.c with bud := { x.c.bud with issuing := [], lostUnits := [] } } }

/-- A command to the Shopostra. -/
def onX (f : Shopostra → Shopostra) (s : State) : Res :=
  .next (if s.sx.runs then { s with sx := (f s.sx).flush } else s)

/-- A change of the Shopostra's common units. -/
def Shopostra.onC (x : Shopostra) (f : Common .shopostra → Common .shopostra) : Shopostra := { x with c := f x.c }

/-- A command to the common units of one part. -/
def onC (p : Part) (f : Common p → Common p) (s : State) : Res :=
  match p, f with
  | .vangeg, f => onV (fun v => v.onC f) s
  | .shopostra, f => onX (fun x => x.onC f) s

/-- A command to one part, with a meaning for each. -/
def onPart (p : Part) (fv : Vangeg → Vangeg) (fx : Shopostra → Shopostra) (s : State) : Res :=
  match p with
  | .vangeg => onV fv s
  | .shopostra => onX fx s

/-! ## Slices at a Vangeg (R559, R570, R572) -/

/-- Owner of a pawn cell: a slice, or 0xFF (R154). -/
def Common.cellOwner (c : Common kd) (cell : Nat) : Nat := c.reg (0x2800 + cell / 128) (cell % 128 + 1)

/-- The slice an object names, directly or through the owner of a cell or trace source; `some 0xFF` when unowned. -/
def Vangeg.objectSlice (x : Vangeg) (idx sub : Nat) : Option Nat :=
  if sub = 0 then none
  else if 0x2000 ≤ idx ∧ idx < 0x2800 then
    (let o := x.c.cellOwner ((idx - 0x2000) / 8)
     some (if o = 0xFF then o else o % 64))
  else if 0x3100 ≤ idx ∧ idx < 0x3110 then some (x.c.reg idx 2)
  else if 0x3810 ≤ idx ∧ idx < 0x3850 then some (idx - 0x3810)
  else none

/-- Whether the slice rules admit a request: at P3 and P4 only the requester's own bound slice (R559), and not while
its slice table entry has a parity error (R572). -/
def Vangeg.sliceAdmits (x : Vangeg) (r : Req) (idx sub : Nat) : Bool :=
  if r.priv < 3 then true
  else
    let own := x.sliceOfPasid r.pasid
    (match own with | some s => !(x.slice s).parityBad | none => true) &&
    (match x.objectSlice idx sub with
     | none => true
     | some s => decide (own = some s))

/-- Whether a P3 or P4 request comes from a slice under reset (R570). -/
def Vangeg.requesterResetting (x : Vangeg) (r : Req) : Bool :=
  if r.priv < 3 then false
  else match x.sliceOfPasid r.pasid with
    | some s => decide (x.sliceState s = 2)
    | none => false

/-- A write at a Vangeg under an object's rule: access, slices, type, the rule; then the answer. -/
def Vangeg.ruled (x : Vangeg) (r : Req) (idx sub v : Nat) (rule : Vangeg → Vangeg × Option Abort) : Vangeg :=
  match x.c.gate r idx sub true (x.sliceAdmits r idx sub) with
  | some a => x.onC (fun c => c.answer r .write idx sub (some a) 0 0 false)
  | none =>
    match findRow idx sub with
    | none => x.onC (fun c => c.answer r .write idx sub (some .noObject) 0 0 false)
    | some o =>
      if !x.c.valueFits o.ty v then x.onC (fun c => c.answer r .write idx sub (some .value) 0 0 false)
      else if x.requesterResetting r then x.onC (fun c => c.answer r .write idx sub (some .state) 0 0 false)
      else
        let q := rule x
        q.1.onC (fun c => c.answer r .write idx sub q.2 0 0 false)

/-- The same at a Shopostra. -/
def Shopostra.ruled (x : Shopostra) (r : Req) (idx sub v : Nat) (rule : Shopostra → Shopostra × Option Abort) :
    Shopostra :=
  match x.c.gate r idx sub true true with
  | some a => x.onC (fun c => c.answer r .write idx sub (some a) 0 0 false)
  | none =>
    match findRow idx sub with
    | none => x.onC (fun c => c.answer r .write idx sub (some .noObject) 0 0 false)
    | some o =>
      if x.c.valueFits o.ty v then
        let q := rule x
        q.1.onC (fun c => c.answer r .write idx sub q.2 0 0 false)
      else x.onC (fun c => c.answer r .write idx sub (some .value) 0 0 false)

/-- Stores a value in its object. -/
def Common.store (c : Common kd) (idx sub v : Nat) : Common kd × Option Abort :=
  match findRow idx sub with
  | some o => (c.setReg idx sub (storedForm o.ty v), none)
  | none => (c, some .noObject)

/-- A rule of the common units, at a Vangeg. -/
def ruleV (f : Common .vangeg → Common .vangeg × Option Abort) (x : Vangeg) : Vangeg × Option Abort :=
  let q := f x.c
  ({ x with c := q.1 }, q.2)

/-- A rule of the common units, at a Shopostra. -/
def ruleX (f : Common .shopostra → Common .shopostra × Option Abort) (x : Shopostra) : Shopostra × Option Abort :=
  let q := f x.c
  ({ x with c := q.1 }, q.2)

/-- A write to an object that both parts hold, under a rule of the common units. -/
def writeBoth (p : Part) (r : Req) (idx sub v : Nat) (f : Common p → Common p × Option Abort) (s : State) : Res :=
  match p, f with
  | .vangeg, f => onV (fun x => x.ruled r idx sub v (ruleV f)) s
  | .shopostra, f => onX (fun x => x.ruled r idx sub v (ruleX f)) s

end Sys2Proof.Machine
end

