-- ==== Sys2Proof/Machine/Cut.lean ====
section
/-! DEFINITION. Capture of the frames in flight at a cut (R472, R473). -/

namespace Sys2Proof.Machine

variable {kd : Part}

/-- Frames of a lane and queue still to be captured; none while SNAP_COUNT has not come. -/
def PortCapture.owed (k : PortCapture) (lq : Nat × Nat) : Option Nat :=
  k.sent.map (fun s => (lookupD 0 s lq + 2 ^ 32 - lookupD 0 k.recv lq % 2 ^ 32) % 2 ^ 32 -
    (k.frames.filter (fun f => decide ((f.1, if f.2.cls = 2 then 8 else f.2.queue) = lq))).length)

/-- A capture is complete when every difference is met. -/
def PortCapture.settle (k : PortCapture) : PortCapture :=
  match k.sent with
  | none => k
  | some s => { k with done := k.done || s.all (fun q => decide (k.owed q.1 = some 0)) }

/-- Takes a frame received on a lane, if it is still wanted; the 512th ends a capture that is not complete (R473). -/
def PortCapture.take (k : PortCapture) (l : Nat) (f : Frame) : PortCapture :=
  if k.done || k.incomplete || decide (k.owed (l, if f.cls = 2 then 8 else f.queue) = some 0) then k
  else
    let k1 := ({ k with frames := k.frames ++ [(l, f)] } : PortCapture).settle
    if 512 ≤ k1.frames.length ∧ k1.done = false then { k1 with incomplete := true } else k1

/-- SNAP_COUNT (R472): frames captured beyond SENT - RECEIVED of a lane and queue are not of the cut. -/
def PortCapture.count (k : PortCapture) (s : List ((Nat × Nat) × Nat)) : PortCapture :=
  let k1 := { k with sent := some s, frames := [] }
  k.frames.foldl (fun (a : PortCapture) f => if a.owed (f.1, if f.2.cls = 2 then 8 else f.2.queue) = some 0 then a
    else { a with frames := a.frames ++ [f] }) k1 |>.settle

/-- Changes the captures of a port in every image; a capture that ends incomplete is counted and reported. -/
def Common.onCapture (c : Common kd) (p : Nat) (sel : SnapImage → Bool) (f : PortCapture → PortCapture) : Common kd :=
  let upd := fun (i : SnapImage) => if sel i then { i with ports := i.ports.map (fun k => if k.port = p then f k else k) } else i
  let bad := (c.flag.images.filter sel).any (fun i => i.ports.any (fun k => decide (k.port = p) && !k.incomplete && (f k).incomplete))
  let images := c.flag.images.map upd
  let c1 : Common kd := { c with flag := { c.flag with images := images } }
  if bad then (c1.bump 0x3405 5).reportCode 1 0x0E02 p else c1

/-- A frame received on lane l of a port is captured as well (R473). -/
def Common.capture (c : Common kd) (p l : Nat) (f : Frame) : Common kd :=
  if c.flag.images.all (fun i => i.ports.all (fun k => decide (k.port ≠ p) || k.done || k.incomplete)) then c
  else c.onCapture p (fun _ => true) (fun k => k.take l f)

/-- A TIME frame as captured: only its class is kept. -/
def timeFrame : Frame :=
  { cls := 2, queue := 0, first := true, last := true, len := 240, stream := 0, epoch := 0, source := 0, frag := 0, lseq := 0,
    hchkOk := true, fecOk := true, e2eOk := true, credit := none, body := .data [] }

/-- Captures of a port end incomplete: it goes DOWN, or 250 µs have passed (R473). -/
def Common.captureFail (c : Common kd) (p : Nat) (sel : SnapImage → Bool) : Common kd :=
  c.onCapture p sel (fun k => if k.done then k else { k with incomplete := true })

end Sys2Proof.Machine
end

