-- ==== Sys2Proof/Machine/Tempo.lean ====
section
/-! DEFINITION. Tempo (02_tempo.md): formats, counting, states, sources, transfer down the tree. -/

namespace Sys2Proof.Machine

variable {kd : Part}

/-! ## Counting and stepping -/

/-- Quotient of integers; where it is not exact the rounding is not stated, and a free bit decides it. -/
def Common.quotient (c : Common kd) (num : Int) (den : Nat) : Common kd × Int :=
  if num % (den : Int) = 0 then (c, num / (den : Int))
  else
    let q := c.drawFree 1
    (q.1, num / (den : Int) + (q.2 : Int))

/-- One tick of the master counter: the rate term plus the slew term (R58). -/
def Common.tick (c : Common kd) : Common kd :=
  { c with now := ((c.now : Int) + (c.reg 0x1204 0 : Int) + c.tempo.slew).toNat }

/-- Compare objects (0-based) that are armed with an instant in the half-open span from `a` to `b`. -/
def Common.armedIn (c : Common kd) (a b : Ticks) : List Nat :=
  (List.range 16).filter (fun i => decide (c.reg 0x1211 (i + 1) = 1 ∧ a < c.timeOf (c.reg 0x1210 (i + 1)) ∧
    c.timeOf (c.reg 0x1210 (i + 1)) ≤ b))

/-- A phase step of `d` units of 1/256 ns at one tick (R61); armed compare objects that a forward step passes read
"fired after step" (R62). -/
def Common.stepBy (c : Common kd) (d : Int) : Common kd :=
  let t := ((c.now : Int) + d * (2 ^ 24 : Nat)).toNat
  let c1 := (c.armedIn c.now t).foldl (fun a i => a.setReg 0x1211 (i + 1) 3) c
  { c1 with now := t, tempo := { c1.tempo with
    exch := c1.tempo.exch.map (fun e => (e.1, { e.2 with offsets := [] })) } }

/-- In ACQUIRING, with no session, an offset above TEMPO_STEP_LIMIT makes the part step by itself (R61). -/
def Common.autoStep (c : Common kd) : Common kd :=
  let o := c.regI 64 0x120A 0
  if c.tempoState = 1 ∧ c.reg 0x1208 0 * 256 < o.natAbs ∧ !c.inSession then c.stepBy (-o) else c

/-- The servo's terms after a measurement in automatic mode: the spec bounds them (R59, R60) and states no more, so
each is free within its bound; the remaining slew is the offset with its sign reversed. -/
def Common.servo (c : Common kd) : Common kd :=
  if c.reg 0x1206 0 = 0 then
    let a := c.drawFree 64
    let b := a.1.drawFree 64
    let nominal := c.reg 0x1205 0
    let c1 := b.1.setReg 0x1204 0 (nominal - nominal / 10000 + a.2 % (2 * (nominal / 10000) + 1))
    { c1.setRegI 64 0x120B 0 (-(c1.regI 64 0x120A 0)) with
      tempo := { c1.tempo with slew := ((b.2 % (2 * (nominal / 1000000) + 1) : Nat) : Int) - ((nominal / 1000000 : Nat) : Int) } }
  else c

/-! ## States (R72, R73) -/

/-- Moves the Tempo state, recording event 0x0211 on a change. -/
def Common.setTempoState (c : Common kd) (n : Nat) : Common kd :=
  if c.tempoState = n then c
  else
    let c1 := c.baseline 44
    ((if n = 3 then c1.baseline 45 else c1).setReg 0x1209 0 n).event 0x0211 0 [c.tempoState, n]

/-- TEMPO_HOLDOVER_MS brought up to date. -/
def Common.countHoldover (c : Common kd) : Common kd :=
  match c.tempo.holdoverSince with
  | some t => c.setReg 0x120C 0 ((c.now - t) / msT 1 % 2 ^ 32)
  | none => c

/-- Entry to HOLDOVER: the slew term is zeroed, remaining slew abandoned, the rate term kept (R73). -/
def Common.enterHoldover (c : Common kd) : Common kd :=
  let c1 := c.setTempoState 3
  { c1.setReg 0x120B 0 0 with tempo := { c1.tempo with slew := 0, holdoverSince := some c1.now, source := none } }

/-- The source is lost: HOLDOVER from LOCKED, or from ACQUIRING after an earlier lock; else FREERUN. -/
def Common.loseSource (c : Common kd) : Common kd :=
  if c.tempoState = 2 ∨ (c.tempoState = 1 ∧ c.tempo.everLocked) then c.enterHoldover
  else if c.tempoState = 1 then
    let c1 := c.setTempoState 0
    { c1 with tempo := { c1.tempo with source := none } }
  else c

/-- A source becomes valid: FREERUN and HOLDOVER go to ACQUIRING, measuring afresh (R74). -/
def Common.gainSource (c : Common kd) : Common kd :=
  if c.tempoState = 0 ∨ c.tempoState = 3 then
    let c1 := (c.countHoldover).setTempoState 1
    { c1 with tempo := { c1.tempo with lowRun := 0, highRun := 0, holdoverSince := none,
                                       exch := c1.tempo.exch.map (fun e => (e.1, { e.2 with offsets := [] })) } }
  else c

/-- Entry to LOCKED after 80 board cycles at or below 4 ns. -/
def Common.lock (c : Common kd) : Common kd :=
  if c.tempoState = 1 ∧ 80 ≤ c.tempo.lowRun then
    let c1 := (c.setTempoState 2).setReg 0x120C 0 0
    { c1 with tempo := { c1.tempo with everLocked := true, highRun := 0 } }
  else c

/-- LOCKED back to ACQUIRING after 8 board cycles above 4 ns. -/
def Common.unlock (c : Common kd) : Common kd :=
  if c.tempoState = 2 ∧ 8 ≤ c.tempo.highRun then
    let c1 := c.setTempoState 1
    { c1 with tempo := { c1.tempo with lowRun := 0 } }
  else c

/-- The run counters at a board-cycle start. -/
def Common.countRuns (c : Common kd) : Common kd :=
  let small := decide ((c.regI 64 0x120A 0).natAbs ≤ 1024)
  { c with tempo := { c.tempo with
    lowRun := if small then c.tempo.lowRun + 1 else 0
    highRun := if small then 0 else c.tempo.highRun + 1 } }

/-! ## Lanes as time sources -/

/-- An exchange record at reset. -/
def exchangeReset : Exchange :=
  { seq := 0, t1 := 0, t4 := 0, answered := true, open_ := none, paths := [], offsets := [], lastDone := none,
    senderLocked := false, modeErrors := 0, trained := 0 }

/-- The exchange record of a lane (Shopostra lane 2p + l, Vangeg lane l). -/
def Common.exchange (c : Common kd) (lane : Nat) : Exchange := lookupD exchangeReset c.tempo.exch lane

/-- Writes a lane's exchange record. -/
def Common.setExchange (c : Common kd) (lane : Nat) (e : Exchange) : Common kd :=
  { c with tempo := { c.tempo with exch := putKey c.tempo.exch lane e } }

/-- The port of a lane. -/
def Common.lanePort (c : Common kd) (lane : Nat) : Nat :=
  match c.kind with
  | .shopostra => lane / 2
  | .vangeg => if c.portCount = 2 then lane else 0

/-- The lane's number within its port. -/
def Common.laneIn (c : Common kd) (lane : Nat) : Nat :=
  match c.kind with
  | .shopostra => lane % 2
  | .vangeg => if c.portCount = 2 then 0 else lane

/-- Subindex of a lane in TEMPO_LINK_DELAY and TEMPO_LINK_ASYM: ports of a Shopostra, lanes of a Vangeg. -/
def Common.linkSub (c : Common kd) (lane : Nat) : Nat :=
  match c.kind with
  | .shopostra => lane / 2 + 1
  | .vangeg => lane + 1

/-- Whether a lane is valid as a time source: an exchange completed in the last 2 board cycles, its sender LOCKED, and
no 8 cycles of MODE violations (R88, Table 6-8). -/
def Common.laneValid (c : Common kd) (lane : Nat) : Bool :=
  let e := c.exchange lane
  e.senderLocked && decide (e.modeErrors < 8) &&
    (match e.lastDone with | some t => decide (c.now ≤ t + 2 * cycleT) | none => false)

/-- Time-source ports in order of preference, as lists of lanes (R81, R87). -/
def Common.sourceOrder (c : Common kd) : List (List Nat) :=
  match c.kind with
  | .vangeg => if c.portCount = 2 then [[c.reg 0x1015 0]] else [[0], [1]]
  | .shopostra =>
    if c.reg 0x1012 0 = 3 then (if c.reg 0x1013 0 = 1 then [[64, 65], [88, 89]] else [])
    else [[16, 17], [40, 41]]

/-- The first valid lane of the first valid port. -/
def Common.bestLane (c : Common kd) : Option Nat := (c.sourceOrder.flatten).find? (fun l => c.laneValid l)

/-- An aggregator keeps its time-source port while it is valid; a die takes the first valid lane of its order. Otherwise
the part takes the next valid one, by slewing, or loses the source (R87, R88). -/
def Common.checkSource (c : Common kd) : Common kd :=
  match c.tempo.source with
  | none => c
  | some l =>
    if c.laneValid l && decide (c.kind = .shopostra ∨ c.bestLane = some l) then c
    else match c.bestLane with
      | some l' => { c with tempo := { c.tempo with source := some l' } }
      | none => if c.sourceOrder = [] then c else c.loseSource

/-- Run counters of R87 and R89 at a board-cycle start: parent A valid while B is used, and parents that differ by
more than 10 ns. -/
def Common.countParents (c : Common kd) : Common kd :=
  match c.sourceOrder with
  | [a, b] =>
    let va := a.any c.laneValid
    let vb := b.any c.laneValid
    let far := va && vb && decide (2560 < (c.regI 64 0x1222 0).natAbs)
    { c with tempo := { c.tempo with
      returnRun := if va then c.tempo.returnRun + 1 else 0
      diffRun := if far then c.tempo.diffRun + 1 else 0 } }
  | _ => c

/-- Mean of a list of integers, rounding free where it is not exact. -/
def Common.meanOf (c : Common kd) (l : List Int) : Common kd × Int :=
  if l = [] then (c, 0) else c.quotient l.sum l.length

/-- The key of the record that holds what is measured over a link: all lanes of a port of a Shopostra, a lane of a
Vangeg. -/
def Common.linkKey (c : Common kd) (lane : Nat) : Nat := 2000 + c.linkSub lane

/-- The last offset measured over a link, zero where there is none. -/
def Common.portOffset (c : Common kd) (lanes : List Nat) : Int :=
  match lanes with
  | l :: _ => (match (c.exchange (c.linkKey l)).offsets with | o :: _ => o | [] => 0)
  | [] => 0

/-- A completed exchange at the lower end (R85): mean path, offset, reports, and what follows from them. Arguments in
1/256 ns. -/
def Common.completeExchange (c : Common kd) (lane : Nat) (t1 t2 t3 t4 : Int) : Common kd :=
  let m := c.quotient ((t4 - t1) - (t3 - t2)) 2
  let h := m.1.quotient (m.1.regI 32 0x1221 (c.linkSub lane)) 2
  let offset := (t2 - t1) - (m.2 + h.2)
  let e := h.1.exchange lane
  let g := h.1.setExchange lane { e with lastDone := some h.1.now, trained := e.trained + 1 }
  let q := g.exchange (g.linkKey lane)
  let e' := { q with paths := (m.2 :: q.paths).take 64, offsets := (offset :: q.offsets).take 8 }
  let d := (g.setExchange (g.linkKey lane) e').meanOf e'.paths
  let c1 := d.1.setRegI 32 0x1220 (c.linkSub lane) d.2
  let c2 :=
    if c1.tempo.source.map c1.linkSub = some (c1.linkSub lane) then
      let o := c1.meanOf e'.offsets
      ((o.1.setRegI 64 0x120A 0 o.2).autoStep).servo
    else c1
  match c2.sourceOrder with
  | [a, b] => c2.setRegI 64 0x1222 0 (c2.portOffset b - c2.portOffset a)
  | _ => c2

/-! ## Apex sources (R75) -/

/-- Whether the source of a value of Table 2-7 is valid. -/
def Common.apexSourceValid (c : Common kd) (k : Nat) : Bool :=
  match k with
  | 1 => c.tempo.ptpValid && c.tempo.synceValid
  | 2 => c.tempo.ptpValid
  | 3 => c.tempo.ppsValid
  | _ => false

/-- The source that TEMPO_SOURCE_SEL selects; 0 when none is valid. -/
def Common.apexSource (c : Common kd) : Nat :=
  match c.reg 0x120D 0 with
  | 0 => if c.apexSourceValid 1 then 1 else if c.apexSourceValid 2 then 2 else if c.apexSourceValid 3 then 3 else 0
  | k => if c.apexSourceValid k then k else 0

/-- Whether the part takes time from its own grandmaster connection: the apex, and the mirror apex without its partner
(R81). `own` says which. -/
def Common.selectApexSource (c : Common kd) (own : Bool) : Common kd :=
  if own then
    let k := c.apexSource
    let old := c.reg 0x120E 0
    let c1 := c.setReg 0x120E 0 k
    if k = 0 then (if old = 0 then c1 else c1.loseSource)
    else c1.gainSource
  else c

/-! ## Rules of written objects -/

/-- The apex: a Shopostra of level role 3. -/
def Common.isApexRole (c : Common kd) : Bool := c.kind = .shopostra && c.reg 0x1012 0 = 3

/-- TEMPO_MODE (R55): at the apex with no session in the fleet; broadcasts the mode with S, the first second boundary
at least 2 s after the write. -/
def ruleTempoMode (v : Nat) (c : Common kd) : Common kd × Option Abort :=
  if 1 < v then (c, some .value)
  else if !c.isApexRole || c.inSession then (c, some .state)
  else
    let s := (c.now + secT 2 + secT 1 - 1) / secT 1 * secT 1
    (({ c with tempo := { c.tempo with switchAt := some (s, v) } }).message .childrenAndPartner
      "TEMPO_MODE" [v, encodeTime c.mode c.epoch 0 s], none)

/-- TEMPO_EPOCH (R54). -/
def ruleTempoEpoch (v : Nat) (c : Common kd) : Common kd × Option Abort :=
  if !c.isApexRole || c.inSession then (c, some .state)
  else ((c.setReg 0x1201 0 v).message .childrenAndPartner "TEMPO_EPOCH" [v], none)

/-- TEMPO_INCR (R59): manual mode only, within 100 ppm. -/
def ruleTempoIncr (v : Nat) (c : Common kd) : Common kd × Option Abort :=
  let n := c.reg 0x1205 0
  if v * 10000 < n * 9999 ∨ n * 10001 < v * 10000 then (c, some .value)
  else if c.reg 0x1206 0 = 0 then (c, some .state)
  else (c.setReg 0x1204 0 v, none)

/-- TEMPO_STEP (R61). -/
def ruleTempoStep (v : Nat) (c : Common kd) : Common kd × Option Abort :=
  if c.inSession then (c, some .state) else (c.stepBy (ofTwos 64 v), none)

/-- TEMPO_CMP entry n (R67, R68): zero disarms; an instant at or before Tempo is refused. -/
def ruleTempoCmp (n v : Nat) (c : Common kd) : Common kd × Option Abort :=
  if v = 0 then ((c.setReg 0x1210 n 0).setReg 0x1211 n 0, none)
  else if c.timeOf v ≤ c.now then (c, some .value)
  else ((c.setReg 0x1210 n (storedForm .time v)).setReg 0x1211 n 1, none)

/-- TEMPO_SOURCE_SEL (R75, R96). -/
def ruleSourceSel (v : Nat) (c : Common kd) : Common kd × Option Abort :=
  if 3 < v then (c, some .value)
  else if !c.isApexRole then (c, some .state)
  else ((c.setReg 0x120D 0 v).selectApexSource true, none)

/-- TEMPO_TOD (R80, R96): the seconds of the written TIME value, for the next edge. -/
def ruleTod (v : Nat) (c : Common kd) : Common kd × Option Abort :=
  if !c.isApexRole then (c, some .state)
  else ({ c with tempo := { c.tempo with tod := some (c.timeOf v / secT 1) } }, none)

/-- TEMPO_LINK_ASYM of a link (R86): the value in use only. -/
def ruleLinkAsym (sub v : Nat) (c : Common kd) : Common kd × Option Abort := c.store 0x1221 sub v

/-! ## Format switch (R57) -/

/-- Every TIME value held, rewritten in the new format. -/
def Common.rewriteTimes (c : Common kd) (mode : Nat) : Common kd :=
  c.dict.foldl (fun a kv =>
    match findRow (kv.1 / 256) (kv.1 % 256) with
    | some r =>
      if r.ty = .time ∧ kv.2 ≠ 0 then a.setReg (kv.1 / 256) (kv.1 % 256) (encodeTime mode c.epoch 0 (c.timeOf kv.2))
      else a
    | none => a) c

/-- While a change of format is pending, instants within 2 ms of S are refused to Flag triggers, Castles, commanded fences
and rehearsals (R57). -/
def Common.nearSwitch (c : Common kd) (t : Ticks) : Bool :=
  match c.tempo.switchAt with
  | some (s, _) => decide (s ≤ t + msT 2 ∧ t ≤ s + msT 2)
  | none => false

/-- The change of format at S. Short stamps held for comparison stand as whole instants here, so D of R57 is within
them. -/
def Common.switchMode (c : Common kd) : Common kd :=
  match c.tempo.switchAt with
  | none => c
  | some (s, m) =>
    let c1 := (c.arrive s).rewriteTimes m
    { c1.setReg 0x1200 0 m with tempo := { c1.tempo with switchAt := none, switchedAt := some s } }

/-! ## TIME frames -/

/-- Stamp uncertainty of the port timestampers, in 1/256 ns rounded up: ±0.06 ns of a Vangeg, ±0.05 ns of a Shopostra
(Table 2-5). -/
def Common.portU (c : Common kd) : Nat := match c.kind with | .vangeg => 16 | .shopostra => 13

/-- Fields of a DOWN or UP TIME frame (Table 2-9): KIND, MODE, STATE, HOPS, SEQ, STAMP_A, STAMP_B, FULL. -/
def Common.timeFields (c : Common kd) (kind seq a b : Nat) : List Nat :=
  [kind, c.mode, c.stampClass c.portU + 4 * c.tempoState, c.tempo.hops, seq, a, b, c.timeValue (cycleStart c.now)]

/-- The upper end sends a DOWN frame on a lane of a port that has trained: in TIME, ACTIVE or DEGRADED (R82, R249). -/
def Common.sendDown (c : Common kd) (lane : Nat) : Common kd :=
  let st := c.portState (c.lanePort lane)
  let e := c.exchange lane
  let seq := (e.seq + 1) % 65536
  let t4 := if e.answered then c.stampU c.portU e.t4 else 0
  if st < 3 ∨ 5 < st then c
  else ((c.setExchange lane { e with seq := seq, t1 := c.now, answered := false }).countTime (c.lanePort lane) (c.laneIn lane) true).send
    (.time (.lane (c.lanePort lane) (c.laneIn lane)) (c.timeFields 0 seq (c.stampU c.portU c.now) t4))

/-- A TIME frame as received (Table 2-9). -/
def Common.modeError (c : Common kd) (lane mode : Nat) : Option (Common kd) :=
  if mode = c.mode then none
  else
    if c.tempo.switchedAt = some (cycleStart c.now) then some (c.bump 0x1212 0)
    else
      let e := c.exchange lane
      some ((c.setExchange lane { e with modeErrors := e.modeErrors + 1 }).violation (c.lanePort lane) (c.laneIn lane)
        0x060C)

/-- The lower end receives a DOWN frame: completes the exchange whose t4 it brings (R85) and answers with an UP frame
after a dwell (1/256 ns). -/
def Common.receiveDown (c : Common kd) (lane kind mode state hops seq a b dwell : Nat) : Common kd :=
  if 1 < kind then c.violation (c.lanePort lane) (c.laneIn lane) 0x060B
  else match c.modeError lane mode with
    | some c' => c'
    | none =>
      let e := c.exchange lane
      let c0 := c.setExchange lane { e with senderLocked := decide (state / 4 % 4 = 2), modeErrors := 0 }
      let c1 := match e.open_ with
        | some (s, t1, t2, t3) =>
          if (s + 1) % 65536 = seq then
            c0.completeExchange lane ((t1 / 2 ^ 24 : Nat) : Int) ((t2 / 2 ^ 24 : Nat) : Int) ((t3 / 2 ^ 24 : Nat) : Int)
              ((c0.extend b / 2 ^ 24 : Nat) : Int)
          else c0
        | none => c0
      let t2 := c1.now
      let t3 := c1.now + dwell * 2 ^ 24
      let e1 := c1.exchange lane
      let c2 : Common kd := { c1.setExchange lane { e1 with open_ := some (seq, c1.extend a, t2, t3) } with now := t3 }
      let c3 : Common kd := { c2 with tempo := { c2.tempo with
        hops := if c2.tempo.source = some lane then hops + 1 else c2.tempo.hops } }
      (c3.countTime (c.lanePort lane) (c.laneIn lane) true).send (.time (.lane (c.lanePort lane) (c.laneIn lane))
        (c3.timeFields 1 seq (c3.stampU c3.portU t3) (c3.stampU c3.portU t2)))

/-- The upper end receives an UP frame: it must answer the outstanding DOWN frame; its arrival is t4, which the next
DOWN frame carries, and the exchange is complete. -/
def Common.receiveUp (c : Common kd) (lane kind mode seq : Nat) : Common kd :=
  if 1 < kind then c.violation (c.lanePort lane) (c.laneIn lane) 0x060B
  else match c.modeError lane mode with
    | some c' => c'
    | none =>
      let e := c.exchange lane
      if e.answered ∨ e.seq ≠ seq then c.violation (c.lanePort lane) (c.laneIn lane) 0x060E
      else c.setExchange lane { e with t4 := c.now, answered := true, trained := e.trained + 1, lastDone := some c.now }

/-! ## The commands -/

/-- TEMPO_MODE at a Shopostra: the mirror apex is not the apex (R55). -/
def Shopostra.ruleMode (v : Nat) (x : Shopostra) : Shopostra × Option Abort :=
  if v ≤ 1 ∧ !x.fleet.actingApex then (x, some .state) else ruleX (ruleTempoMode v) x

/-- TEMPO_EPOCH at a Shopostra (R54). -/
def Shopostra.ruleEpoch (v : Nat) (x : Shopostra) : Shopostra × Option Abort :=
  if x.fleet.actingApex then ruleX (ruleTempoEpoch v) x else (x, some .state)

/-- TEMPO_MODE_WRITE (R55). -/
def execTempoModeWrite (p : Part) (r : Req) (v : Nat) (s : State) : Res :=
  onPart p (fun x => x.ruled r 0x1200 0 v (ruleV (ruleTempoMode v))) (fun x => x.ruled r 0x1200 0 v (Shopostra.ruleMode v)) s

/-- TEMPO_MODE_SWITCH (R57): the instant S arrives. -/
def execTempoModeSwitch (p : Part) (s : State) : Res := onC p Common.switchMode s

/-- TEMPO_EPOCH_WRITE (R54). -/
def execTempoEpochWrite (p : Part) (r : Req) (v : Nat) (s : State) : Res :=
  onPart p (fun x => x.ruled r 0x1201 0 v (ruleV (ruleTempoEpoch v))) (fun x => x.ruled r 0x1201 0 v (Shopostra.ruleEpoch v)) s

/-- TEMPO_INCR_WRITE (R59). -/
def execTempoIncrWrite (p : Part) (r : Req) (v : Nat) (s : State) : Res := writeBoth p r 0x1204 0 v (ruleTempoIncr v) s

/-- TEMPO_STEP (R61). -/
def execTempoStep (p : Part) (r : Req) (v : Nat) (s : State) : Res := writeBoth p r 0x1207 0 v (ruleTempoStep v) s

/-- TEMPO_CMP_ARM (R67, R68): entry n of 1 to 16. -/
def execTempoCmpArm (p : Part) (r : Req) (n v : Nat) (s : State) : Res := writeBoth p r 0x1210 n v (ruleTempoCmp n v) s

/-- An armed compare object's instant arrives (R67). -/
def Common.fireCompare (n : Nat) (c : Common kd) : Common kd :=
  if c.reg 0x1211 n = 1 then (c.arrive (c.timeOf (c.reg 0x1210 n))).setReg 0x1211 n 2 else c

/-- TEMPO_CMP_FIRE (R67). -/
def execTempoCmpFire (p : Part) (n : Nat) (s : State) : Res := onC p (Common.fireCompare n) s

/-- A lane, or the apex's own source, becomes valid (R72). -/
def Common.sourceValid (lane : Nat) (c : Common kd) : Common kd :=
  if c.sourceOrder = [] then c.selectApexSource true
  else if c.laneValid lane && decide (lane ∈ c.sourceOrder.flatten) then
    let c1 := if c.tempo.source = none then { c with tempo := { c.tempo with source := some lane } } else c.checkSource
    c1.gainSource
  else c

/-- TEMPO_SOURCE_VALID (R72). -/
def execTempoSourceValid (p : Part) (lane : Nat) (s : State) : Res := onC p (Common.sourceValid lane) s

/-- The source is lost when no time-source port is valid (R72, R88), or at the apex when the selected one is not
(R75). -/
def Common.sourceLost (c : Common kd) : Common kd :=
  if c.sourceOrder = [] then c.selectApexSource true
  else match c.bestLane with
    | some _ => c.checkSource
    | none => c.loseSource

/-- TEMPO_SOURCE_LOST (R72). -/
def execTempoSourceLost (p : Part) (s : State) : Res := onC p Common.sourceLost s

/-- TEMPO_LOCK (R72). -/
def execTempoLock (p : Part) (s : State) : Res := onC p Common.lock s

/-- TEMPO_UNLOCK (R72). -/
def execTempoUnlock (p : Part) (s : State) : Res := onC p Common.unlock s

/-- TEMPO_SOURCE_SEL_WRITE (R75). -/
def execTempoSourceSelWrite (r : Req) (v : Nat) (s : State) : Res :=
  onX (fun x => x.ruled r 0x120D 0 v (ruleX (ruleSourceSel v))) s

/-- Whether the part takes time from its own grandmaster connection (R81). -/
def Shopostra.ownTime (x : Shopostra) : Bool :=
  x.c.isApexRole && (x.fleet.actingApex || x.c.bestLane.isNone)

/-- A measurement against an apex source: the offset of the last 8 (1/256 ns), then the servo. -/
def Common.apexOffset (c : Common kd) (o : Int) : Common kd :=
  let e := c.exchange 1000
  let e' := { e with offsets := (o :: e.offsets).take 8 }
  let m := (c.setExchange 1000 e').meanOf e'.offsets
  ((m.1.setRegI 64 0x120A 0 m.2).autoStep).servo

/-- A PTP message on management port `port` (0 or 1), under the options of Table 2-8: anything else is discarded and
counted (R76). -/
def Shopostra.ptpRx (port : Nat) (m : PtpMsg) (x : Shopostra) : Shopostra :=
  let role := x.c.reg 0x1231 (port + 1)
  let slave := decide (role = 1 ∨ role = 3)
  match m with
  | .unsupported => x.onC (fun c => c.bump 0x1237 0)
  | .announce domain cls utc =>
    if domain ≠ x.c.reg 0x1230 0 ∨ !slave then x
    else
      let own := x.ownTime
      x.onC (fun c =>
        let c1 : Common .shopostra := { c with tempo := { c.tempo with gmClass := cls, ptpValid := true } }
        (c1.setRegI 16 0x1233 0 utc).selectApexSource own)
  | .sync domain offset seconds =>
    if domain ≠ x.c.reg 0x1230 0 ∨ !slave then x
    else
      let own := x.ownTime
      x.onC (fun c =>
        let c1 := ({ c with tempo := { c.tempo with ptpValid := true, tod := some seconds } }).selectApexSource own
        if own && (c1.reg 0x120E 0 = 1 || c1.reg 0x120E 0 = 2) then c1.apexOffset offset else c1)
  | .delayReq domain seq => if domain = x.c.reg 0x1230 0 && (role = 2 || role = 3) then
      x.onC (fun c => c.send (.ptp port 9 [domain, seq, c.now / ns])) else x
  | .lost =>
    let own := x.ownTime
    x.onC (fun c => ({ c with tempo := { c.tempo with ptpValid := false } }).selectApexSource own)

/-- PTP_MESSAGE_RX (R76). -/
def execPtpMessageRx (port : Nat) (m : PtpMsg) (s : State) : Res := onX (Shopostra.ptpRx port m) s

/-- The clockClass a master port announces (R77). -/
def Common.clockClass (c : Common kd) : Nat :=
  let h := match c.tempo.holdoverSince with | some t => (c.now - t) / msT 1 | none => 0
  match c.tempoState with
  | 2 => c.tempo.gmClass
  | 3 => if h ≤ c.reg 0x1236 0 then 135 else 165
  | _ => 248

/-- PTP_MESSAGE_TX (R77): kind 0 Sync with its one-step originTimestamp, kind 11 Announce. How a part that is LOCKED
below the apex learns the grandmaster's clockClass is not stated: there it is free. -/
def execPtpMessageTx (port kind : Nat) (s : State) : Res :=
  onX (fun x =>
    let role := x.c.reg 0x1231 (port + 1)
    if role = 2 ∨ role = 3 then
      x.onC (fun c0 =>
        let q := if c0.tempoState = 2 ∧ !c0.isApexRole then c0.drawFree 8 else (c0, c0.clockClass)
        q.1.send (.ptp port kind
          [c0.reg 0x1230 0, q.2, c0.now / secT 1, c0.now / ns % 1000000000, c0.reg 0x1232 0]))
    else x) s

/-- ESMC_RX (R79): the received quality level, as its SSM code; a level below the configured one is not used. -/
def execEsmcRx (ql : Nat) (s : State) : Res :=
  onX (fun x =>
    let own := x.ownTime
    x.onC (fun c =>
      (({ c with tempo := { c.tempo with synceValid := decide (ql ≤ c.tempo.minQl) } }).setReg 0x1234 0
        (ql % 16)).selectApexSource own)) s

/-- A 1PPS edge at the instant `t` (R80). -/
def Shopostra.ppsEdge (t : Ticks) (x : Shopostra) : Shopostra :=
  let own := x.ownTime
  x.onC (fun c0 =>
    let c := c0.arrive t
    let near := (c.now + secT 1 / 2) / secT 1 * secT 1
    let away : Int := ((c.now : Int) - (near : Int))
    if c.tempoState = 2 ∧ nsT 100 < away.natAbs then
      let n := c.tempo.ppsRejects + 1
      let c1 : Common .shopostra :=
        { c.bump 0x1238 0 with tempo := { c.tempo with ppsRejects := n, tod := c.tempo.tod.map (· + 1) } }
      if n = 3 then ({ c1 with tempo := { c1.tempo with ppsValid := false, ppsRejects := 0 } }).selectApexSource own
      else c1
    else
      let secs := c.tempo.tod.getD (near / secT 1)
      let c1 := ({ c with tempo := { c.tempo with ppsValid := true, ppsRejects := 0, tod := some (secs + 1) } })
      let c2 := c1.selectApexSource own
      if own && decide (c2.reg 0x120E 0 = 3) then
        c2.apexOffset (((c2.now / 2 ^ 24 : Nat) : Int) - ((secT secs / 2 ^ 24 : Nat) : Int))
      else c2)

/-- PPS_EDGE (R80). -/
def execPpsEdge (t : Nat) (s : State) : Res := onX (Shopostra.ppsEdge t) s

/-- TEMPO_TOD_WRITE (R80). -/
def execTempoTodWrite (r : Req) (v : Nat) (s : State) : Res :=
  onX (fun x => x.ruled r 0x120F 0 v (ruleX (ruleTod v))) s

/-- TIME_DOWN_SEND (R82). -/
def execTimeDownSend (p : Part) (lane : Nat) (s : State) : Res := onC p (fun c => c.sendDown lane) s

/-- A TIME frame arrives on a lane: it is counted, and captured where a cut wants it (R472). -/
def Common.timeArrives (c : Common kd) (lane : Nat) : Common kd :=
  (c.countTime (c.lanePort lane) (c.laneIn lane) false).capture (c.lanePort lane) (c.laneIn lane) timeFrame

/-- TIME_DOWN_RX (R82, R85). -/
def execTimeDownRx (p : Part) (lane kind mode state hops seq a b dwell : Nat) (s : State) : Res :=
  onC p (fun c => (c.timeArrives lane).receiveDown lane kind mode state hops seq a b dwell) s

/-- TIME_UP_RX (R85). -/
def execTimeUpRx (p : Part) (lane kind mode seq : Nat) (s : State) : Res :=
  onC p (fun c => (c.timeArrives lane).receiveUp lane kind mode seq) s

/-- Parent port A has stayed valid for 8,000 board cycles: the part returns to it (R87). -/
def Common.returnSource (c : Common kd) : Common kd :=
  match c.sourceOrder with
  | a :: _ =>
    match a.find? (fun l => c.laneValid l) with
    | some l => if 8000 ≤ c.tempo.returnRun then { c with tempo := { c.tempo with source := some l } } else c
    | none => c
  | [] => c

/-- TIME_SOURCE_RETURN (R87). -/
def execTimeSourceReturn (p : Part) (s : State) : Res := onC p Common.returnSource s

/-- The parents' offsets have differed for 8 board cycles (R89). -/
def Common.disagree (c : Common kd) : Common kd :=
  if 8 ≤ c.tempo.diffRun then
    ({ c with tempo := { c.tempo with diffRun := 0 } }).event 0x0210 1 (bytesLE 8 (c.reg 0x1222 0))
  else c

/-- TEMPO_DISAGREEMENT (R89). -/
def execTempoDisagreement (p : Part) (s : State) : Res := onC p Common.disagree s

/-- LINK_ASYM_WRITE (R86): link number `sub`. -/
def execLinkAsymWrite (p : Part) (r : Req) (sub v : Nat) (s : State) : Res :=
  writeBoth p r 0x1221 sub v (ruleLinkAsym sub v) s

end Sys2Proof.Machine
end

