-- ==== Sys2Proof/Machine/Links.lean ====
section
/-! DEFINITION. Ports, lanes and frames (06_links.md): credits, training, degradation, the reorder window, and the slot
scheduler with its gates and buckets (07_budgets_and_shaping.md). -/

namespace Sys2Proof.Machine

variable {kd : Part}

/-! ## Port states (Table 6-5) -/

/-- Moves a port to a state, at this instant. -/
def Common.toPortState (c : Common kd) (p st : Nat) : Common kd :=
  (c.setReg 0x1300 (p + 1) st).setPort p { c.port p with since := c.now }

/-- SX_CHILD_COUNT: the trained child ports. -/
def Common.countChildren (c : Common kd) : Common kd :=
  match c.kind with
  | .vangeg => c
  | .shopostra => c.setReg 0x1016 0 (((List.range 32).filter (fun i => c.portUp (childPort i))).length)

/-- Frames waiting in a port's egress queues. -/
def Common.queuedFrames (c : Common kd) (p : Nat) : Nat :=
  ((c.bud.queues.filter (fun q => decide (q.1.1 = p))).map (fun q => (q.2.map (fun m => m.frames - m.sent)).sum)).sum

/-- Marks the lanes of a port unusable. -/
def Common.darkLanes (c : Common kd) (p : Nat) : Common kd :=
  (c.lanesOf p).foldl (fun a l => a.setReg 0x1303 (a.laneSub p l) 0) c

/-- Takes a port out of service: its buffers are discarded and counted, nothing but training is sent (R249), and
requests outstanding through it are answered with the target-reset code (R455). -/
def Common.leaveService (c0 : Common kd) (p st : Nat) : Common kd :=
  let c := c0.captureFail p (fun _ => true)
  let q := c.port p
  let n := c.queuedFrames p + q.held.length
  let c1 := if n = 0 then c else c.addReg 0x1309 (p + 1) n
  let gone := (c1.bud.running.filter (fun u => decide (u.port = p ∧ u.link ≠ 0))).map (fun u => u.serial)
  let c2 : Common kd := { c1 with bud := { c1.bud with
    queues := c1.bud.queues.filter (fun x => decide (x.1.1 ≠ p)),
    lostUnits := c1.bud.lostUnits ++ gone,
    running := c1.bud.running.filter (fun u => decide (u.port ≠ p ∨ u.link = 0)) } }
  let c3 := (c2.setPort p { portReset with ident := q.ident }).darkLanes p
  ((c3.toPortState p st).abortRelayed (fun r => decide (r.out = p) && r.last) .targetReset).countChildren

/-- A port goes DOWN; a DISABLED port stays so. -/
def Common.portDown (c : Common kd) (p : Nat) : Common kd :=
  if c.portState p = 7 then c else c.leaveService p 0

/-- A port fails with a cause: 1 timeout, 2 lane swap, 3 IDENT refused. -/
def Common.portFail (c : Common kd) (p cause : Nat) : Common kd :=
  (c.leaveService p 6).setReg 0x1302 (p + 1) cause

/-- Whether a port may leave DOWN: enabled, and at a Shopostra lit by a laser input (R224) through an engine that is
not tripped (R610), with the reference clock of its quadrant running (R601). -/
def Common.mayTrain (c : Common kd) (p : Nat) : Bool :=
  decide (c.reg 0x1301 (p + 1) = 1) &&
  (match c.kind with
   | .vangeg => true
   | .shopostra =>
     (c.reg 0x1313 1 = 1 || c.reg 0x1313 1 = 2 || c.reg 0x1313 2 = 1 || c.reg 0x1313 2 = 2) &&
       decide (c.reg 0x1144 (p / 6 + 1) = 0) && decide (c.pin (.refclk (p / 24)) = 1))

/-- The exchange record of lane l of port p. -/
def Common.laneKey (c : Common kd) (p l : Nat) : Nat :=
  match c.kind with
  | .shopostra => 2 * p + l
  | .vangeg => if c.portCount = 2 then p else l

/-- The number, 0 or 1, of lane l of port p (Table 6-7): in redundant tray mode port 1 of a die is its lane 1 (R220). -/
def Common.laneNumber (c : Common kd) (p l : Nat) : Nat :=
  match c.kind with
  | .shopostra => l
  | .vangeg => if c.portCount = 2 then p else l

/-- Entry to TRAINING (Table 6-6). -/
def Common.startTraining (c : Common kd) (p : Nat) : Common kd :=
  if c.portState p = 0 ∧ c.mayTrain p then
    let c1 := (c.lanesOf p).foldl (fun (a : Common kd) l =>
      a.setExchange (a.laneKey p l) { a.exchange (a.laneKey p l) with trained := 0 }) c
    (c1.setPort p portReset).toPortState p 1
  else c

/-- PORT_ENABLE of a port (Table 6-5). -/
def rulePortEnable (p v : Nat) (c : Common kd) : Common kd × Option Abort :=
  if 1 < v then (c, some .value)
  else
    let c1 := c.setReg 0x1301 (p + 1) v
    if v = 0 then (if c.portState p = 7 then c1 else c1.leaveService p 7, none)
    else (if c.portState p = 7 then c1.toPortState p 0 else c1, none)

/-- PORT_CREDITS of a queue (R240): the eight entries together within the ingress buffer. A port takes the entries at its
next training. -/
def rulePortCredits (q v : Nat) (c : Common kd) : Common kd × Option Abort :=
  let total := ((List.range 8).map (fun i => if i + 1 = q then v else c.reg 0x130F (i + 1))).sum
  if (match c.kind with | .vangeg => 512 | .shopostra => 2048) < total then (c, some .value)
  else (c.setReg 0x130F q v, none)

/-- The IDENT a part sends on lane l of port p (Table 6-7). -/
def Common.identFields (c : Common kd) (p l : Nat) : List Nat :=
  let tray := match c.kind, childIndex p with
    | .shopostra, some i => if c.reg 0x1012 0 = 0 then [c.phys / 256 % 2 ^ 20, i] else [0xFFFFFF, 0xFF]
    | _, _ => [0xFFFFFF, 0xFF]
  (match c.kind with
   | .vangeg => [0, 0xFF, 4 * c.mode]
   | .shopostra => [1, c.reg 0x1012 0, c.reg 0x1013 0 + 2 * c.reg 0x1014 0 + 4 * c.mode]) ++
  [c.laneNumber p l, c.phys, c.logical] ++ tray ++ (List.range 8).map (fun q => lookupD 0 (c.port p).granted q)

/-- Sends IDENT on every lane of the port that is locked. -/
def Common.sendIdent (c : Common kd) (p : Nat) : Common kd :=
  (c.lanesOf p).foldl (fun a l =>
    if ((a.port p).lane l).locked then a.send (.record (.lane p l) 0xFFFF (a.identFields p l)) else a) c

/-- Word lock and FEC alignment on a lane (R243, R244): TRAINING goes to IDENT; a removed lane is being retrained
(R248). -/
def Common.trainingLock (p l : Nat) (c : Common kd) : Common kd :=
  let q := c.port p
  let c1 := c.setPort p (q.setLane l { q.lane l with locked := true })
  if c.portState p = 1 then
    ((c1.setPort p { c1.port p with granted := (List.range 8).map (fun k => (k, c.reg 0x130F (k + 1))) }).toPortState p 2).sendIdent p
  else if c.portState p = 4 ∨ c.portState p = 5 then
    c1.setPort p (q.setLane l { q.lane l with locked := true, retraining := true, cleanRun := 0 })
  else c1

/-- Whether a partner's IDENT fits the port's use in Table 1-2 (R246). -/
def Common.identFits (c : Common kd) (p : Nat) (i : Ident) : Bool :=
  match c.kind with
  | .vangeg => decide (i.kind = 1)
  | .shopostra =>
    let role := c.reg 0x1012 0
    if (childIndex p).isSome then
      (if role = 0 then decide (i.kind = 0) else decide (i.kind = 1 ∧ i.role + 1 = role))
    else if isParentPort p then decide (i.kind = 1 ∧ i.role = role + 1)
    else if isPartnerPort p then decide (i.kind = 1 ∧ i.role = role)
    else decide (i.kind = 1)

/-- A Vangeg in redundant tray mode has two ports of one lane (R220, R252). -/
def Common.setPortCount (c : Common kd) (n : Nat) : Common kd :=
  [0x1300, 0x1301, 0x1302, 0x1309, 0x130A, 0x130B, 0x130C, 0x130D, 0x130E, 0x1312, 0x7002, 0x7003].foldl
    (fun a i => a.setReg i 0 n) c

/-- A die takes POSITION and SLOT from its tray's IDENT (R36); a difference between the lanes of redundant tray mode
keeps lane 0's and is recorded (R37). -/
def Common.learnPosition (c : Common kd) (l : Nat) (i : Ident) : Common kd :=
  match c.kind with
  | .shopostra => c
  | .vangeg =>
    if i.tray = 0xFFFFFF then c
    else
      let tag := c.phys / 32 % 8
      let mine := c.phys / 256 % 2 ^ 20
      if l = 1 ∧ mine ≠ 0xFFFFF ∧ mine ≠ i.tray % 2 ^ 20 then
        c.event 0x0102 1 (bytesLE 4 mine ++ bytesLE 4 i.tray)
      else c.setReg 0x1010 0 (i.tray % 2 ^ 20 * 256 + tag * 32 + i.slot % 32)

/-- The binding set of a port (R623). -/
def Common.bindingSet (c : Common kd) (p : Nat) : List Nat := lookupD [] c.bindings p

/-- Binds a logical address to a port. -/
def Common.bind_ (c : Common kd) (p l : Nat) : Common kd :=
  if l = 0xFFFFFFFF ∨ l ∈ c.bindingSet p then c
  else { c with bindings := putKey c.bindings p (c.bindingSet p ++ [l]) }

/-- Unbinds a logical address from a port. -/
def Common.unbind (c : Common kd) (p l : Nat) : Common kd :=
  { c with bindings := putKey c.bindings p ((c.bindingSet p).filter (fun x => decide (x ≠ l))) }

/-- The fields of an IDENT that are compared later (Table 6-8, 0x0613 and 0x0617). -/
def identKey (i : Ident) : List Nat := [i.phys, i.kind, i.role, i.tray, i.slot, i.flags, i.logical]

/-- A die learns that its tray is redundant: lane 0 and lane 1 are ports of their own, each where its lane stands in
training (R220). -/
def Common.splitPorts (c : Common kd) : Common kd :=
  let q := c.port 0
  let one := fun (k : Nat) => ({ portReset with lanes := [q.lane k, laneReset], granted := q.granted } : Port)
  let st := fun (k : Nat) => if (q.lane k).locked then 2 else 1
  ((((c.setPortCount 2).setPort 0 (one 0)).setPort 1 (one 1)).toPortState 0 (st 0)).toPortState 1 (st 1)

/-- A die learns that its tray is not redundant: both lanes are of one port, which stands in IDENT. -/
def Common.joinPorts (c : Common kd) : Common kd :=
  let a := (c.port 0).lane 0
  let b := (c.port 1).lane 0
  let g := if (c.port 0).granted = [] then (c.port 1).granted else (c.port 0).granted
  let c1 := (c.leaveService 0 0).leaveService 1 0
  ((c1.setPortCount 1).setPort 0 { portReset with lanes := [a, b], granted := g }).toPortState 0 2

/-- What a die learns of its ports from an IDENT on port p (R220): its ports after, and the port and lane on which the
IDENT then stands. -/
def Common.learnPorts (c : Common kd) (p l : Nat) (i : Ident) : Common kd × Nat × Nat :=
  match c.kind with
  | .shopostra => (c, p, l)
  | .vangeg =>
    if bitOf i.flags 1 = decide (c.portCount = 2) then (c, p, l)
    else if bitOf i.flags 1 then (c.splitPorts, l, 0)
    else (c.joinPorts, 0, p)

/-- A valid IDENT in state IDENT is taken: credits, partner, position; the port goes to TIME. -/
def Common.takeIdent (c : Common kd) (p l : Nat) (i : Ident) : Common kd :=
  let q := c.port p
  let c1 := (c.setPort p { q with ident := some (identKey i),
                                  offered := (List.range 8).map (fun k => (k, nth 0 i.credits k)) })
  let c2 := ((c1.setReg 0x1312 (p + 1) i.phys).bind_ p i.logical).learnPosition (c1.laneNumber p l) i
  let c3 := if c2.kind = .shopostra ∧ isPartnerPort p ∧ c2.reg 0x1012 0 = 0 ∧
      (bitOf i.flags 1) ≠ decide (c2.reg 0x1014 0 = 1) then c2.event 0x0101 2 [b2n (bitOf i.flags 1)] else c2
  c3.toPortState p 3

/-- An IDENT copy arrives on lane l (R245, R246). -/
def Common.identRx (p l : Nat) (i : Ident) (c : Common kd) : Common kd :=
  if i.lane ≠ c.laneNumber p l ∧ (c.portState p = 2 ∨ c.portState p = 3 ∨ c.portUp p) then c.portFail p 2
  else if c.portState p = 2 then
    if !c.identFits p i then c.portFail p 3
    else
      let r := c.learnPorts p l i
      r.1.takeIdent r.2.1 r.2.2 i
  else if c.portUp p then
    match (c.port p).ident with
    | none => c
    | some k =>
      if [i.phys, i.kind, i.role] ≠ k.take 3 then (c.violation p l 0x0613).portDown p
      else if [i.tray, i.slot] ≠ (k.drop 3).take 2 then c.violation p l 0x0617
      else c.bind_ p i.logical
  else c

/-- 8 TIME exchanges have completed on each trained lane: at the next board-cycle start the port is ACTIVE or DEGRADED
(R243). -/
def Common.timeComplete (p : Nat) (c : Common kd) : Common kd :=
  let q := c.port p
  let trained := (c.lanesOf p).filter (fun l => (q.lane l).locked)
  if c.portState p = 3 ∧ trained ≠ [] ∧ trained.all (fun l => decide (8 ≤ (c.exchange (c.laneKey p l)).trained)) then
    let c1 := c.arrive (cycleStart c.now + (if isCycleStart c.now then 0 else cycleT))
    let q1 := trained.foldl (fun (a : Port) l =>
      a.setLane l { a.lane l with mine := true, partners := true, next := true, retraining := false }) (c1.port p)
    let c2 := trained.foldl (fun a l => a.setReg 0x1303 (a.laneSub p l) 1) (c1.setPort p q1)
    (((c2.baseline 34).bump 0x130E (p + 1)).toPortState p (if trained.length = (c.lanesOf p).length then 4 else 5)).countChildren
  else c

/-- 250 ms without progress in TRAINING, IDENT or TIME (R243). -/
def Common.trainingTimeout (p : Nat) (c : Common kd) : Common kd :=
  if c.portState p = 1 ∨ c.portState p = 2 ∨ c.portState p = 3 then
    (c.arrive ((c.port p).since + msT 250)).portFail p 1
  else c

/-- One second after FAILED the port is DOWN. -/
def Common.failedExpiry (p : Nat) (c : Common kd) : Common kd :=
  if c.portState p = 6 then (c.arrive ((c.port p).since + secT 1)).toPortState p 0 else c

/-! ## Lane sets (R247, R248) -/

/-- Whether the counts of the present cycle meet a condition of R247. -/
def Common.laneBad (c : Common kd) (x : Lane) : Bool :=
  !x.locked || decide (c.reg 0x1308 0 ≤ x.uncorr) || decide (8 ≤ x.serRun)

/-- Removes a lane: reported unusable, recorded, counted; the port is DEGRADED, or DOWN with no lane left. -/
def Common.removeLane (c : Common kd) (p l : Nat) : Common kd :=
  let q := c.port p
  let c1 := ((c.setPort p (q.setLane l { q.lane l with mine := false, next := false, retraining := true, cleanRun := 0 })).event
    0x0620 1 [p, l, 0]).baseline 33
  let left := (c1.lanesOf p).filter (fun k => decide (k ≠ l) && ((c1.port p).lane k).mine)
  if left = [] then c1.portDown p else c1.toPortState p 5

/-- The FEC reports of a lane in this cycle: lost lock, uncorrectable codewords and errored symbols; the counters
count, and a lane that meets a condition of R247 is removed. -/
def Common.laneDegrade (p l : Nat) (lost : Bool) (corr uncorr ser : Nat) (c : Common kd) : Common kd :=
  let s := c.laneSub p l
  let c0 := match c.kind with
    | .vangeg => (c.addReg 0x2C00 (29 + s) corr).addReg 0x2C00 (31 + s) uncorr
    | .shopostra => c
  let c1 := ((c0.addReg 0x1304 s corr).addReg 0x1305 s uncorr).addReg 0x1306 s ser
  let q := c1.port p
  let x := q.lane l
  let tooMany := decide (c1.reg 0x1307 0 < x.ser + ser)
  let x1 := { x with locked := x.locked && !lost, uncorr := x.uncorr + uncorr, ser := x.ser + ser,
                     serRun := if tooMany ∧ ¬ c1.reg 0x1307 0 < x.ser then x.serRun + 1 else x.serRun }
  let c2 := c1.setPort p (q.setLane l x1)
  if c2.portUp p ∧ x.mine ∧ c2.laneBad x1 then c2.removeLane p l else c2

/-- A retrained lane clean for 800 board cycles is reported usable; it rejoins at the start that follows (R248). -/
def Common.laneRestore (p l : Nat) (c : Common kd) : Common kd :=
  let q := c.port p
  let x := q.lane l
  if c.portUp p ∧ x.retraining ∧ x.locked ∧ 800 ≤ x.cleanRun then
    (c.setPort p (q.setLane l { x with mine := true, next := x.partners, retraining := false })).event 0x0620 1 [p, l, 1]
  else c

/-- A LANE word: what the partner receives; the agreed set of the next cycle (R247). -/
def Common.laneWord (p : Nat) (u0 u1 : Bool) (c : Common kd) : Common kd :=
  let q := c.port p
  let f := fun (x : Lane) (u : Bool) => { x with partners := u, next := x.mine && u, wordSeen := true }
  c.setPort p { (q.setLane 0 (f (q.lane 0) u0)).setLane 1 (f (q.lane 1) u1) with missing := 0 }

/-- 8 guard windows without a valid LANE word. -/
def Common.laneWordMissing (p : Nat) (c : Common kd) : Common kd :=
  if c.portUp p ∧ 8 ≤ (c.port p).missing then c.portDown p else c

/-- One lane at a board-cycle start: the agreed set takes effect, the per-cycle counts restart, clean cycles of a
retrained lane count. -/
def Common.laneCycle (c : Common kd) (p l : Nat) : Common kd :=
  let q := c.port p
  let x := q.lane l
  let bad := c.laneBad x
  let calm := decide (x.ser ≤ c.reg 0x1307 0)
  let x1 := { x with uncorr := 0, ser := 0, flagWords := 0, wordSeen := false,
                     serRun := if calm then 0 else x.serRun,
                     cleanRun := if x.retraining && x.locked && !bad then x.cleanRun + 1 else 0 }
  (c.setPort p (q.setLane l x1)).setReg 0x1303 (c.laneSub p l) (b2n x.next)

/-- The state of a port after its agreed lane set took effect (Table 6-5); `before` is the set until then. A lane that
only the partner removed is a removal too. -/
def Common.laneSet (c : Common kd) (p : Nat) (before : List Nat) : Common kd :=
  let after := (c.lanesOf p).filter (fun l => c.laneUsable p l)
  let gone := before.filter (fun l => decide (l ∉ after) && ((c.port p).lane l).mine)
  let c1 := gone.foldl (fun (a : Common kd) l => (a.event 0x0620 1 [p, l, 0]).baseline 33) c
  if after = [] then c1.portDown p
  else
    let st := if after.length = (c.lanesOf p).length then 4 else 5
    if c1.portState p = st then c1 else c1.toPortState p st

/-- A port at a board-cycle start: a port that may train leaves DOWN; IDENT is repeated; a port in service takes its
agreed lane set. -/
def Common.portCycle (c : Common kd) (p : Nat) : Common kd :=
  if c.portState p = 0 then c.startTraining p
  else if c.portState p = 2 then c.sendIdent p
  else if c.portUp p then
    let q := c.port p
    let seen := q.lanes.any (fun x => x.wordSeen)
    let c1 := c.setPort p { q with logged := [], noCredit := 0, heartbeats := 0, identCycles := q.identCycles + 1,
                                   missing := if seen then 0 else q.missing + 1 }
    ((c1.lanesOf p).foldl (fun a l => a.laneCycle p l) c1).laneSet p ((c1.lanesOf p).filter (fun l => c1.laneUsable p l))
  else c

/-! ## Credits (R240 to R242) -/

/-- Credits held for a queue: offered + freed - sent. -/
def Port.credits (q : Port) (k : Nat) : Nat := lookupD 0 q.offered k + lookupD 0 q.freed k - lookupD 0 q.spent k

/-- Credits the partner holds for a queue, as this end knows: granted + freed - received. -/
def Port.outstanding (q : Port) (k : Nat) : Int :=
  ((lookupD 0 q.granted k + lookupD 0 q.mine k : Nat) : Int) - (((q.lanes.map (fun x => lookupD 0 x.received k)).sum : Nat) : Int)

/-- The queue whose freed count goes back in the next frame's CREDIT field, taking the queues in rotation (R241). -/
def Port.creditField (q : Port) : Option (Nat × Nat) :=
  (((List.range 8).map (fun i => (q.creditTurn + i) % 8)).find? (fun k =>
    decide (lookupD 0 q.mine k ≠ lookupD 0 q.returned k))).map (fun k => (k, lookupD 0 q.mine k % 2 ^ 16))

/-- Records what a CREDIT field returned. -/
def Port.creditSent (q : Port) : Port :=
  match q.creditField with
  | none => q
  | some (k, _) => { q with returned := putKey q.returned k (lookupD 0 q.mine k), creditTurn := (k + 1) % 8 }

/-- A slot without a frame returns every change in CREDIT words; the rest is IDLE words (R226, R241). -/
def Common.idleSlot (c : Common kd) (p l : Nat) : Common kd :=
  let q := c.port p
  let changed := (List.range 8).filter (fun k => decide (lookupD 0 q.mine k ≠ lookupD 0 q.returned k))
  let c1 := changed.foldl (fun (a : Common kd) k =>
    a.send (.word (.lane p l) 0x1E (k * 2 ^ 48 + lookupD 0 q.mine k % 2 ^ 32))) c
  (c1.setPort p { c1.port p with returned := q.mine }).send (.word (.lane p l) 0x00 0)

/-- A cumulative freed count arrives for a queue: the later count stands; one beyond the frames sent is capped
(0x0614). -/
def Common.creditWord (p k cum : Nat) (c : Common kd) : Common kd :=
  let q := c.port p
  let old := lookupD 0 q.freed k
  let d := ofTwos 32 (cum % 2 ^ 32 + 2 ^ 32 - old % 2 ^ 32)
  let new := ((old : Int) + (if 0 < d then d else 0)).toNat
  if lookupD 0 q.spent k < new then
    (c.setPort p { q with freed := putKey q.freed k (lookupD 0 q.spent k) }).violation p 0 0x0614
  else c.setPort p { q with freed := putKey q.freed k new }

/-- A CREDIT_SYNC word: frames of the queue destroyed on the lane are freed (R242); a figure below the last is ignored
(0x0615). -/
def Common.creditSync (p l k cum : Nat) (c : Common kd) : Common kd :=
  let q := c.port p
  let x := q.lane l
  let d := ofTwos 32 (cum % 2 ^ 32 + 2 ^ 32 - lookupD 0 x.syncLast k % 2 ^ 32)
  if d < 0 then c.violation p l 0x0615
  else
    let lost := cum - lookupD 0 x.received k
    let x1 := { x with syncLast := putKey x.syncLast k cum,
                       received := putKey x.received k (max cum (lookupD 0 x.received k)) }
    c.setPort p { q.setLane l x1 with mine := putKey q.mine k (lookupD 0 q.mine k + lost) }

/-- The guard window of a lane: a CREDIT_SYNC word per queue, one LANE word and the CYCLE word (R226). -/
def Common.guardWindow (p l : Nat) (c : Common kd) : Common kd :=
  let q := c.port p
  let x := q.lane l
  let d := Dest.lane p l
  let c1 := (List.range 8).foldl (fun a k => a.send (.word d 0x2D (k * 2 ^ 48 + lookupD 0 x.sent k % 2 ^ 32))) c
  (c1.send (.word d 0x33 (b2n (q.lane 0).mine + 2 * b2n (q.lane 1).mine))).send
    (.word d 0x87 ((cycleNo c.now + 1) % 8000))

/-! ## Reception: HCHK, LEN, credits and the reorder window (R231, R235, R240) -/

/-- Frees one frame of a queue: its credit goes back to the partner. -/
def Common.freeFrame (c : Common kd) (p k : Nat) : Common kd :=
  let q := c.port p
  c.setPort p { q with mine := putKey q.mine k (lookupD 0 q.mine k + 1) }

/-- Frames held for a queue with the next sequence numbers, in order, and the sequence number then expected. -/
def drainHeld (k : Nat) : Nat → Nat → List (Frame × Ticks) → List Frame × Nat
  | 0, n, _ => ([], n)
  | fuel + 1, n, held =>
    match held.find? (fun h => decide (h.1.queue = k ∧ h.1.lseq = n)) with
    | none => ([], n)
    | some h =>
      let q := drainHeld k fuel ((n + 1) % 256) held
      (h.1 :: q.1, q.2)

/-- All held frames of a queue in sequence order, from `n` on. -/
def heldAhead (k n : Nat) (held : List (Frame × Ticks)) : List Frame :=
  ((List.range 256).filterMap (fun d =>
    (held.find? (fun h => decide (h.1.queue = k ∧ h.1.lseq = (n + d) % 256))).map (fun h => h.1)))

/-- A CONTROL or DATA frame that passed its link checks enters the reorder window: the frames then deliverable, in
order. -/
def Common.window (c : Common kd) (p : Nat) (f : Frame) : Common kd × List Frame :=
  let q := c.port p
  let n := lookupD 0 q.lseq f.queue
  let d := (f.lseq + 256 - n) % 256
  if 192 ≤ d then ((c.freeFrame p f.queue).bump 0x1309 (p + 1), [])
  else if d < 64 then
    let held := q.held ++ [(f, c.now)]
    let r := drainHeld f.queue 256 n held
    let held' := held.filter (fun h => !(r.1.any (fun g => decide (g.queue = h.1.queue ∧ g.lseq = h.1.lseq))))
    (c.setPort p { q with held := held', lseq := putKey q.lseq f.queue r.2 }, r.1)
  else
    let ready := heldAhead f.queue n q.held
    let gap := d - ready.length
    let held' := q.held.filter (fun h => decide (h.1.queue ≠ f.queue))
    ((c.setPort p { q with held := held', lseq := putKey q.lseq f.queue ((f.lseq + 1) % 256) }).addReg 0x130A (p + 1) gap,
     ready ++ [f])

/-- The link checks of a frame on lane l (R235, Table 6-8): the frames to deliver. -/
def Common.linkReceive (c : Common kd) (p l : Nat) (f : Frame) : Common kd × List Frame :=
  if !c.portUp p then (c, [])
  else if !c.laneUsable p l then (c.violation p l 0x0616, [])
  else if !f.fecOk then (c.bump 0x1309 (p + 1), [])
  else if !f.hchkOk then ((c.violation p l 0x0603).bump 0x1309 (p + 1), [])
  else
    let q := c.port p
    let x := q.lane l
    let out := q.outstanding f.queue
    let c1 := c.setPort p (q.setLane l { x with received := putKey x.received f.queue (lookupD 0 x.received f.queue + 1) })
    let c2 := match f.credit with
      | some (k, cum) => c1.creditWord p k (lookupD 0 q.freed k + (cum + 65536 - lookupD 0 q.freed k % 65536) % 65536)
      | none => c1
    if 2 < f.cls then ((c2.violation p l 0x0604).freeFrame p f.queue, [])
    else if f.len = 0 ∨ 240 < f.len ∨ (f.cls = 0 ∧ 236 < f.len) then ((c2.violation p l 0x0605).freeFrame p f.queue, [])
    else
      if out ≤ 0 then
        let c3 := (c2.violation p l 0x0606).freeFrame p f.queue
        let q3 := c3.port p
        let c4 := c3.setPort p { q3 with noCredit := q3.noCredit + 1 }
        if 16 < q3.noCredit + 1 then (c4.portDown p, []) else (c4, [])
      else c2.window p f

/-- 1 µs has passed since a later frame of the queue arrived: the missing ones are counted and skipped. -/
def Common.gapTimeout (c : Common kd) (p k : Nat) : Common kd × List Frame :=
  let q := c.port p
  let n := lookupD 0 q.lseq k
  match heldAhead k n q.held with
  | [] => (c, [])
  | f :: _ =>
    let gap := (f.lseq + 256 - n) % 256
    let r := drainHeld k 256 f.lseq q.held
    let held' := q.held.filter (fun h => !(r.1.any (fun g => decide (g.queue = h.1.queue ∧ g.lseq = h.1.lseq))))
    ((c.setPort p { q with held := held', lseq := putKey q.lseq k r.2 }).addReg 0x130A (p + 1) gap, r.1)

/-- A message discarded whole (R230): counted, and nothing more of it is taken until the next FIRST frame. The record
left behind expects no fragment. -/
def Common.discardMessage (c : Common kd) (p k : Nat) : Common kd :=
  let none_ : Partial := { source := 0, tag := 0, next := 0, payload := [] }
  ((c.setPort p { c.port p with partials := putKey (c.port p).partials k none_ }).violation p 0 0x0612).bump 0x130B (p + 1)

/-- Message assembly (R230): a frame of a message; answers the whole payload with the message's first frame when the
last fragment has come in order. -/
def Common.assemble (c : Common kd) (p : Nat) (f : Frame) (bytes : List Nat) : Common kd × Option (List Nat) :=
  let open_ := ((c.port p).partials.find? (fun m => decide (m.1 = f.queue))).map (fun m => m.2)
  if f.first then
    let c1 := match open_ with
      | some m => if m.next = 0 then c else c.discardMessage p f.queue
      | none => c
    if f.frag ≠ 0 then (c1.discardMessage p f.queue, none)
    else if f.last then (c1.setPort p { c1.port p with partials := dropKey (c1.port p).partials f.queue }, some bytes)
    else
      let fresh : Partial := { source := f.source, tag := f.stream, next := 1, payload := bytes }
      (c1.setPort p { c1.port p with partials := putKey (c1.port p).partials f.queue fresh }, none)
  else
    match open_ with
    | none => (c.discardMessage p f.queue, none)
    | some m =>
      if m.next = 0 then (c, none)
      else if f.frag ≠ m.next ∨ f.source ≠ m.source ∨ f.stream ≠ m.tag then (c.discardMessage p f.queue, none)
      else if f.last then
        (c.setPort p { c.port p with partials := dropKey (c.port p).partials f.queue }, some (m.payload ++ bytes))
      else
        let more : Partial := { m with next := m.next + 1, payload := m.payload ++ bytes }
        (c.setPort p { c.port p with partials := putKey (c.port p).partials f.queue more }, none)

/-! ## Gates, buckets and the slot scheduler (R265 to R275) -/

/-- The operational list of a port. -/
def Common.operList (c : Common kd) (p : Nat) : List Nat :=
  (List.range (c.reg (0x14C0 + p) 4)).map (fun i => c.reg (0x1490 + p) (i + 1))

/-- The entry of a list that covers a slot. -/
def entryAt : List Nat → Nat → Nat
  | [], _ => 0
  | e :: l, s => if s < e % 2 ^ 14 then e else entryAt l (s - e % 2 ^ 14)

/-- Slot of DOWN frame k (R268). -/
def downSlot (k : Nat) : Nat := k * 15625 * 100 / 1024

/-- RATE and BURST of queue q of port p, as in effect in this cycle (R274). -/
def Common.shape (c : Common kd) (p q col : Nat) : Nat :=
  lookupD (c.reg (0x1430 + p) (8 * q + col)) c.bud.shapeOld (key (0x1430 + p) (8 * q + col))

/-- The bucket of a queue brought to now (R273), in millibits. -/
def Common.bucket (c : Common kd) (p q : Nat) : Int :=
  let b := lookupD ((0 : Int), 0) c.bud.buckets (p, q)
  min (b.1 + ((c.shape p q 1 * ((c.now - b.2) / ns) : Nat) : Int)) ((8000 * c.shape p q 2 : Nat) : Int)

/-- The message a queue sends next: the one begun, else a wholly granted one, else the oldest (R266). -/
def nextMessage (l : List QueueMsg) : Option QueueMsg :=
  match l.find? (fun m => decide (0 < m.sent)) with
  | some m => some m
  | none => match l.find? (fun m => m.granted) with
    | some m => some m
    | none => l.head?

/-- The end of a link that a port is under R82: 0 upper, 1 lower, 2 not yet known. The parent is the upper end, and over
the partner ports the primary (R81). DESIGN CHOICE: of two peers, the one with the lesser physical address. -/
def Common.linkEnd (c : Common kd) (p : Nat) : Nat :=
  match c.kind with
  | .vangeg => 1
  | .shopostra =>
    if (childIndex p).isSome then 0
    else if isParentPort p then 1
    else if isPartnerPort p then c.reg 0x1013 0 % 2
    else match (c.port p).ident with
      | none => 2
      | some k => if c.phys < nth 0 k 0 then 0 else 1

/-- DEPTH_MAX keeps the largest number of ready frames seen at any slot (R275). -/
def Common.depthMax (c : Common kd) (p : Nat) : Common kd :=
  (List.range 8).foldl (fun (a : Common kd) q =>
    let n := ((lookupD [] a.bud.queues (p, q)).map (fun m => m.frames - m.sent)).sum
    if a.reg (0x1430 + p) (8 * q + 7) < n then a.setReg (0x1430 + p) (8 * q + 7) n else a) c

/-- Whether queue q of port p is eligible in a slot of lane l whose entry is e (R269). -/
def Common.eligible (c : Common kd) (p l q e : Nat) : Bool :=
  match nextMessage (lookupD [] c.bud.queues (p, q)) with
  | none => false
  | some m =>
    bitOf e (16 + q) && decide (0 < (c.port p).credits q) &&
      (decide (c.shape p q 1 = 0xFFFFFFFF) || (decide (0 ≤ c.bucket p q) && !(decide (q < 3) && decide (c.shape p q 1 = 0)))) &&
      (!m.isData || decide (lookupD 0 c.bud.dataSent (p, l) < c.reg 0x1404 0))

/-- What the log of sent words shows of a frame's header: LSEQ, QUEUE, and CQ, CV and CREDIT_CUM where a count is
returned (Table 6-3). -/
def frameWord (q lseq : Nat) (credit : Option (Nat × Nat)) : Nat :=
  lseq + q * 2 ^ 8 + (match credit with | some (k, cum) => (k + 8) * 2 ^ 16 + cum * 2 ^ 24 | none => 0)

/-- Sends the next frame of a queue on a lane: credit, bucket, LSEQ, DATA cap and delay are accounted. -/
def Common.sendFrame (c : Common kd) (p l q : Nat) : Common kd :=
  let ms := lookupD [] c.bud.queues (p, q)
  match nextMessage ms with
  | none => c
  | some m =>
    let m1 := { m with sent := m.sent + 1 }
    let done := decide (m.frames ≤ m1.sent)
    let ms1 := if done then ms.filter (fun x => decide (x.serial ≠ m.serial))
      else ms.map (fun x => if x.serial = m.serial then m1 else x)
    let pt := c.port p
    let x := pt.lane l
    let lseq := lookupD 0 pt.lseqOut q
    let pt1 := { pt.creditSent.setLane l { x with sent := putKey x.sent q (lookupD 0 x.sent q + 1) } with
      spent := putKey pt.spent q (lookupD 0 pt.spent q + 1), lseqOut := putKey pt.lseqOut q ((lseq + 1) % 256) }
    let delay := (c.now - m.since) / ns % 2 ^ 32
    let c1 := (c.setPort p pt1).setReg (0x1430 + p) (8 * q + 8) (max delay (c.reg (0x1430 + p) (8 * q + 8)))
    let c2 : Common kd := { c1 with bud := { c1.bud with
      queues := putKey c1.bud.queues (p, q) ms1,
      running := if done then c1.bud.running.filter (fun u => decide (u.serial ≠ m.serial)) else c1.bud.running,
      buckets := putKey c1.bud.buckets (p, q) (c.bucket p q - 2048000, c.now),
      consumed := (c1.consume m.cls 0 1).bud.consumed,
      dataSent := if m.isData then putKey c1.bud.dataSent (p, l) (lookupD 0 c1.bud.dataSent (p, l) + 1)
        else c1.bud.dataSent } }
    let c3 := if m.isData then c2.baseline 35 else c2
    (c3.setRegI 64 (0x1430 + p) (8 * q + 5) ((c.bucket p q - 2048000).tdiv 1000)).send
      (.word (.lane p l) 0x100 (frameWord q lseq pt.creditField))

/-- The weighted queues in the order that starts after the last served (R272). -/
def Common.dwrrOrder (c : Common kd) (p : Nat) : List Nat :=
  let last := lookupD 7 c.bud.lastServed p
  (List.range 5).map (fun i => 3 + (last - 3 + 1 + i) % 5)

/-- Deficit of a queue: 0 when it has no frame ready. -/
def Common.deficit (c : Common kd) (p q : Nat) : Nat :=
  if lookupD [] c.bud.queues (p, q) = [] then 0 else lookupD 0 c.bud.deficits (p, q)

/-- A new round adds WEIGHT to each weighted queue with a frame ready, capped at WEIGHT. -/
def Common.newRound (c : Common kd) (p : Nat) : Common kd :=
  [3, 4, 5, 6, 7].foldl (fun a q =>
    if lookupD [] a.bud.queues (p, q) = [] then { a with bud := { a.bud with deficits := putKey a.bud.deficits (p, q) 0 } }
    else
      let w := a.reg (0x1430 + p) (8 * q + 4)
      { a with bud := { a.bud with deficits := putKey a.bud.deficits (p, q) (min w (a.deficit p q + w)) } }) c

/-- Serves a weighted queue. -/
def Common.serveWeighted (c : Common kd) (p l q : Nat) : Common kd :=
  let d := putKey c.bud.deficits (p, q) (c.deficit p q - 1)
  ({ c with bud := { c.bud with deficits := d, lastServed := putKey c.bud.lastServed p q } } : Common _).sendFrame p l q

/-- One slot of one lane (R269): a due TIME frame, a strict queue, a weighted queue, or IDLE words. The slot's start
arrives. -/
def Common.slot (p l s : Nat) (c0 : Common kd) : Common kd :=
  let c := (c0.arrive (cycleStart c0.now + s * 1024 * ns / 100)).depthMax p
  let e := entryAt (c.operList p) s
  let lane := c.laneKey p l
  let due := decide (c.linkEnd p = 0) && (List.range 8).any (fun k => decide (downSlot k = s))
  if !(c.portUp p && c.laneUsable p l) then c
  else if due && bitOf e 24 then c.sendDown lane
  else match [0, 1, 2].find? (fun q => c.eligible p l q e) with
    | some q => c.sendFrame p l q
    | none =>
      let able := fun (a : Common _) => (a.dwrrOrder p).find? (fun q => a.eligible p l q e && decide (0 < a.deficit p q))
      match able c with
      | some q => c.serveWeighted p l q
      | none =>
        if (c.dwrrOrder p).any (fun q => c.eligible p l q e) then
          let c1 := c.newRound p
          match able c1 with
          | some q => c1.serveWeighted p l q
          | none => c1
        else c.idleSlot p l

/-! ## Gate lists (R267, R270, R271) and shapes (R274) -/

/-- Whether a list is well formed: 1 to 64 entries of 1 to 12,200 slots that sum to 12,200 (R267). -/
def listFits (l : List Nat) : Bool :=
  decide (1 ≤ l.length ∧ l.length ≤ 64) && l.all (fun e => decide (1 ≤ e % 2 ^ 14 ∧ e % 2 ^ 14 ≤ 12200)) &&
    decide ((l.map (fun e => e % 2 ^ 14)).sum = 12200)

/-- Whether an entry is exclusive for queue q: it opens q, no queue served before q, and for a weighted q no other
weighted queue (R270). -/
def exclusiveFor (q e : Nat) : Bool :=
  bitOf e (16 + q) && (List.range 8).all (fun k =>
    decide (k = q) || !bitOf e (16 + k) || (decide (q < k) && decide (q < 3)))

/-- Slots of a list that are exclusive for a queue: slots TIME may use under R268 are not. -/
def exclusiveSlots (q : Nat) : List Nat → Nat → Nat
  | [], _ => 0
  | e :: l, at_ =>
    let n := e % 2 ^ 14
    let time := if bitOf e 24 then ((List.range 8).filter (fun k => decide (at_ ≤ downSlot k ∧ downSlot k < at_ + n))).length else 0
    (if exclusiveFor q e then n - time else 0) + exclusiveSlots q l (at_ + n)

/-- The condition of R270 for a list: for each queue, its exclusive slots cover the LINK grants of CRITICAL slices in
the classes mapped to it. -/
def Common.listCovers (c : Common kd) (l : List Nat) : Bool :=
  (List.range 8).all (fun q =>
    let grants := ((List.range 8).map (fun cls =>
      if c.reg 0x1402 (cls + 1) = q then (c.criticalSlices.map (fun s => c.grantOf s cls 0)).sum else 0)).sum
    decide (grants ≤ exclusiveSlots q l 0))

/-- Whether a list opens TIME in one of the slots from a to b. -/
def opensTime (l : List Nat) (a b : Nat) : Bool :=
  (List.range (b + 1 - a)).any (fun i => bitOf (entryAt l (a + i)) 24)

/-- The abort of a list submission for port p at an instant (R271), in the table's order. -/
def Common.gclAbort (c : Common kd) (p : Nat) (t : Ticks) (l : List Nat) : Option Abort :=
  if !isCycleStart t then some .value
  else if t < c.now + msT 1 then some .value
  else if !(listFits l && c.listCovers l) then some .value
  else if decide (c.linkEnd p ≠ 1) && !((List.range 8).any (fun k => bitOf (entryAt l (downSlot k)) 24)) then some .value
  else if decide (c.linkEnd p ≠ 0) && !((List.range 8).all (fun k => opensTime l (downSlot k) (min 12199 (downSlot k + 1023)))) then some .value
  else if c.bud.gclPending.any (fun g => decide (g.1 = p)) then some .state
  else none

/-- The admin list of a port. -/
def Common.adminList (c : Common kd) (p : Nat) : List Nat :=
  (List.range (c.reg (0x14C0 + p) 1)).map (fun i => c.reg (0x1460 + p) (i + 1))

/-- BUD_GCL_SWITCH_TIME of a port (R271): zero cancels a pending switch. -/
def ruleGclSwitch (p v : Nat) (c : Common kd) : Common kd × Option Abort :=
  let idx := 0x14C0 + p
  if v = 0 then
    if c.bud.gclPending.any (fun g => decide (g.1 = p)) then
      (({ c with bud := { c.bud with gclPending := c.bud.gclPending.filter (fun g => decide (g.1 ≠ p)) } }.setReg idx 2 0).setReg
        idx 3 3, none)
    else (c.setReg idx 2 0, none)
  else
    let t := c.timeOf v
    match c.gclAbort p t (c.adminList p) with
    | some .state => (c, some .state)
    | some a => (c.setReg idx 3 4, some a)
    | none =>
      (({ c with bud := { c.bud with gclPending := c.bud.gclPending ++ [(p, t, c.adminList p)] } }.setReg idx 2
        (storedForm .time v)).setReg idx 3 1, none)

/-- Writes a list as a port's operational list. -/
def Common.installList (c : Common kd) (p : Nat) (l : List Nat) : Common kd :=
  let c1 := (List.range 64).foldl (fun a i => a.setReg (0x1490 + p) (i + 1) (nth 0x01FF2FA8 l i)) c
  c1.setReg (0x14C0 + p) 4 l.length

/-- The switch instant of a port arrives (R271). -/
def Common.gclSwitch (p : Nat) (c : Common kd) : Common kd :=
  match c.bud.gclPending.find? (fun g => decide (g.1 = p)) with
  | none => c
  | some g =>
    let c1 := c.arrive g.2.1
    let c2 : Common kd := { c1 with bud := { c1.bud with gclPending := c1.bud.gclPending.filter (fun x => decide (x.1 ≠ p)) } }
    (((c2.installList p g.2.2).setReg (0x14C0 + p) 3 2).setReg (0x14C0 + p) 2 0).bump (0x14C0 + p) 5

/-- An entry of BUD_GCL_ADMIN or its length: not while a switch is pending; reserved bits read zero (R17, R271). -/
def ruleGclAdmin (p sub v : Nat) (c : Common kd) : Common kd × Option Abort :=
  if c.bud.gclPending.any (fun g => decide (g.1 = p)) then (c, some .state)
  else (c.setReg (0x1460 + p) sub (bits v 24 16 * 2 ^ 16 + v % 2 ^ 14), none)

/-- RATE, BURST, MODE or WEIGHT of a queue (R273, R274). -/
def ruleShape (p sub v : Nat) (c : Common kd) : Common kd × Option Abort :=
  let q := (sub - 1) / 8
  let col := (sub - 1) % 8 + 1
  let idx := 0x1430 + p
  let bad := match col with
    | 1 => !(decide (v ≤ 400000) || (decide (v = 0xFFFFFFFF) && decide (3 ≤ q)))
    | 2 => !decide (256 ≤ v ∧ v ≤ 16777216)
    | 4 => if q < 3 then decide (v ≠ 0) else !decide (1 ≤ v ∧ v ≤ 255)
    | _ => false
  if bad then (c, some .value)
  else
    let old := c.shape p q col
    let c1 := c.setReg idx sub (if col = 3 then v % 2 else v)
    if col = 1 ∨ col = 2 then
      ({ c1 with bud := { c1.bud with
        shapeOld := putKey c1.bud.shapeOld (key idx sub) old,
        shapeStaged := if (p, q) ∈ c1.bud.shapeStaged then c1.bud.shapeStaged else c1.bud.shapeStaged ++ [(p, q)] } }, none)
    else (c1, none)

/-- Shapes written in the last cycle take effect, with one bucket reset each (R274). -/
def Common.shaperReset (c : Common kd) : Common kd :=
  let c1 : Common kd := { c with bud := { c.bud with shapeOld := [], shapeStaged := [] } }
  c.bud.shapeStaged.foldl (fun a pq =>
    let full := bitOf (a.reg (0x1430 + pq.1) (8 * pq.2 + 3)) 0
    let b : Int := if full then ((8000 * a.reg (0x1430 + pq.1) (8 * pq.2 + 2) : Nat) : Int) else 0
    { a with bud := { a.bud with buckets := putKey a.bud.buckets pq (b, a.now) } }) c1

/-! ## Budget writes and renewal (R255, R257, R262, R277) -/

/-- Whether Table 7-1 marks a resource for a class. -/
def marked (cls res : Nat) : Bool :=
  match res with
  | 0 => true
  | 1 => cls = 1 || cls = 2
  | 2 => cls = 1 || cls = 2
  | _ => cls = 6

/-- The sums of R257 with the registers as they stand (not as in effect). -/
def Common.reservationsFit (c : Common kd) : Bool :=
  let d : Common kd := { c with bud := { c.bud with inEffect := [] } }
  decide (d.reserved 0 ≤ 12200) &&
  (match c.kind with
   | .shopostra => true
   | .vangeg => [1, 2, 3].all (fun r => decide (d.reserved r ≤ d.reg 0x1400 r))) &&
  (List.range c.portCount).all (fun p => d.listCovers (d.operList p)) &&
  c.bud.gclPending.all (fun g => d.listCovers g.2.2)

/-- Writes an amount if R257 still holds; it takes effect at the next board-cycle start. -/
def ruleAmount (idx sub v : Nat) (c : Common kd) : Common kd × Option Abort :=
  let unmarked :=
    if 0x1410 ≤ idx ∧ idx < 0x1418 then !marked (idx - 0x1410) (sub - 1) && decide (v ≠ 0)
    else if 0x1418 ≤ idx ∧ idx < 0x1420 then !marked ((sub - 1) / 4) ((sub - 1) % 4) && decide (v ≠ 0)
    else decide (idx = 0x1400 ∧ sub = 3 ∧ 125000 < v)
  let w := if idx = 0x1420 then v / 64 * 64 + v % 8 else v
  let c1 := c.setReg idx sub w
  if unmarked || !c1.reservationsFit then (c, some .value)
  else
    ({ c1 with bud := { c1.bud with inEffect := putKey c1.bud.inEffect (key idx sub) (c.amount idx sub) } }, none)

/-- BUD_POLICY of a class: a fixed class is aborted with the state code (Table 7-5). -/
def rulePolicy (sub v : Nat) (c : Common kd) : Common kd × Option Abort :=
  if 1 < v then (c, some .value)
  else if sub = 2 ∨ sub = 3 ∨ sub = 4 then (c.setReg 0x1401 sub v, none)
  else (c, some .state)

/-- BUD_CLASS_QUEUE of a class: takes effect at the next board-cycle start. -/
def ruleClassQueue (sub v : Nat) (c : Common kd) : Common kd × Option Abort :=
  if 7 < v then (c, some .value)
  else
    ({ c.setReg 0x1402 sub v with bud := { c.bud with
      inEffect := putKey c.bud.inEffect (key 0x1402 sub) (lookupD (c.reg 0x1402 sub) c.bud.inEffect (key 0x1402 sub)) } }, none)

/-- BUD_USED_LAST takes the amounts of the cycle that ends. -/
def Common.latchUsed (c : Common kd) : Common kd :=
  let clear := c.dict.foldl (fun a kv => if kv.1 / 256 = 0x1421 ∧ kv.1 % 256 ≠ 0 then a.setReg 0x1421 (kv.1 % 256) 0 else a) c
  c.bud.consumed.foldl (fun a e => a.setReg 0x1421 (e.1.1 * 4 + e.1.2 + 1) e.2) clear

/-- Budget renewal (R255): every level from its configured amount. -/
def Common.renew (c : Common kd) : Common kd :=
  let c1 := c.latchUsed
  let c2 := c.bud.stalled.foldl (fun a k => a.bump 0x1406 (k + 1)) c1
  { c2 with bud := { c2.bud with used := [], consumed := [], stalled := [], inEffect := [], exhausted := [], dataSent := [],
                                 isoReserved := 0, isoConsumed := 0 } }

/-- Units started but not finished reserve the remainder of their cost first (R262). A remainder that does not fit
waits, or is abandoned, by the class policy. -/
def Common.continueUnits (c : Common kd) : Common kd :=
  c.bud.running.foldl (fun a u =>
    let rest := match (lookupD [] a.bud.queues (u.port, a.unitQueue u)).find? (fun m => decide (m.serial = u.serial)) with
      | some m => m.frames - m.sent
      | none => 0
    let w := { u with link := rest, hmw := 0, intr := 0, iso := 0 }
    if a.covers w 0 then a.take w 0
    else
      let cut : Common kd := { a with bud := { a.bud with
        running := a.bud.running.filter (fun x => decide (x.serial ≠ u.serial)),
        queues := putKey a.bud.queues (u.port, a.unitQueue u)
          ((lookupD [] a.bud.queues (u.port, a.unitQueue u)).filter (fun m => decide (m.serial ≠ u.serial))) } }
      if a.drops u.cls then
        cut.loseUnit u.cls u.serial
      else cut.wait ({ w with msgs := [] } :: cut.bud.waiting) u.cls) c

/-- Host units started but not finished reserve what they have not yet issued (R262). -/
def Common.continueHost (c : Common kd) (rest : List WorkUnit) : Common kd :=
  rest.foldl (fun (a : Common kd) u => (a.take u 1).take u 2) c

/-- Operational lists that a parity error replaces (R277). -/
def Common.resetLists (c : Common kd) : Common kd :=
  let c1 := c.bud.gclReset.foldl (fun a p => a.installList p [0x01FF2FA8]) c
  { c1 with bud := { c1.bud with gclReset := [] } }

/-- DEPTH samples (R275): the ready frames of every queue, at cycle starts that are multiples of BUD_QSAMPLE_PERIOD;
DEPTH_MAX keeps the largest. -/
def Common.sampleDepths (c : Common kd) : Common kd :=
  if cycleNo c.now % (max 1 (c.reg 0x1407 0)) = 0 then
    c.bud.queues.foldl (fun a q =>
      let n := (q.2.map (fun m => m.frames - m.sent)).sum
      (a.setReg (0x1430 + q.1.1) (8 * q.1.2 + 6) n).setReg (0x1430 + q.1.1) (8 * q.1.2 + 7)
        (max n (a.reg (0x1430 + q.1.1) (8 * q.1.2 + 7)))) c
  else c

/-- Budgets at a board-cycle start, in the order of Table 7-3: renewal, shaper reset, list switch, unfinished units,
new units; `rest` is what host units have not yet issued. -/
def Common.budgetCycle (rest : List WorkUnit) (c : Common kd) : Common kd :=
  let c1 := (c.renew).shaperReset
  let c2 := (c1.bud.gclPending.filter (fun g => decide (g.2.1 ≤ c1.now))).foldl (fun a g => a.gclSwitch g.1) c1
  (((c2.resetLists).continueUnits).continueHost rest).retry.sampleDepths

/-! ## Rows of chapters 6 and 7 -/

/-- A part that names no code for a report it must send: code and severity are free values (R277, R335). -/
def Common.reportUnstated (c : Common kd) (detail : Nat) : Common kd :=
  let a := c.drawFree 16
  let b := a.1.drawFree 2
  b.1.reportCode b.2 a.2 detail

/-- A part's slot of a lane (R269). -/
def execSlotSchedule (p : Part) (port lane slot : Nat) (s : State) : Res := onC p (Common.slot port lane slot) s

/-- What the port answers to a violating word seen on a lane: errored words and frames are discarded (Table 6-8). -/
def Common.badWord (port lane code : Nat) (c : Common kd) : Common kd :=
  if code = 0x0601 then (c.violation port lane code).bump 0x1309 (port + 1)
  else if code = 0x0602 ∨ code = 0x0607 ∨ code = 0x0608 ∨ code = 0x060D then c.violation port lane code
  else c

/-- GUARD_WINDOW (R226): what the lane sends; `code` is the log code of a violating word its receiver saw in this
cycle, 0 for none (R251). -/
def execGuardWindow (p : Part) (port lane code : Nat) (s : State) : Res :=
  onC p (fun c => (Common.guardWindow port lane c).badWord port lane code) s

/-- CREDIT_WORD_RX (R241). -/
def execCreditWordRx (p : Part) (port queue cum : Nat) (s : State) : Res := onC p (Common.creditWord port queue cum) s

/-- CREDIT_SYNC_RX (R242). -/
def execCreditSyncRx (p : Part) (port lane queue cum : Nat) (s : State) : Res :=
  onC p (Common.creditSync port lane queue cum) s

/-- LANE_WORD_RX (R247). -/
def execLaneWordRx (p : Part) (port : Nat) (u0 u1 : Bool) (s : State) : Res := onC p (Common.laneWord port u0 u1) s

/-- LANE_WORD_MISSING (R247). -/
def execLaneWordMissing (p : Part) (port : Nat) (s : State) : Res := onC p (Common.laneWordMissing port) s

/-- LANE_DEGRADE (R247): what the FEC of a lane reports. -/
def execLaneDegrade (p : Part) (port lane : Nat) (lost : Bool) (corr uncorr ser : Nat) (s : State) : Res :=
  onC p (Common.laneDegrade port lane lost corr uncorr ser) s

/-- LANE_RESTORE (R248). -/
def execLaneRestore (p : Part) (port lane : Nat) (s : State) : Res := onC p (Common.laneRestore port lane) s

/-- PORT_ENABLE_WRITE (R243). -/
def execPortEnableWrite (p : Part) (r : Req) (port v : Nat) (s : State) : Res :=
  writeBoth p r 0x1301 (port + 1) v (rulePortEnable port v) s

/-- TRAINING_LOCK (R244). -/
def execTrainingLock (p : Part) (port lane : Nat) (s : State) : Res := onC p (Common.trainingLock port lane) s

/-- IDENT_RX (R246). -/
def execIdentRx (p : Part) (port lane : Nat) (ident : Ident) (s : State) : Res :=
  onC p (Common.identRx port lane ident) s

/-- Every 8,000 board cycles in service, IDENT goes on each lane in use (R245, R250). -/
def Common.identPeriodic (p : Nat) (c : Common kd) : Common kd :=
  if c.portUp p ∧ 8000 ≤ (c.port p).identCycles then
    let c1 := c.setPort p { c.port p with identCycles := 0 }
    ((c1.lanesOf p).filter (fun l => c1.laneUsable p l)).foldl (fun a l =>
      a.send (.record (.lane p l) 0xFFFF (a.identFields p l))) c1
  else c

/-- IDENT_PERIODIC_SEND (R245). -/
def execIdentPeriodicSend (p : Part) (port : Nat) (s : State) : Res := onC p (Common.identPeriodic port) s

/-- TRAINING_TIMEOUT (R243). -/
def execTrainingTimeout (p : Part) (port : Nat) (s : State) : Res := onC p (Common.trainingTimeout port) s

/-- PORT_FAILED_EXPIRY (R243). -/
def execPortFailedExpiry (p : Part) (port : Nat) (s : State) : Res := onC p (Common.failedExpiry port) s

/-- PORT_DOWN (R249). -/
def execPortDown (p : Part) (port : Nat) (s : State) : Res := onC p (fun c => c.portDown port) s

/-- PORT_CREDITS_WRITE (R240): queue 0 to 7. -/
def execPortCreditsWrite (p : Part) (r : Req) (queue v : Nat) (s : State) : Res :=
  writeBoth p r 0x130F (queue + 1) v (rulePortCredits (queue + 1) v) s

/-- Whether a laser input lights the engines. -/
def laserLit (v : Nat) : Bool := v = 1 || v = 2

/-- A laser input changes state (R224): recorded; with both inputs failed every port goes DOWN. -/
def Common.laserChange (input state : Nat) (c : Common kd) : Common kd :=
  if c.reg 0x1313 (input + 1) = state then c
  else
    let c1 := (c.setReg 0x1313 (input + 1) state).event 0x0621 2 [input, state]
    if laserLit (c1.reg 0x1313 1) || laserLit (c1.reg 0x1313 2) then c1
    else (List.range 48).foldl (fun a p => if a.portState p = 0 then a else a.portDown p) c1

/-- LASER_INPUT_CHANGE (R224). -/
def execLaserInputChange (input state : Nat) (s : State) : Res := onX (fun x => x.onC (Common.laserChange input state)) s

/-- ENGINE_FAULT (R224): the engine's six ports go DOWN. -/
def execEngineFault (engine : Nat) (s : State) : Res :=
  onX (fun x => x.onC (fun c => (List.range 6).foldl (fun a i => a.portDown (6 * engine + i)) c)) s

/-- UNIT_READY (R256): a unit of a class, of a slice or of none, with its costs (R254). -/
def execUnitReady (p : Part) (cls : Nat) (slice : Option Nat) (source port link hmw intr iso : Nat) (s : State) : Res :=
  onC p (fun c => (c.submit
    { serial := 0, cls := cls, slice := slice, source := source, port := port, link := link, hmw := hmw, intr := intr,
      iso := iso, queue := none, isData := decide (cls < 3), msgs := [], host := [] }).1) s

/-- UNIT_RETRY (R260). -/
def execUnitRetry (p : Part) (s : State) : Res := onC p Common.retry s

/-- The objects whose writes R257 checks. -/
def isAmount (idx : Nat) : Bool := idx = 0x1400 || decide (0x1410 ≤ idx ∧ idx ≤ 0x1420)

/-- BUD_AMOUNT_WRITE (R257). -/
def execBudAmountWrite (p : Part) (r : Req) (idx sub v : Nat) (s : State) : Res :=
  if isAmount idx then writeBoth p r idx sub v (ruleAmount idx sub v) s else .next s

/-- BUD_SHAPE_WRITE (R274): subindex of BUD_SHAPE of a port. -/
def execBudShapeWrite (p : Part) (r : Req) (port sub v : Nat) (s : State) : Res :=
  writeBoth p r (0x1430 + port) sub v (ruleShape port sub v) s

/-- GCL_SWITCH_SUBMIT (R271): the instant, as a TIME value. -/
def execGclSwitchSubmit (p : Part) (r : Req) (port v : Nat) (s : State) : Res :=
  writeBoth p r (0x14C0 + port) 2 v (ruleGclSwitch port v) s

/-- GCL_SWITCH_CANCEL (R271): zero is written. -/
def execGclSwitchCancel (p : Part) (r : Req) (port : Nat) (s : State) : Res :=
  writeBoth p r (0x14C0 + port) 2 0 (ruleGclSwitch port 0) s

/-- GCL_SWITCH (R271). -/
def execGclSwitch (p : Part) (port : Nat) (s : State) : Res := onC p (Common.gclSwitch port) s

/-- A parity error in the budget state of a class (R277). -/
def Common.budgetParity (cls : Nat) (c : Common kd) : Common kd :=
  ({ c with bud := { c.bud with exhausted := if cls ∈ c.bud.exhausted then c.bud.exhausted else c.bud.exhausted ++ [cls] } }).reportUnstated
    cls

/-- BUDGET_PARITY_ERROR (R277). -/
def execBudgetParityError (p : Part) (cls : Nat) (s : State) : Res := onC p (Common.budgetParity cls) s

/-- A parity error in the operational list of a port (R277). -/
def Common.gclParity (port : Nat) (c : Common kd) : Common kd :=
  ({ c with bud := { c.bud with gclReset := if port ∈ c.bud.gclReset then c.bud.gclReset else c.bud.gclReset ++ [port] } }).reportUnstated
    port

/-- GCL_PARITY_ERROR (R277). -/
def execGclParityError (p : Part) (port : Nat) (s : State) : Res := onC p (Common.gclParity port) s

end Sys2Proof.Machine
end

