-- ==== Sys2Proof/Machine/Pawn.lean ====
section
/-! DEFINITION. Pawn cells, the rank reader and counter dumps (04_counters.md). -/

namespace Sys2Proof.Machine

variable {kd : Part}

/-! ## The integration descriptor (R143, R144) -/

/-- VG_BLOCK_DESC of block b. -/
def Common.blockDesc (c : Common kd) (b : Nat) : Nat := c.reg 0x1020 (b + 1)

/-- Number of host blocks. -/
def Common.blockCount (c : Common kd) : Nat := c.reg 0x1020 0

/-- FIRST_CELL of a block. -/
def Common.firstCell (c : Common kd) (b : Nat) : Nat := bits (c.blockDesc b) 31 24

/-- CELL_COUNT of a block. -/
def Common.cellCount (c : Common kd) (b : Nat) : Nat := bits (c.blockDesc b) 23 16

/-- ISLAND of a block. -/
def Common.blockIsland (c : Common kd) (b : Nat) : Nat := bits (c.blockDesc b) 47 43

/-- SLOT_WIDTH of a block. -/
def Common.slotWidth (c : Common kd) (b : Nat) : Nat := bits (c.blockDesc b) 15 12

/-- HAS_TRACE of a block. -/
def Common.hasTrace (c : Common kd) (b : Nat) : Bool := bitOf (c.blockDesc b) 7

/-- TRACE_SRC of a block. -/
def Common.blockSrc (c : Common kd) (b : Nat) : Nat := bits (c.blockDesc b) 11 8

/-- Stamp uncertainty of a block's island in 1/256 ns, 0.60 ns + 1/(2 f) (Table 2-5), rounded up. -/
def Common.blockU (c : Common kd) (b : Nat) : Nat :=
  let f := max 1 (bits (c.blockDesc b) 63 52)
  (1536 * f + 1280000 + 10 * f - 1) / (10 * f)

/-- The block of a trace source. -/
def Common.srcBlock (c : Common kd) (s : Nat) : Option Nat :=
  (List.range c.blockCount).find? (fun b => c.hasTrace b && decide (c.blockSrc b = s))

/-- The block that a pawn cell belongs to. -/
def Common.cellBlock (c : Common kd) (cell : Nat) : Option Nat :=
  (List.range c.blockCount).find? (fun b => decide (c.firstCell b ≤ cell ∧ cell < c.firstCell b + c.cellCount b))

/-- The cells of a block. -/
def Common.blockCells (c : Common kd) (b : Nat) : List Nat := (List.range (c.cellCount b)).map (fun i => c.firstCell b + i)

/-- Pawn group of a cell within its block: groups are of 16 cells in cell order (the descriptor does not say). -/
def Common.cellGroup (c : Common kd) (b cell : Nat) : Nat := (cell - c.firstCell b) / 16

/-- Whether a group of a block is a chord group (R109). -/
def Common.chordGroup (c : Common kd) (b g : Nat) : Bool := bitOf (c.blockDesc b) 6 && decide (g = 0)

/-- Phase of an island: 0 On, 1 Saving, 2 Gated, 3 Restoring (VG_PWR_STATE). -/
def Common.islandState (c : Common kd) (i : Nat) : Nat := c.reg 0x1100 (i + 1)

/-- Whether the cells and slots of an island are frozen: from the freeze edge to the fall of PWR_ACK, or of WRST_ACK
after a host warm reset (R117, R119, R133, R178). -/
def Vangeg.islandFrozen (v : Vangeg) (i : Nat) : Bool :=
  decide (v.c.islandState i ≠ 0) ||
    (v.bnd.warmRestoring && (match v.bnd.islands.find? (fun p => decide (p.1 = i)) with | some p => p.2.warm | none => false))

/-- The slice of a cell's owner byte, with the value 0xFF for unowned. -/
def Common.cellSlice (c : Common kd) (cell : Nat) : Nat := if c.cellOwner cell = 0xFF then 0xFF else c.cellOwner cell % 64

/-- Whether FORCE_FILTER is set for a cell. -/
def Common.forceFilter (c : Common kd) (cell : Nat) : Bool := decide (c.cellOwner cell ≠ 0xFF) && bitOf (c.cellOwner cell) 7

/-- Index of counter k of a cell. -/
def ctrIdx (cell k : Nat) : Nat := 0x2000 + 8 * cell + k

/-- A cell at reset. -/
def cellReset : Cell :=
  { lostAgg := false, lostHost := false, lostTick := false, cmdAt := none, zeroed := [], ovfSince := false,
    ovfLatched := false, frozenAtLatch := false }

/-- What no object shows of a cell. -/
def Vangeg.cell (v : Vangeg) (n : Nat) : Cell := lookupD cellReset v.pawn.cells n

/-- Writes what no object shows of a cell. -/
def Vangeg.setCell (v : Vangeg) (n : Nat) (q : Cell) : Vangeg :=
  { v with pawn := { v.pawn with cells := putKey v.pawn.cells n q } }

/-- Cells of the integration. -/
def Common.allCells (c : Common kd) : List Nat := (List.range c.blockCount).flatMap c.blockCells

/-! ## Counting (R148 to R151) -/

/-- Whether an EVENT field is reserved (Table 4-2). -/
def eventReserved (e : Nat) : Bool :=
  if bitOf e 11 then decide (e % 256 = 0)
  else if bits e 10 8 < 3 then decide (bits e 7 6 ≠ 0)
  else if bits e 10 8 = 3 then decide (e % 256 ≠ 0)
  else true

/-- Set bits among the low eight. -/
def ones8 (n : Nat) : Nat := ((List.range 8).filter (fun i => bitOf n i)).length

/-- The increment of an event number (Table 4-2). -/
def eventIncrement (e tag evt ptag pevt : Nat) : Nat :=
  let n := e % 64
  if bitOf e 11 then (if tag = 1 then ones8 (Nat.land (evt / 2 ^ (8 * bits e 10 8) % 256) (e % 256)) else 0)
  else match bits e 10 8 with
    | 0 => b2n (decide (tag = 1) && bitOf evt n)
    | 1 => b2n (decide (tag = 1) && bitOf evt n && !(decide (ptag = 1) && bitOf pevt n))
    | 2 => b2n (!(decide (tag = 1) && bitOf evt n))
    | 3 => 1
    | _ => 0

/-- Adds to a counter: wrap, OVF, reload and the carry into a chained successor (R151). Answers the mask of counters
that overflowed. -/
def Common.addCounter (cell : Nat) : Nat → Nat → Nat → Common kd → Common kd × Nat
  | 0, _, _, c => (c, 0)
  | fuel + 1, k, inc, c =>
    let sum := c.reg (ctrIdx cell k) 1 + inc
    let cfg := c.reg (ctrIdx cell k) 2
    if sum < 2 ^ 64 then (c.setReg (ctrIdx cell k) 1 sum, 0)
    else
      let w := (sum % 2 ^ 64 + (if bitOf cfg 12 then c.reg (ctrIdx cell k) 3 else 0)) % 2 ^ 64
      let c1 := (c.setReg (ctrIdx cell k) 1 w).setReg (ctrIdx cell k) 2 (withBit cfg 10 true)
      if bitOf cfg 14 && decide (k < 7) then
        let q := Common.addCounter cell fuel (k + 1) 1 c1
        (q.1, 2 ^ k + q.2)
      else (c1, 2 ^ k)

/-- Whether the filter passes for a cell of block b (R155). -/
def Vangeg.filterPasses (v : Vangeg) (b cell : Nat) : Bool :=
  let o := v.c.cellSlice cell
  v.c.hasTrace b && decide (o ≠ 0xFF) &&
    (match (v.src (v.c.blockSrc b)).retired with
     | some r => decide (r.1 = 0) && decide (v.sliceState o ≠ 0) && decide (r.2 = v.slicePasid o)
     | none => false)

/-- The counters of a cell at an edge: each adds its increment, where it counts (R150); none while STOPPED (R477). Answers the overflow mask. -/
def Vangeg.countCell (v : Vangeg) (b cell tag evt ptag pevt : Nat) : Vangeg × Nat :=
  let pass := v.filterPasses b cell
  let q := (List.range 8).foldl (fun (a : Common _ × Nat) k =>
    let cfg := a.1.reg (ctrIdx cell k) 2
    let chained := decide (0 < k) && bitOf (a.1.reg (ctrIdx cell (k - 1)) 2) 14
    let on := bitOf cfg 15 && !v.c.stopped && !chained && ((!(bitOf cfg 11) && !(a.1.forceFilter cell)) || pass)
    let inc := if on then eventIncrement (bits cfg 31 20) tag evt ptag pevt else 0
    if inc = 0 then a
    else
      let r := Common.addCounter cell 8 k inc a.1
      (r.1, Nat.lor a.2 r.2)) (v.c, 0)
  ({ v with c := q.1 }, q.2)

/-! ## Sampling (R162 to R166) -/

/-- Whether a debug authorisation is active with a scope bit (R562). -/
def Common.debugActive (c : Common kd) (bit : Nat) : Bool := c.dbg.expiry.isSome && bitOf c.dbg.scope bit

/-- Lost sampling records: counted, and counted in SEQ. -/
def Common.sampleLost (c : Common kd) (n : Nat) : Common kd :=
  if n = 0 then c
  else match c.kind with
    | .vangeg => ((c.addReg 0x2912 8 n).addReg 0x2912 9 n).addReg 0x2C00 53 n
    | .shopostra => c

/-- A sampling record is formed (Table 4-5) and goes to the sampling ring, or is lost. -/
def Vangeg.emitSample (v : Vangeg) (k : Capture) (pc : Option (Nat × Nat × Nat)) : Vangeg :=
  if v.ringReg 1 0 ≠ 1 ∨ 64 ≤ (v.ring 1).held then v.onC (fun c => c.sampleLost 1)
  else
    let v1 := v.onC (fun c => (c.bump 0x2912 9).baseline 51)
    let hidden := match pc with
      | some (_, ctx, _) => decide (2 ≤ ctx) && !v.c.debugActive 1
      | none => false
    let p := match pc with
      | some x => if hidden then (0, 0, 0) else x
      | none => (0, 0, 0)
    let skid := if pc.isNone then 0 else k.skid
    let flags := b2n pc.isNone + 2 * b2n hidden + 4 * b2n k.multi
    v1.ringPush 1 ([2, flags, k.cell, k.mask, skid, p.2.1, 0, 0] ++ bytesLE 6 k.stamp ++ [0, 0] ++ bytesLE 4 (p.2.2 % 2 ^ 20) ++
      bytesLE 4 (v1.c.reg 0x2912 9) ++ bytesLE 8 p.1) 0 0

/-- Counters of a cell among a mask that have SAMPLE set. -/
def Common.sampleMask (c : Common kd) (cell mask : Nat) : Nat :=
  ((List.range 8).map (fun k => if bitOf mask k && bitOf (c.reg (ctrIdx cell k) 2) 13 then 2 ^ k else 0)).sum

/-- Overflows of a group at one edge, as (cell, mask), lowest cell first: the first cell's record starts a capture,
every other overflow is lost (R165). -/
def Vangeg.startSample (v : Vangeg) (b g : Nat) (hits : List (Nat × Nat)) : Vangeg :=
  let ms := (hits.map (fun h => (h.1, h.2, v.c.sampleMask h.1 h.2))).filter (fun m => decide (m.2.2 ≠ 0))
  match ms with
  | [] => v
  | m :: rest =>
    let busy := v.pawn.captures.any (fun q => decide (q.1 = (b, g)))
    let lost := (rest.map (fun x => ones8 x.2.2)).sum + (if busy then ones8 m.2.2 else 0)
    let v1 := v.onC (fun c => c.sampleLost lost)
    if busy then v1
    else
      let k : Capture := { cell := m.1, mask := m.2.2, multi := decide (1 < ones8 m.2.1), stamp := v1.c.stampU (v1.c.blockU b) v1.c.now,
                           skid := 0, edges := 0 }
      if v1.c.hasTrace b then { v1 with pawn := { v1.pawn with captures := v1.pawn.captures ++ [((b, g), k)] } }
      else v1.emitSample k none

/-- Overflows are remembered for the status byte. -/
def Vangeg.noteOverflow (v : Vangeg) (cell : Nat) : Vangeg := v.setCell cell { v.cell cell with ovfSince := true }

/-- One group of a block at an edge. -/
def Vangeg.groupEdge (v : Vangeg) (b g tag evt : Nat) : Vangeg :=
  let bad := fun (a : Vangeg) => a.onC (fun c => (c.bump 0x1026 0).baseline 61)
  if v.c.chordGroup b g then (if tag = 1 then bad v else v)
  else if v.islandFrozen (v.c.blockIsland b) then
    (if tag ≠ 0 ∧ (v.c.islandState (v.c.blockIsland b) = 3 ∨ v.bnd.warmRestoring) then v.onC (fun c => c.bump 0x1103 0) else v)
  else
    let v0 := if tag = 2 ∨ tag = 3 then bad v else v
    let prev := lookupD (0, 0) v0.pawn.prevEvt (b, g)
    let cells := (v0.c.blockCells b).filter (fun cell => decide (v0.c.cellGroup b cell = g))
    let q := cells.foldl (fun (a : Vangeg × List (Nat × Nat)) cell =>
      let r := a.1.countCell b cell tag evt prev.1 prev.2
      if r.2 = 0 then (r.1, a.2) else (r.1.noteOverflow cell, a.2 ++ [(cell, r.2)])) (v0, [])
    let v1 := { q.1 with pawn := { q.1.pawn with prevEvt := putKey q.1.pawn.prevEvt (b, g) (tag, evt) } }
    v1.startSample b g q.2

/-- The slot accumulators of a block at an edge (R178). -/
def Vangeg.slotEdge (v : Vangeg) (b : Nat) (slots : List Nat) : Vangeg :=
  if v.islandFrozen (v.c.blockIsland b) then v
  else v.onC (fun c => (slots.take (c.slotWidth b)).foldl (fun a s =>
    ((a.bump (0x2A00 + b) (s % 4 + 1)).baseline (s % 4 + 1)).baseline 5) c)

/-- An edge of a block's clock: EVT_TAG and EVT per group, SLOTCLASS per slot (R150, R178). -/
def Vangeg.blockEdge (b : Nat) (evts : List (Nat × Nat)) (slots : List Nat) (v : Vangeg) : Vangeg :=
  let caps := v.pawn.captures.map (fun q => if q.1.1 = b then (q.1, { q.2 with edges := q.2.edges + 1 }) else q)
  let v0 := { v with pawn := { v.pawn with captures := caps } }
  let v1 := (List.range evts.length).foldl (fun a g =>
    let e := (evts[g]?).getD (0, 0)
    a.groupEdge b g e.1 e.2) v0
  v1.slotEdge b slots

/-- BLOCK_CLOCK_EDGE (R150, R178). -/
def execBlockClockEdge (block : Nat) (evts : List (Nat × Nat)) (slots : List Nat) (s : State) : Res :=
  onV (Vangeg.blockEdge block evts slots) s

/-- An increment that takes a counter past 2^64 (R151). -/
def Vangeg.overflow (cell k inc : Nat) (v : Vangeg) : Vangeg :=
  match v.c.cellBlock cell with
  | none => v
  | some b =>
    if v.c.reg (ctrIdx cell k) 1 + inc < 2 ^ 64 ∨ v.c.stopped ∨ v.islandFrozen (v.c.blockIsland b) ∨ v.c.chordGroup b (v.c.cellGroup b cell) then v
    else
      let r := Common.addCounter cell 8 k inc v.c
      (({ v with c := r.1 }).noteOverflow cell).startSample b (v.c.cellGroup b cell) [(cell, r.2)]

/-- PAWN_OVERFLOW (R151): counter k of a cell, by an increment of its event. -/
def execPawnOverflow (cell k inc : Nat) (s : State) : Res := onV (Vangeg.overflow cell k inc) s

/-- Takes a capture out of its unit. -/
def Vangeg.takeCapture (v : Vangeg) (b g : Nat) : Vangeg :=
  let rest := dropKey v.pawn.captures (b, g)
  { v with pawn := { v.pawn with captures := rest } }

/-- The first retire record at edge E + 2 or later (R162). -/
def Vangeg.sampleReady (b g pc ctx pasid : Nat) (v : Vangeg) : Vangeg :=
  match v.pawn.captures.find? (fun q => decide (q.1 = (b, g))) with
  | none => v
  | some q => if q.2.edges < 2 then v else (v.takeCapture b g).emitSample q.2 (some (pc, ctx, pasid))

/-- SAMPLE_RECORD_READY (R162). -/
def execSampleRecordReady (block group pc ctx pasid : Nat) (s : State) : Res :=
  onV (Vangeg.sampleReady block group pc ctx pasid) s

/-- No retire record by edge E + 4,097 (R162). -/
def Vangeg.sampleTimeout (b g : Nat) (v : Vangeg) : Vangeg :=
  match v.pawn.captures.find? (fun q => decide (q.1 = (b, g))) with
  | none => v
  | some q => if q.2.edges < 4097 then v else (v.takeCapture b g).emitSample q.2 none

/-- SAMPLE_CAPTURE_TIMEOUT (R162). -/
def execSampleCaptureTimeout (block group : Nat) (s : State) : Res := onV (Vangeg.sampleTimeout block group) s

/-- The island of a block freezes: captures in it end without a PC (R162). -/
def Vangeg.freezeCaptures (v : Vangeg) (island : Nat) : Vangeg :=
  let hit := v.pawn.captures.filter (fun q => decide (v.c.blockIsland q.1.1 = island))
  hit.foldl (fun a q => (a.takeCapture q.1.1 q.1.2).emitSample q.2 none) v

/-! ## Written objects (R149, R152 to R154, R167) -/

/-- PAWN_CONFIG (R149). -/
def Vangeg.ruleConfig (cell k x : Nat) (v : Vangeg) : Vangeg × Option Abort :=
  match v.c.cellBlock cell with
  | none => (v, some .noObject)
  | some b =>
    if eventReserved (bits x 31 20) || (bitOf x 14 && decide (k = 7)) || (bitOf x 11 && !v.c.hasTrace b) then (v, some .value)
    else if v.c.chordGroup b (v.c.cellGroup b cell) then (v, some .state)
    else
      let ovf := bitOf (v.c.reg (ctrIdx cell k) 2) 10 && !bitOf x 10
      (v.onC (fun c => c.setReg (ctrIdx cell k) 2 (bits x 31 20 * 2 ^ 20 + bits x 15 11 * 2 ^ 11 + b2n ovf * 2 ^ 10)), none)

/-- PAWN_VALUE (R153): only while the counter is disabled. -/
def Vangeg.ruleValue (cell k x : Nat) (v : Vangeg) : Vangeg × Option Abort :=
  if bitOf (v.c.reg (ctrIdx cell k) 2) 15 then (v, some .state)
  else (v.onC (fun c => c.setReg (ctrIdx cell k) 1 x), none)

/-- PAWN_RELOAD (R152). -/
def Vangeg.ruleReload (cell k x : Nat) (v : Vangeg) : Vangeg × Option Abort :=
  if 0xFFFFFFFFFFFFFFC0 < x then (v, some .value) else (v.onC (fun c => c.setReg (ctrIdx cell k) 3 x), none)

/-- PAWN_CELL_OWNER of a cell (R154). -/
def Vangeg.ruleCellOwner (cell x : Nat) (v : Vangeg) : Vangeg × Option Abort :=
  let set := (v.onC (fun c => c.setReg (0x2800 + cell / 128) (cell % 128 + 1) x), none)
  if x = 0xFF then set
  else match v.c.cellBlock cell with
    | none => (v, some .value)
    | some b => if bitOf x 6 || (bitOf x 7 && !v.c.hasTrace b) then (v, some .value) else set

/-- PAWN_LATCH_PERIOD (R167): the change waits for the first second boundary at least 1 ms later. -/
def Vangeg.ruleLatchPeriod (x : Nat) (v : Vangeg) : Vangeg × Option Abort :=
  if x = 0 ∨ 1000000 % x ≠ 0 then (v, some .value)
  else
    let at_ := (v.c.now + msT 1 + secT 1 - 1) / secT 1 * secT 1
    ({ v.onC (fun c => c.setReg 0x2900 0 x) with pawn := { v.pawn with periodNext := some (at_, x) } }, none)

/-- PAWN_BW SRC of a window (R180): a counter of the integration, or 0xFFFF; the window opens at the next tick. -/
def Vangeg.ruleBwSrc (w x : Nat) (v : Vangeg) : Vangeg × Option Abort :=
  if x ≠ 0xFFFF ∧ (v.c.cellBlock (x / 8)).isNone then (v, some .value)
  else
    ({ v.onC (fun c => c.setReg (0x2B00 + w) 1 x) with pawn := { v.pawn with
      windows := putKey v.pawn.windows w { opened := false, prev := 0, total := 0, ticks := 0 } } }, none)

/-- PAWN_BW SCALE_LOG2 and LENGTH of a window (R180). -/
def Vangeg.ruleBwShape (w x : Nat) (v : Vangeg) : Vangeg × Option Abort :=
  if 8 < bits x 15 12 then (v, some .value)
  else (v.onC (fun c => c.setReg (0x2B00 + w) 2 (bits x 15 12 * 2 ^ 12 + x % 2 ^ 10)), none)

/-- PAWN_CONFIG_WRITE (R149). -/
def execPawnConfigWrite (r : Req) (cell k v : Nat) (s : State) : Res :=
  onV (fun x => x.ruled r (ctrIdx cell k) 2 v (Vangeg.ruleConfig cell k v)) s

/-- PAWN_VALUE_WRITE (R153). -/
def execPawnValueWrite (r : Req) (cell k v : Nat) (s : State) : Res :=
  onV (fun x => x.ruled r (ctrIdx cell k) 1 v (Vangeg.ruleValue cell k v)) s

/-- PAWN_RELOAD_WRITE (R152). -/
def execPawnReloadWrite (r : Req) (cell k v : Nat) (s : State) : Res :=
  onV (fun x => x.ruled r (ctrIdx cell k) 3 v (Vangeg.ruleReload cell k v)) s

/-- PAWN_CELL_OWNER_WRITE (R154). -/
def execPawnCellOwnerWrite (r : Req) (cell v : Nat) (s : State) : Res :=
  onV (fun x => x.ruled r (0x2800 + cell / 128) (cell % 128 + 1) v (Vangeg.ruleCellOwner cell v)) s

/-- PAWN_LATCH_PERIOD_WRITE (R167). -/
def execPawnLatchPeriodWrite (r : Req) (v : Nat) (s : State) : Res :=
  onV (fun x => x.ruled r 0x2900 0 v (Vangeg.ruleLatchPeriod v)) s

/-- PAWN_BW_SRC_WRITE (R180). -/
def execPawnBwSrcWrite (r : Req) (window v : Nat) (s : State) : Res :=
  onV (fun x => x.ruled r (0x2B00 + window) 1 v (Vangeg.ruleBwSrc window v)) s

/-! ## Bandwidth windows (R180, R181) -/

/-- A window at reset. -/
def windowReset : Window := { opened := false, prev := 0, total := 0, ticks := 0 }

/-- A window that has added LENGTH deltas stores its total, raises its peak and starts again (R180). -/
def Vangeg.closeWindow (v : Vangeg) (w : Nat) : Vangeg :=
  let q := lookupD windowReset v.pawn.windows w
  if q.opened && decide (v.c.reg (0x2B00 + w) 2 % 2 ^ 10 + 1 ≤ q.ticks) then
    let v1 := v.onC (fun c => ((c.setReg (0x2B00 + w) 3 q.total).setReg (0x2B00 + w) 4
      (max q.total (c.reg (0x2B00 + w) 4))).bump (0x2B00 + w) 5)
    let ws := putKey v1.pawn.windows w { q with total := 0, ticks := 0 }
    { v1 with pawn := { v1.pawn with windows := ws } }
  else v

/-- A window at a latch tick, after the latch; a full window that has not closed yet closes first. -/
def Vangeg.windowTick (v0 : Vangeg) (w : Nat) : Vangeg :=
  let v := v0.closeWindow w
  let src := v.c.reg (0x2B00 + w) 1
  if src = 0xFFFF then v
  else
    let q := lookupD windowReset v.pawn.windows w
    let x := v.c.reg (0x2000 + src) 4
    let cell := v.cell (src / 8)
    let frozen := match v.c.cellBlock (src / 8) with
      | some b => v.islandFrozen (v.c.blockIsland b)
      | none => false
    let delta := if cell.frozenAtLatch && frozen then 0
      else if decide (src % 8 ∈ cell.zeroed) || cell.lostTick then x
      else (x + 2 ^ 64 - q.prev) % 2 ^ 64
    let y : Window := if q.opened then
        { q with prev := x, total := (q.total + delta * 2 ^ bits (v.c.reg (0x2B00 + w) 2) 15 12) % 2 ^ 64, ticks := q.ticks + 1 }
      else { opened := true, prev := x, total := 0, ticks := 0 }
    let ws := putKey v.pawn.windows w y
    { v with pawn := { v.pawn with windows := ws } }

/-- Every window at a latch tick. -/
def Vangeg.windowTicks (v : Vangeg) : Vangeg := (List.range 16).foldl Vangeg.windowTick v

/-- Closes the full windows; an image shows them closed. -/
def Vangeg.closeWindows (v : Vangeg) : Vangeg := (List.range 16).foldl Vangeg.closeWindow v

/-- BW_WINDOW_CLOSE (R180). -/
def execBwWindowClose (window : Nat) (s : State) : Res := onV (fun v => v.closeWindow window) s

/-! ## Images (R170 to R174, R185) -/

/-- ENABLE, DECIMATE, first mask subindex, SECTIONS of the host (true) or aggregator destination. -/
def destSubs (host : Bool) : Nat × Nat × Nat × Nat × Nat :=
  if host then (0x2911, 1, 8, 9, 13) else (0x2910, 1, 3, 4, 8)

/-- Whether a destination selects a cell. -/
def Common.selects (c : Common kd) (host : Bool) (cell : Nat) : Bool :=
  let d := destSubs host
  bitOf (c.reg d.1 (d.2.2.2.1 + cell / 64)) (cell % 64)

/-- The pending commands' cells: whether a command applies to a cell (R159). -/
def Common.cmdHits (c : Common kd) (t : Nat) (cell : Nat) : Bool :=
  if t < 64 then decide (c.cellOwner cell ≠ 0xFF) && decide (c.cellSlice cell = t)
  else if t = 0x0100 then true
  else decide (t = 0x1000 + cell)

/-- Status byte of a cell in an image of tick T (R172); `owner` is the image's owner. -/
def Vangeg.statusByte (v : Vangeg) (host : Bool) (owner : Nat) (t : Ticks) (cell : Nat) : Nat :=
  let q := v.cell cell
  if owner ≠ 0xFF ∧ v.c.cellSlice cell ≠ owner then 16
  else
    let gated := match v.c.cellBlock cell with
      | some b => decide (v.c.islandState (v.c.blockIsland b) ≠ 0)
      | none => false
    let cmd := decide (q.cmdAt = some t) ||
      v.pawn.cmds.any (fun k => decide (k.at_ = t) && v.c.cmdHits k.target cell)
    b2n gated + 2 * b2n (if host then q.lostHost else q.lostAgg) + 4 * b2n q.ovfLatched + 8 * b2n cmd

/-- Runs of consecutive cells. -/
def cellRuns : List Nat → List (List Nat)
  | [] => []
  | a :: l =>
    match cellRuns l with
    | (b :: r) :: rest => if b = a + 1 then (a :: b :: r) :: rest else [a] :: (b :: r) :: rest
    | other => [a] :: other

/-- A section header (R171). -/
def sectionHeader (kind entries first : Nat) : List Nat := [kind, 0] ++ bytesLE 2 entries ++ bytesLE 2 first ++ [0, 0]

/-- The pawn section of a run of cells (Table 4-8). -/
def Vangeg.pawnSection (v : Vangeg) (host : Bool) (owner : Nat) (t : Ticks) (run : List Nat) : List Nat :=
  let n := run.length
  sectionHeader 1 n (run.headD 0) ++ run.map (v.statusByte host owner t) ++ List.replicate ((8 - n % 8) % 8) 0 ++
    run.flatMap (fun cell => (List.range 8).flatMap (fun k =>
      bytesLE 8 (if owner ≠ 0xFF ∧ v.c.cellSlice cell ≠ owner then 0 else v.c.reg (ctrIdx cell k) 4)))

/-- The slot section (Table 4-8, R185). -/
def Vangeg.slotSection (v : Vangeg) (owner : Nat) : List Nat :=
  sectionHeader 2 v.c.blockCount 0 ++ (List.range v.c.blockCount).flatMap (fun b =>
    let seen := decide (owner = 0xFF) || (v.c.blockCells b).any (fun cell => decide (v.c.cellSlice cell = owner))
    (List.range 4).flatMap (fun k => bytesLE 8 (if seen ∧ v.c.slotWidth b ≠ 0 then v.c.reg (0x2A00 + b) (k + 1) else 0)))

/-- The bandwidth section (Table 4-8, R185). -/
def Vangeg.bwSection (v : Vangeg) (owner : Nat) : List Nat :=
  sectionHeader 3 16 0 ++ (List.range 16).flatMap (fun w =>
    bytesLE 8 (if owner = 0xFF then v.c.reg (0x2B00 + w) 3 else 0) ++
    bytesLE 8 (if owner = 0xFF then v.c.reg (0x2B00 + w) 4 else 0))

/-- The baseline section (Table 4-8, R185). -/
def Vangeg.baselineSection (v : Vangeg) (owner : Nat) : List Nat :=
  sectionHeader 4 64 0 ++ (List.range 64).flatMap (fun k =>
    bytesLE 8 (if owner = 0xFF then v.c.reg 0x2C00 (k + 1) else 0))

/-- GATED of an image header. -/
def Vangeg.gatedMask (v : Vangeg) : Nat :=
  ((List.range (v.c.reg 0x1021 0)).map (fun i => if v.c.islandState i = 0 then 0 else 2 ^ i)).sum

/-- An image from its sections (Table 4-7). -/
def Vangeg.imageBytes (v : Vangeg) (type seq flags interval : Nat) (t : Ticks) (count : Nat) (body : List Nat) : List Nat :=
  [type, 1] ++ bytesLE 2 ((32 + body.length) / 8) ++ bytesLE 4 seq ++ bytesLE 6 (v.c.stamp t) ++ [flags, count] ++
    bytesLE 4 v.c.logical ++ bytesLE 4 v.gatedMask ++ bytesLE 4 interval ++ [0, 0, 0, 0] ++ body

/-- A dump image of a destination for tick T. -/
def Vangeg.dumpImage (v : Vangeg) (host : Bool) (t : Ticks) : List Nat :=
  let d := destSubs host
  let dest := if host then v.pawn.host else v.pawn.agg
  let owner := if host then v.ringOwner 0 else 0xFF
  let cells := v.c.allCells.filter (v.c.selects host)
  let runs := cellRuns ((List.range 256).filter (fun n => decide (n ∈ cells)))
  let sel := v.c.reg d.1 d.2.2.2.2
  let stat := cells.map (v.statusByte host owner t)
  let flags := b2n dest.gap + 2 * b2n (stat.any (fun b => bitOf b 1)) + 4 * b2n (stat.any (fun b => bitOf b 3)) +
    16 * b2n (decide (v.c.stampClass 128 = 3))
  let body := runs.flatMap (v.pawnSection host owner t) ++ (if bitOf sel 0 then v.slotSection owner else []) ++
    (if bitOf sel 1 then v.bwSection owner else []) ++ (if bitOf sel 2 then v.baselineSection owner else [])
  v.imageBytes 1 dest.seq flags (v.pawn.period * v.c.reg d.1 d.2.2.1) t
    (runs.length + b2n (bitOf sel 0) + b2n (bitOf sel 1) + b2n (bitOf sel 2)) body

/-- Clears the LOST marks of a destination after an image. -/
def Vangeg.clearLost (v : Vangeg) (host : Bool) : Vangeg :=
  { v with pawn := { v.pawn with cells := v.pawn.cells.map (fun q =>
    (q.1, if host then { q.2 with lostHost := false } else { q.2 with lostAgg := false })) } }

/-- The binding of a STREAM tag: its epoch byte (R284). -/
def Common.boundTag (c : Common kd) (tag : Nat) : Option Nat :=
  ((List.range 32).find? (fun i => decide (c.reg 0x4800 (i + 1) ≠ 0 ∧ c.reg 0x4800 (i + 1) % 2 ^ 16 = tag))).map
    (fun i => bits (c.reg 0x4800 (i + 1)) 23 16)

/-- Frames of a DATA message. -/
def framesOf (bytes : Nat) : Nat := (bytes + 239) / 240

/-- The port on which a die's DATA leaves: the active tray's. -/
def Common.dataPort (c : Common kd) : Nat := (c.destPorts .activeParent).headD 0

/-- A DATA message of a class under a stream tag: the fate of its unit, or none where no binding names the tag, which
counts as a loss of the class (R284). -/
def Vangeg.sendData (v : Vangeg) (cls source tag : Nat) (slice : Option Nat) (payload : List Nat) :
    Vangeg × Option (UnitFate × Nat) :=
  match v.c.boundTag tag with
  | none => (v.onC (fun c => c.countLoss cls), none)
  | some e =>
    let serial := v.c.ctl.serial
    let q := v.c.submit { linkUnit cls v.c.dataPort (framesOf payload.length) source true
      [.data .activeParent tag e v.c.logical payload] with slice := slice }
    ({ v with c := q.1 }, some (q.2, serial))

/-- An image of a destination becomes ready at tick T (R173, R175). -/
def Vangeg.imageReady (v : Vangeg) (host : Bool) (t : Ticks) : Vangeg :=
  let img := v.dumpImage host t
  let none_ : RingUnit := { id := 0, payload := [], issued := false, failed := false, intr := false, src := 0, seq := 0, serial := 0 }
  let drop := fun (a : Vangeg) =>
    if host then a.ringDrop 0 none_
    else
      let a1 := a.onC (fun c => (c.bump 0x2910 9).baseline 50)
      { a1 with pawn := { a1.pawn with agg := { a1.pawn.agg with gap := true } } }
  if host then
    let d := v.pawn.host
    let v1 := ({ v with pawn := { v.pawn with host := { d with seq := (d.seq + 1) % 2 ^ 32 } } }).onC (fun c => c.baseline 49)
    if (v1.ringPasid 0).isNone || decide (2 ≤ (v1.ring 0).held) then drop v1
    else
      let v2 := { v1 with pawn := { v1.pawn with host := { v1.pawn.host with gap := false } } }
      (v2.clearLost true).ringPush 0 img 0 0
  else
    let d := v.pawn.agg
    let live := d.held.filter (fun s => v.c.bud.waiting.any (fun u => decide (u.serial = s)) ||
      v.c.bud.running.any (fun u => decide (u.serial = s)))
    let v1 := ({ v with pawn := { v.pawn with agg := { d with seq := (d.seq + 1) % 2 ^ 32, held := live } } }).onC
      (fun c => c.baseline 49)
    if 2 ≤ live.length then drop v1
    else
      let q := v1.sendData 1 2 (v1.c.reg 0x2910 2) none img
      match q.2 with
      | none => drop q.1
      | some (.dropped, _) => drop q.1
      | some (_, serial) =>
        let a := { q.1.pawn.agg with gap := false, held := live ++ [serial] }
        ({ q.1 with pawn := { q.1.pawn with agg := a } }).clearLost false

/-! ## Latch ticks (R167, R168) -/

/-- The latch tick at or after an instant that has not been latched. -/
def Vangeg.nextTick (v : Vangeg) : Ticks :=
  let p := usT v.pawn.period
  let sec := v.c.now / secT 1 * secT 1
  let k := (v.c.now - sec) / p
  let here := sec + k * p
  let next := if sec + secT 1 ≤ here + p then sec + secT 1 else here + p
  if here = v.c.now ∧ v.pawn.lastLatch ≠ some here then here else next

/-- Latches one cell. -/
def Vangeg.latchCell (v : Vangeg) (cell : Nat) : Vangeg :=
  let q := v.cell cell
  let v1 := v.onC (fun c => (List.range 8).foldl (fun a k => a.setReg (ctrIdx cell k) 4 (a.reg (ctrIdx cell k) 1)) c)
  if q = cellReset then v1 else v1.setCell cell { q with ovfLatched := q.ovfSince, ovfSince := false }

/-- After a latch: what the next interval starts with. -/
def Vangeg.endTick (v : Vangeg) : Vangeg :=
  { v with pawn := { v.pawn with cells := v.pawn.cells.map (fun q =>
    let frozen := match v.c.cellBlock q.1 with
      | some b => v.islandFrozen (v.c.blockIsland b)
      | none => false
    (q.1, { q.2 with zeroed := [], lostTick := false, frozenAtLatch := frozen })) } }

/-- Whether an image of a destination is due at an instant (R169). -/
def Vangeg.destDue (v : Vangeg) (host : Bool) (t : Ticks) : Bool :=
  let d := destSubs host
  v.c.reg d.1 1 == 1 && (t % secT 1 % usT (max 1 (v.pawn.period * v.c.reg d.1 d.2.2.1)) == 0)

/-- The latch at tick T: every cell, every window, and an image for each destination that is due (R168, R169). -/
def Vangeg.latchAt (t : Ticks) (v : Vangeg) : Vangeg :=
  let v0 := v.onC (fun c => (c.arrive t).bump 0x2901 0)
  let p0 := { v0.pawn with lastLatch := some t }
  let v1 := v0.c.allCells.foldl Vangeg.latchCell { v0 with pawn := p0 }
  let v2 := v1.windowTicks
  let v3 := if v2.destDue false t then v2.closeWindows.imageReady false t else v2
  let v4 := if v3.destDue true t then v3.closeWindows.imageReady true t else v3
  v4.endTick

/-- LATCH_TICK (R168): the next latch tick arrives; none occurs while STOPPED (R477). -/
def execLatchTick (s : State) : Res := onV (fun v => if v.c.stopped then v else v.latchAt v.nextTick) s

/-- The new latch period takes effect at its second boundary; windows restart (R167, R180). -/
def Vangeg.changePeriod (v : Vangeg) : Vangeg :=
  match v.pawn.periodNext with
  | none => v
  | some (t, p) =>
    { v.onC (fun c => c.arrive t) with pawn := { v.pawn with
      period := p, periodNext := none, windows := v.pawn.windows.map (fun w => (w.1, windowReset)) } }

/-- LATCH_PERIOD_CHANGE (R167). -/
def execLatchPeriodChange (s : State) : Res := onV Vangeg.changePeriod s

/-! ## Counting commands (R159 to R161) -/

/-- Whether TARGET is one that R159 lists. -/
def Common.targetOk (c : Common kd) (t : Nat) : Bool :=
  decide (t < 64) || decide (t = 0x0100) || (decide (0x1000 ≤ t) && (c.cellBlock (t - 0x1000)).isSome)

/-- PAWN_CMD submission (R160). -/
def Vangeg.ruleCmd (r : Req) (x : Nat) (v : Vangeg) : Vangeg × Option Abort :=
  let action := v.c.reg 0x2902 1
  let target := v.c.reg 0x2902 2
  let mask := v.c.reg 0x2902 3
  let own := v.sliceOfPasid r.pasid
  let mine := match own with
    | some s => decide (target = s) || (decide (0x1000 ≤ target) && decide (v.c.cellSlice (target - 0x1000) = s))
    | none => false
  let refuse := fun (a : Abort) => (v.onC (fun c => c.setReg 0x2902 5 4), some a)
  if decide (3 ≤ r.priv) && !mine then refuse .privilege
  else if decide (v.c.timeOf x < v.c.now + usT 2) || decide (action = 0 ∨ 4 < action) || !v.c.targetOk target || decide (mask = 0)
  then refuse .value
  else if 8 ≤ v.pawn.cmds.length then refuse .state
  else
    let k : TimedCmd := { action := action, target := target, mask := mask, at_ := v.c.timeOf x }
    let v1 := v.onC (fun c => ((c.setReg 0x2902 4 (storedForm .time x)).setReg 0x2902 5 1).setReg 0x2902 6 (v.pawn.cmds.length + 1))
    ({ v1 with pawn := { v1.pawn with cmds := v1.pawn.cmds ++ [k] } }, none)

/-- PAWN_CMD_SUBMIT (R160). -/
def execPawnCmdSubmit (r : Req) (v : Nat) (s : State) : Res :=
  onV (fun x => x.ruled r 0x2902 4 v (Vangeg.ruleCmd r v)) s

/-- A command's action on one counter. -/
def Common.cmdCounter (action cell : Nat) (c : Common kd) (k : Nat) : Common kd :=
  let i := ctrIdx cell k
  match action with
  | 1 => (c.setReg i 1 0).setReg i 2 (withBit (c.reg i 2) 15 true)
  | 2 => c.setReg i 2 (withBit (c.reg i 2) 15 false)
  | 3 => c.setReg i 1 0
  | 4 => c.setReg i 2 (withBit (c.reg i 2) 10 false)
  | _ => c

/-- Applies a command to one cell. -/
def Vangeg.cmdCell (k : TimedCmd) (v : Vangeg) (cell : Nat) : Vangeg :=
  let ks := (List.range 8).filter (fun i => bitOf k.mask i)
  let v1 := v.onC (fun c => ks.foldl (Common.cmdCounter k.action cell) c)
  let q := v1.cell cell
  v1.setCell cell { q with cmdAt := some k.at_, zeroed := if k.action = 1 ∨ k.action = 3 then q.zeroed ++ ks else q.zeroed }

/-- The pending command with the earliest instant, first submitted first. -/
def earliest : List TimedCmd → Option TimedCmd
  | [] => none
  | a :: l => match earliest l with
    | none => some a
    | some b => if b.at_ < a.at_ then some b else some a

/-- The instant of the earliest pending command arrives: a latch tick of the same instant is taken first (R157, R158),
then the command applies to its cells in submission order (R161). -/
def Vangeg.runCmd (action : Nat) (v : Vangeg) : Vangeg :=
  match earliest v.pawn.cmds with
  | none => v
  | some k =>
    if k.action ≠ action then v
    else
      let v0 := v.onC (fun c => c.arrive k.at_)
      let tick := v0.nextTick
      let v1 := if tick = v0.c.now then v0.latchAt tick else v0
      let rest := v1.pawn.cmds.erase k
      let v2 := ({ v1 with pawn := { v1.pawn with cmds := rest } }).onC (fun c => (c.setReg 0x2902 6 rest.length).setReg 0x2902 5
        (if c.reg 0x2902 5 = 1 ∧ v1.pawn.cmds.getLast? = some k then 2 else c.reg 0x2902 5))
      (v2.c.allCells.filter (v2.c.cmdHits k.target)).foldl (Vangeg.cmdCell k) v2

/-- PAWN_CMD_START (R159). -/
def execPawnCmdStart (s : State) : Res := onV (Vangeg.runCmd 1) s

/-- PAWN_CMD_STOP (R159). -/
def execPawnCmdStop (s : State) : Res := onV (Vangeg.runCmd 2) s

/-- PAWN_CMD_RESTART (R159). -/
def execPawnCmdRestart (s : State) : Res := onV (Vangeg.runCmd 3) s

/-- PAWN_CMD_CLEAR_OVF (R159). -/
def execPawnCmdClearOvf (s : State) : Res := onV (Vangeg.runCmd 4) s

/-- A slice reset cancels the slice's pending commands and clears its cells (R161). -/
def Vangeg.clearSliceCells (v : Vangeg) (s : Nat) : Vangeg :=
  let kept := v.pawn.cmds.filter (fun k => decide (k.target ≠ s))
  let lastGone := match v.pawn.cmds.getLast? with | some k => decide (k.target = s) | none => false
  let v1 := ({ v with pawn := { v.pawn with cmds := kept } }).onC (fun c => (c.setReg 0x2902 6 kept.length).setReg 0x2902 5
    (if lastGone && decide (c.reg 0x2902 5 = 1) then 3 else c.reg 0x2902 5))
  (v1.c.allCells.filter (fun cell => decide (v1.c.cellSlice cell = s))).foldl (fun a cell =>
    a.onC (fun c => (List.range 8).foldl (fun b k =>
      (b.setReg (ctrIdx cell k) 1 0).setReg (ctrIdx cell k) 2 (withBit (b.reg (ctrIdx cell k) 2) 15 false)) c)) v1

/-! ## Destinations (R169, R175, R565) -/

/-- Length of an image of the host destination as selected. -/
def Vangeg.imageLength (v : Vangeg) : Nat := (v.dumpImage true v.c.now).length

/-- Enables or disables a ring's destination: byte counts restart (R176). -/
def Vangeg.restartRing (v : Vangeg) (r : Nat) : Vangeg :=
  (((v.setRing r { ringReset with nextId := (v.ring r).nextId }).setRingReg r 5 0).setRingReg r 6 0)

/-- Whether a ring of owner 0xFF lacks the driver's PASID (R565). -/
def Vangeg.driverless (v : Vangeg) (r : Nat) : Bool := decide (v.ringOwner r = 0xFF) && decide (v.c.reg 0x3804 0 = 0xFFFFFFFF)

/-- ENABLE of the host destination, the sampling ring or a trace ring. -/
def Vangeg.ruleRingEnable (r x : Nat) (v : Vangeg) : Vangeg × Option Abort :=
  if 1 < x then (v, some .value)
  else if x = 0 then (v.setRingReg r 0 0, none)
  else if v.ringReg r 0 = 1 then (v, none)
  else if r = 0 ∧ 2 ^ v.ringReg 0 3 < 2 * v.imageLength then (v, some .value)
  else if v.driverless r then (v, some .state)
  else
    let v1 := (v.restartRing r).setRingReg r 0 1
    (if r = 0 then { v1 with pawn := { v1.pawn with host := { seq := 0, held := [], gap := false } } } else v1, none)

/-- ENABLE of the aggregator destination. -/
def Vangeg.ruleAggEnable (x : Nat) (v : Vangeg) : Vangeg × Option Abort :=
  if 1 < x then (v, some .value)
  else if x = 1 ∧ v.c.reg 0x2910 1 = 0 then
    ({ v.onC (fun c => c.setReg 0x2910 1 1) with pawn := { v.pawn with agg := { v.pawn.agg with seq := 0, gap := false } } }, none)
  else (v.onC (fun c => c.setReg 0x2910 1 x), none)

/-- A cell mask word of a destination: bits of unused cells are refused (R169). -/
def Vangeg.ruleMask (idx sub first x : Nat) (v : Vangeg) : Vangeg × Option Abort :=
  if (List.range 64).any (fun i => bitOf x i && (v.c.cellBlock (64 * (sub - first) + i)).isNone) then (v, some .value)
  else (v.onC (fun c => c.setReg idx sub x), none)

/-- DUMP_DEST_ENABLE (R169): the host destination or the aggregator's. -/
def execDumpDestEnable (r : Req) (host : Bool) (v : Nat) (s : State) : Res :=
  onV (fun x => if host then x.ruled r 0x2911 1 v (Vangeg.ruleRingEnable 0 v)
    else x.ruled r 0x2910 1 v (Vangeg.ruleAggEnable v)) s

/-- MIRROR_WRITE_ANSWERED (R177). -/
def execMirrorWriteAnswered (ring : Nat) (s : State) : Res := onV (Vangeg.mirrorAnswered ring) s

/-- HMW_WRITE_RESPONSE (R106). -/
def execHmwWriteResponse (id resp : Nat) (s : State) : Res := onV (Vangeg.writeResponse id resp) s

/-- HMW_SQUASH_ACK (R107). -/
def execHmwSquashAck (s : State) : Res := onV Vangeg.squashAck s

/-! ## Faults (R186, R187) -/

/-- Marks a cell lost with its counters at zero. -/
def Vangeg.loseCell (v : Vangeg) (cell : Nat) : Vangeg :=
  let v1 := v.onC (fun c => (List.range 8).foldl (fun a k => a.setReg (ctrIdx cell k) 1 0) c)
  v1.setCell cell { v1.cell cell with lostAgg := true, lostHost := true, lostTick := true }

/-- COUNTER_PARITY_ERROR (R186). -/
def execCounterParityError (cell : Nat) (s : State) : Res :=
  onV (fun v => if (v.c.cellBlock cell).isNone then v
    else (v.loseCell cell).onC (fun c => (c.baseline 63).reportUnstated cell)) s

/-- The record of an island. -/
def Vangeg.island (v : Vangeg) (i : Nat) : Island :=
  lookupD { changedAt := 0, gatedAt := 0, eccBad := false, warm := false } v.bnd.islands i

/-- Writes an island's record. -/
def Vangeg.setIsland (v : Vangeg) (i : Nat) (q : Island) : Vangeg :=
  { v with bnd := { v.bnd with islands := putKey v.bnd.islands i q } }

/-- Cells of an island. -/
def Vangeg.islandCells (v : Vangeg) (i : Nat) : List Nat :=
  ((List.range v.c.blockCount).filter (fun b => decide (v.c.blockIsland b = i))).flatMap v.c.blockCells

/-- SAVE_STORE_ECC_ERROR (R187): the island's cells are marked LOST at restore. -/
def execSaveStoreEccError (island : Nat) (s : State) : Res :=
  onV (fun v => (v.setIsland island { v.island island with eccBad := true }).onC (fun c => c.reportUnstated island)) s

/-- A parity error in an image buffer drops the newest image held (R187, R173). -/
def Vangeg.bufferParity (host : Bool) (v : Vangeg) : Vangeg :=
  let v1 := v.onC (fun c => c.reportUnstated (b2n host))
  if host then
    let q := v1.ring 0
    match q.waiting.getLast?, q.active with
    | some u, _ => (v1.setRing 0 { q with waiting := q.waiting.dropLast }).ringDrop 0 u
    | none, some u => v1.setRing 0 { q with active := some { u with failed := true } }
    | none, none => v1
  else
    match v1.pawn.agg.held.getLast? with
    | none => v1
    | some serial =>
      v1.onC (fun c => { c with bud := { c.bud with
        waiting := c.bud.waiting.filter (fun u => decide (u.serial ≠ serial)),
        running := c.bud.running.filter (fun u => decide (u.serial ≠ serial)),
        queues := c.bud.queues.map (fun q => (q.1, q.2.filter (fun m => decide (m.serial ≠ serial)))),
        lostUnits := c.bud.lostUnits ++ [serial] } })

/-- IMAGE_BUFFER_PARITY_ERROR (R187). -/
def execImageBufferParityError (host : Bool) (s : State) : Res := onV (Vangeg.bufferParity host) s

/-! ## Baseline images (R183) -/

/-- The KIND 7 binding: tag and epoch byte. -/
def Common.kindBinding (c : Common kd) (kind : Nat) : Option (Nat × Nat) :=
  ((List.range 32).find? (fun i => decide (c.reg 0x4800 (i + 1) ≠ 0 ∧ bits (c.reg 0x4800 (i + 1)) 31 24 = kind))).map
    (fun i => (c.reg 0x4800 (i + 1) % 2 ^ 16, bits (c.reg 0x4800 (i + 1)) 23 16))

/-- The baseline image of a board-cycle start. -/
def Vangeg.takeBaseline (v : Vangeg) : Vangeg :=
  let v0 := v.onC (fun c => c.baseline 0)
  let flags := b2n v0.pawn.baseGap + 16 * b2n (decide (v0.c.stampClass 128 = 3))
  let img := v0.imageBytes 3 v0.pawn.baseSeq flags 125 v0.c.now 1 (v0.baselineSection 0xFF)
  let v1 := { v0 with pawn := { v0.pawn with baseSeq := (v0.pawn.baseSeq + 1) % 2 ^ 32 } }
  match v1.c.kindBinding 7 with
  | none => v1
  | some (tag, e) =>
    let q := v1.c.submit (linkUnit 0 v1.c.dataPort 3 3 true [.data .activeParent tag e v1.c.logical img])
    let lost := decide (q.2 = .dropped)
    { v1 with c := q.1, pawn := { v1.pawn with baseGap := lost } }

end Sys2Proof.Machine
end

