-- ==== Sys2Proof/Machine/Trace.lean ====
section
/-! DEFINITION. Instruction and data trace (05_trace.md): packets, front ends, chunks, sinks. -/

namespace Sys2Proof.Machine

variable {kd : Part}

/-! ## Objects of a source -/

/-- TRC_SRC_CTRL of a source. -/
def Common.srcCtrl (c : Common kd) (s : Nat) : Nat := c.reg (0x3100 + s) 1

/-- TRC_SRC_OWNER. -/
def Common.srcOwner (c : Common kd) (s : Nat) : Nat := c.reg (0x3100 + s) 2

/-- TRC_SRC_STATE: 0 STOPPED, 1 RUNNING, 2 EXCLUDED, 3 OVERFLOW, 4 POWERED_DOWN, 5 FULL. -/
def Common.srcState (c : Common kd) (s : Nat) : Nat := c.reg (0x3100 + s) 4

/-- PART_MODE: 0 DRAIN, 1 WRAP, 2 STOP. -/
def Common.srcMode (c : Common kd) (s : Nat) : Nat := bits (c.srcCtrl s) 15 14

/-- Capacity of a source's partition in chunks (R207). -/
def Common.srcCapacity (c : Common kd) (s : Nat) : Nat := c.reg (0x3100 + s) 3 * 64

/-- Writes TRC_SRC_STATE. -/
def Vangeg.setSrcState (v : Vangeg) (s n : Nat) : Vangeg := v.onC (fun c => c.setReg (0x3100 + s) 4 n)

/-! ## Packets (Table 5-1) -/

/-- SYNC. -/
def pktSync (pc ctx pasid : Nat) : Packet :=
  { bytes := [0x10, ctx % 4, 0, 0] ++ bytesLE 4 (pasid % 2 ^ 20) ++ bytesLE 8 pc, ops := 0 }

/-- TIMESTAMP with a reason. -/
def pktStamp (reason stamp : Nat) : Packet := { bytes := [0x20 + reason, 0] ++ bytesLE 6 stamp, ops := 0 }

/-- RUN or LONG RUN of n operations; none for 0 (R195). -/
def pktRun (n : Nat) : List Packet :=
  if n = 0 then []
  else if n ≤ 16 then [{ bytes := [0x30 + (n - 1)], ops := n }]
  else [{ bytes := 0x40 :: bytesLE 2 (n - 1), ops := n }]

/-- The number of low bytes that distinguish an address from its base (R196). -/
def addrBytes (base a : Nat) : Nat := ((List.range 9).find? (fun n => decide (a / 256 ^ n = base / 256 ^ n))).getD 8

/-- BRANCH to a target. -/
def pktBranch (base tgt : Nat) : Packet :=
  { bytes := (0x50 + addrBytes base tgt) :: bytesLE (addrBytes base tgt) tgt, ops := 0 }

/-- DATA of an accepted access: `content` 1 address, 2 value, 3 both; `range` the comparator. -/
def pktData (base range content : Nat) (d : DaRec) : Packet :=
  let hasAddr := content ≠ 2
  let n := if hasAddr then addrBytes base d.addr else 0
  let hasVal := 2 ≤ content
  { bytes := (0x60 + 8 * b2n d.st + 4 * b2n (decide hasVal) + d.size % 4) :: (16 * n + 8 * b2n (decide hasAddr) + range) ::
      (bytesLE n d.addr ++ (if hasVal then bytesLE (2 ^ (d.size % 4)) d.data else [])), ops := 0 }

/-- CONTEXT. -/
def pktContext (ctx pasid : Nat) : Packet := { bytes := [0x70, ctx % 4] ++ bytesLE 4 (pasid % 2 ^ 20), ops := 0 }

/-- EXCLUDE with a reason. -/
def pktExclude (reason : Nat) : Packet := { bytes := [0x80 + reason], ops := 0 }

/-- OVERFLOW: ARG bits, LOST_BYTES and LOST_OPS, saturating, with INCOMPLETE (R192, R193). -/
def pktOverflow (arg bytes ops : Nat) (incomplete : Bool) : Packet :=
  { bytes := [0x90 + arg, 0, 0, 0] ++ bytesLE 4 (min bytes 0xFFFFFFFF) ++
      bytesLE 4 (min ops 0x7FFFFFFF + (if incomplete then 2 ^ 31 else 0)), ops := 0 }

/-- POWER with ARG. -/
def pktPower (arg stamp : Nat) : Packet := { bytes := [0xA0 + arg, 0] ++ bytesLE 6 stamp, ops := 0 }

/-- Bytes of packets. -/
def packetBytes (l : List Packet) : Nat := (l.map (fun p => p.bytes.length)).sum

/-! ## Chunks (R197) -/

/-- The 64 bytes of a chunk (Table 5-2). -/
def Chunk.bytes (k : Chunk) (src : Nat) (gap : Bool) : List Nat :=
  [src, b2n gap + 2 * b2n k.padded + 4 * b2n k.bad, k.firstOff, k.syncOff] ++ bytesLE 4 k.seq ++
    (if k.bad then List.replicate 56 0 else k.body)

/-- Hands the chunks of a source to the aggregator sink, one at a time (R208). -/
def Vangeg.drainAgg (s : Nat) (v : Vangeg) : Vangeg :=
  if v.c.bud.waiting.any (fun u => decide (u.source = 300 + s)) then v
  else
    let held := (v.src s).chunks.filter (fun k => decide (k.agg = 1))
    let v0 := held.foldl (fun a k => a.markChunk s k.seq false 2) v
    ((v0.src s).chunks.filter (fun k => decide (k.agg = 0))).foldl (fun a k =>
      if a.c.bud.waiting.any (fun u => decide (u.source = 300 + s)) then a
      else
        let q := a.src s
        let slice := if a.c.srcOwner s = 0xFF then none else some (a.c.srcOwner s)
        let r := a.sendData 2 (300 + s) (a.c.reg (0x3100 + s) 5) slice (k.bytes s q.gapAgg)
        match r.2 with
        | none => r.1.dropChunk s k.seq false
        | some (.started, _) => (r.1.setSrc s { r.1.src s with gapAgg := false }).markChunk s k.seq false 2
        | some (.waits, _) => (r.1.setSrc s { r.1.src s with gapAgg := false }).markChunk s k.seq false 1
        | some (.dropped, _) => r.1.dropChunk s k.seq false) v0

/-- Closes the chunk being filled, with PAD where it is not full, and hands it to the sinks (R197, R207, R208). -/
def Vangeg.closeChunk (s : Nat) (v : Vangeg) : Vangeg :=
  let q := v.src s
  if q.body = [] then v
  else
    let seq := v.c.reg (0x3100 + s) 10
    let sink := bits (v.c.srcCtrl s) 13 12
    let drain := decide (v.c.srcMode s = 0)
    let k : Chunk :=
      { seq := seq, firstOff := q.bodyFirst, syncOff := q.bodySync, padded := decide (q.body.length < 56), bad := false,
        body := q.body ++ List.replicate (56 - q.body.length) 0,
        host := if drain && bitOf sink 0 then 0 else 2, agg := if drain && bitOf sink 1 then 0 else 2 }
    let keep := !(drain && decide (sink = 0))
    let q1 := { q with body := [], bodyFirst := 0xFF, bodySync := 0xFF, chunks := if keep then q.chunks ++ [k] else q.chunks }
    let v1 := (v.setSrc s q1).onC (fun c => c.setReg (0x3100 + s) 10 ((seq + 1) % 2 ^ 32))
    let v2 := if k.host = 0 then
        ((v1.setSrc s { q1 with gapHost := false }).markChunk s seq true 1).ringPush (2 + bits (v.c.srcCtrl s) 11 10)
          (k.bytes s q1.gapHost) s seq
      else v1
    v2.drainAgg s

/-- Appends a whole packet to a source's stream. -/
def Vangeg.appendPacket (s : Nat) (bytes : List Nat) (v : Vangeg) : Vangeg :=
  let q := v.src s
  let at_ := q.body.length
  let sync := decide (bytes.headD 0 / 16 = 1)
  let q1 := { q with body := q.body ++ bytes.take (56 - at_),
                     bodyFirst := if q.bodyFirst = 0xFF then at_ else q.bodyFirst,
                     bodySync := if sync && decide (q.bodySync = 0xFF) then at_ else q.bodySync }
  let v1 := (v.setSrc s q1).onC (fun c => (c.addReg (0x3100 + s) 6 bytes.length).addReg 0x2C00 54 bytes.length)
  let v2 := if q1.body.length = 56 then v1.closeChunk s else v1
  if bytes.length ≤ 56 - at_ then v2
  else v2.setSrc s { v2.src s with body := bytes.drop (56 - at_) }

/-- Whether a source's partition has room for a packet. -/
def Vangeg.partitionRoom (v : Vangeg) (s len : Nat) : Bool :=
  let q := v.src s
  decide (q.chunks.length + (if 56 < q.body.length + len then 2 else 1) ≤ v.c.srcCapacity s)

/-- Makes room in a partition by its mode: WRAP overwrites the oldest chunk, STOP goes to FULL, DRAIN waits (R207). -/
def Vangeg.makeRoom (s len : Nat) (v : Vangeg) : Vangeg × Bool :=
  if v.partitionRoom s len then (v, true)
  else if v.c.srcMode s = 1 then
    let q := v.src s
    let need := q.chunks.length + (if 56 < q.body.length + len then 2 else 1)
    (v.setSrc s { q with chunks := q.chunks.drop (need - v.c.srcCapacity s) }, true)
  else if v.c.srcMode s = 2 then
    (if v.c.srcState s = 0 then v else v.setSrcState s 5, false)
  else (v, false)

/-- An OVERFLOW packet's counts go to the source's counters. -/
def Common.countOverflow (s bytes ops : Nat) (c : Common kd) : Common kd :=
  (((c.addReg (0x3100 + s) 7 bytes).addReg (0x3100 + s) 8 ops).bump (0x3100 + s) 9).baseline 54

/-- The assembler commits the next packet of a source (R191), an OVERFLOW with DRAIN first where chunks were dropped
(R209). Answers whether it did. -/
def Vangeg.commitOne (s : Nat) (v : Vangeg) : Vangeg × Bool :=
  let q := v.src s
  if 0 < q.drainLost then
    let r := v.makeRoom s 12
    if r.2 then
      let v1 := r.1.setSrc s { r.1.src s with drainLost := 0 }
      ((v1.onC (Common.countOverflow s (56 * q.drainLost) 0)).appendPacket s (pktOverflow 8 (56 * q.drainLost) 0 true).bytes, true)
    else (r.1, false)
  else match q.front with
    | [] => (v, false)
    | p :: rest =>
      let r := v.makeRoom s p.bytes.length
      if r.2 then ((r.1.setSrc s { r.1.src s with front := rest }).appendPacket s p.bytes, true)
      else (r.1, false)

/-- TRACE_PACKET_COMMIT (R191). -/
def execTracePacketCommit (src : Nat) (s : State) : Res := onV (fun v => (v.commitOne src).1) s

/-- Commits whatever the partition takes. -/
def Vangeg.commitAll (s : Nat) (v : Vangeg) : Vangeg :=
  (List.range ((v.src s).front.length + 1)).foldl (fun a _ => (a.commitOne s).1) v

/-! ## The front end (R190, R195 to R204, R211) -/

/-- The Tempo of an edge of a source, as its stamp. -/
def Vangeg.srcStamp (v : Vangeg) (s : Nat) : Nat :=
  match v.c.srcBlock s with
  | some b => v.c.stampU (v.c.blockU b) v.c.now
  | none => 0

/-- The comparator that accepts an access: its number and CONTENT (R201). -/
def Common.compare (c : Common kd) (s : Nat) (d : DaRec) : Option (Nat × Nat) :=
  ((List.range 8).find? (fun k =>
    let x := c.reg (0x3010 + k) 3
    bitOf x (16 + s) && bitOf x (if d.st then 1 else 0) && decide (c.reg (0x3010 + k) 1 ≤ d.addr) &&
      decide (d.addr ≤ c.reg (0x3010 + k) 2))).map (fun k => (k, bits (c.reg (0x3010 + k) 3) 3 2))

/-- Whether a record of a context is excluded from a source's trace (R203); every one is while STOPPED (R477). -/
def Vangeg.excluded (v : Vangeg) (s ctx pasid : Nat) : Bool :=
  let o := v.c.srcOwner s
  if v.c.stopped then true
  else if ctx = 0 then !(decide (o = 0xFF) || (decide (v.sliceState o ≠ 0) && decide (v.slicePasid o = pasid)))
  else !(decide (o = 0xFF) && v.c.debugActive 0)

/-- The interval of 2^TS_LOG2 ns that holds now; 0 with no interval stamps. -/
def Vangeg.tsNow (v : Vangeg) (s : Nat) : Nat :=
  let n := bits (v.c.srcCtrl s) 27 23
  if n = 0 then 0 else totalNs v.c.mode v.c.epoch v.c.now / 2 ^ n

/-- The packets of a traced edge, and the source after it (R194 to R200, R204). -/
def Vangeg.encodeEdge (v : Vangeg) (s : Nat) (ret : Option RetRec) (da : Option DaRec) (ctx pasid : Nat) :
    List Packet × TraceSrc :=
  let q := v.src s
  let ctrl := v.c.srcCtrl s
  let acc := match da with
    | some d => if bitOf ctrl 2 then v.c.compare s d else none
    | none => none
  let stamp := v.srcStamp s
  let due := q.syncDue || decide (2 ^ bits ctrl 31 28 ≤ q.sinceSync)
  let bucket := v.tsNow s
  let interval := decide (bits ctrl 27 23 ≠ 0) && decide (bucket ≠ q.tsBucket)
  let context := match q.last with
    | some l => decide (l ≠ (ctx, pasid))
    | none => false
  if ret.isNone && acc.isNone then ([], q)
  else
    let sync := due && ret.isSome
    let pc := match ret with | some r => r.pc | none => 0
    let head := if sync then pktRun q.run ++ [pktSync pc ctx pasid, pktStamp 1 stamp]
      else if interval then pktRun q.run ++ [pktStamp 0 stamp] else []
    let run1 := if sync || interval then 0 else q.run
    let cpk := if context then pktRun run1 ++ [pktContext ctx pasid] else []
    let run2 := if context then 0 else run1
    let tb := if sync then pc else q.targetBase
    let db := if sync then 0 else q.dataBase
    let count := match ret with | some r => if bitOf ctrl 1 then r.count else 0 | none => 0
    let long := decide (65536 ≤ run2 + count)
    let rpk := if long then pktRun 65536 else []
    let run3 := if long then run2 + count - 65536 else run2 + count
    let branch := match ret with | some r => if r.disc && bitOf ctrl 1 then some r.tgt else none | none => none
    let bpk := match branch with
      | some t => pktRun run3 ++ [pktBranch tb t]
      | none => []
    let run4 := if branch.isSome then 0 else run3
    let dpk := match da, acc with
      | some d, some k => pktRun run4 ++ [pktData db k.1 k.2 d]
      | _, _ => []
    let run5 := if acc.isSome then 0 else run4
    let all := head ++ cpk ++ rpk ++ bpk ++ dpk
    let after := packetBytes (cpk ++ rpk ++ bpk ++ dpk)
    (all, { q with
      run := run5, targetBase := branch.getD tb,
      dataBase := (match da, acc with | some d, some k => if k.2 = 2 then db else d.addr | _, _ => db),
      syncDue := if sync then false else due, sinceSync := if sync then 8 + after else q.sinceSync + packetBytes all,
      last := some (ctx, pasid), tsBucket := bucket })

/-- Puts packets of an edge in the front-end buffer; with too little room the source enters OVERFLOW, the packets and
their operations lost (R211). `count` operations were retired at the edge. -/
def Vangeg.putPackets (v : Vangeg) (s : Nat) (ps : List Packet) (q : TraceSrc) (count : Nat) : Vangeg :=
  let old := v.src s
  if packetBytes old.front + packetBytes ps ≤ 2048 then v.setSrc s { q with front := old.front ++ ps }
  else
    let closed := ps.any (fun p => decide (0 < p.ops))
    (v.setSrc s { old with run := if closed then 0 else old.run, lostBytes := packetBytes ps,
                           lostOps := count + (if closed then old.run else 0) }).setSrcState s 3

/-- Operations of a retire record. -/
def retCount (ret : Option RetRec) : Nat := match ret with | some r => r.count | none => 0

/-- A retire record and a data-access record at an edge of a source's block (R190). -/
def Vangeg.traceRecord (s : Nat) (ret : Option RetRec) (da : Option DaRec) (ctx pasid : Nat) (v : Vangeg) : Vangeg :=
  match v.c.srcBlock s with
  | none => v
  | some b =>
    if v.c.pin (.testIsoAck b) = 1 then v
    else
      let n := retCount ret
      let caps := v.pawn.captures.map (fun k =>
        if k.1.1 = b ∧ k.2.edges ≤ 1 then (k.1, { k.2 with skid := min 16 (k.2.skid + n) }) else k)
      let q0 := v.src s
      let q : TraceSrc := { q0 with retired := if ret.isSome then some (ctx, pasid) else q0.retired }
      let v0 := ({ v with pawn := { v.pawn with captures := caps } }).setSrc s q
      let st := v0.c.srcState s
      if st = 0 ∨ (ret.isNone ∧ da.isNone) then v0
      else if st = 4 then
        (if v0.c.islandState (v0.c.blockIsland b) = 3 then
          v0.setSrc s { q with powerOps := q.powerOps + n, powerSeen := true }
        else (v0.setSrc s { q with lostOps := q.lostOps + n }).onC (fun c => c.addReg (0x3100 + s) 8 n))
      else if st = 5 then v0.onC (fun c => c.addReg (0x3100 + s) 8 n)
      else if v0.excluded s ctx pasid then
        (if st = 1 ∧ q.last.isSome then
          (v0.putPackets s (pktRun q.run ++ [pktExclude (if ctx = 0 then 1 else 0), pktStamp 2 (v0.srcStamp s)])
            { q with run := 0, syncDue := true } 0).setSrcState s
              (if packetBytes q.front + packetBytes (pktRun q.run) + 9 ≤ 2048 then 2 else 3)
        else if st = 1 then v0.setSrcState s 2 else v0)
      else
        let e := v0.encodeEdge s ret da ctx pasid
        if st = 3 then
          v0.setSrc s { q with lostBytes := q.lostBytes + packetBytes e.1, lostOps := q.lostOps + n }
        else
          let v1 := if st = 2 then (v0.setSrcState s 1).setSrc s { q with syncDue := true } else v0
          let e1 := v1.encodeEdge s ret da ctx pasid
          v1.putPackets s e1.1 e1.2 n

/-- TRACE_RECORD (R190). -/
def execTraceRecord (src : Nat) (ret : Option RetRec) (da : Option DaRec) (ctx pasid : Nat) (s : State) : Res :=
  onV (Vangeg.traceRecord src ret da ctx pasid) s

/-- The front end leaves OVERFLOW once 256 bytes are free (R211). -/
def Vangeg.overflowExit (s : Nat) (v : Vangeg) : Vangeg :=
  let q := v.src s
  if v.c.srcState s = 3 ∧ packetBytes q.front + 256 ≤ 2048 then
    let ps := pktRun q.run ++ [pktOverflow 1 q.lostBytes q.lostOps false]
    ((v.setSrc s { q with front := q.front ++ ps, run := 0, lostBytes := 0, lostOps := 0, syncDue := true }).setSrcState s 1).onC
      (Common.countOverflow s q.lostBytes q.lostOps)
  else v

/-- TRACE_FRONT_OVERFLOW_EXIT (R211). -/
def execTraceFrontOverflowExit (src : Nat) (s : State) : Res := onV (Vangeg.overflowExit src) s

/-! ## Commands (R205 to R207, R215, R219) -/

/-- The START edge of one source (R206, R215). -/
def Vangeg.startSrc (v : Vangeg) (s : Nat) : Vangeg :=
  if v.c.srcState s ≠ 0 then v
  else
    let q := v.src s
    let q1 := { q with syncDue := true, last := none, front := [], run := 0, tsBucket := v.tsNow s, sinceSync := 0,
                       lostBytes := 0, lostOps := 0,
                       chunks := if v.c.srcMode s = 0 then q.chunks else [],
                       body := if v.c.srcMode s = 0 then q.body else [],
                       bodyFirst := if v.c.srcMode s = 0 then q.bodyFirst else 0xFF,
                       bodySync := if v.c.srcMode s = 0 then q.bodySync else 0xFF }
    let on := match v.c.srcBlock s with
      | some b => decide (v.c.islandState (v.c.blockIsland b) = 0)
      | none => false
    if on then (v.setSrc s q1).setSrcState s 1 else v.setSrc s { q1 with powered := true }

/-- The STOP edge of one source (R206): what a front end in OVERFLOW lost is told first. -/
def Vangeg.stopSrc (v : Vangeg) (s : Nat) : Vangeg :=
  let q := v.src s
  let st := v.c.srcState s
  if st = 0 then v.setSrc s { q with powered := false }
  else if st = 4 then (v.setSrc s { q with front := [], run := 0 }).setSrcState s 0
  else
    let ov := if st = 3 then [pktOverflow 1 q.lostBytes q.lostOps false] else []
    let v1 := if st = 3 then v.onC (Common.countOverflow s q.lostBytes q.lostOps) else v
    let q1 := { q with front := q.front ++ pktRun q.run ++ ov ++ [pktExclude 2], run := 0, lostBytes := 0, lostOps := 0 }
    let v2 := ((v1.setSrc s q1).setSrcState s 0).commitAll s
    if (v2.src s).front = [] then v2.closeChunk s else v2

/-- Sources that a mask selects. -/
def maskSrcs (m : Nat) : List Nat := (List.range 16).filter (fun s => bitOf m s)

/-- Why a source refuses a command with the state code (R205, R207). -/
def Vangeg.srcRefuses (v : Vangeg) (action s : Nat) : Bool :=
  let ctrl := v.c.srcCtrl s
  let ring := 2 + bits ctrl 11 10
  decide (v.c.reg (0x3100 + s) 3 = 0) ||
    (bitOf ctrl 12 && (decide (v.ringReg ring 0 ≠ 1) || decide (v.ringOwner ring ≠ v.c.srcOwner s))) ||
    (decide (action = 1) && decide (v.c.srcMode s ≠ 0) && decide (bits ctrl 13 12 ≠ 0))

/-- TRC_CMD submission (R205). -/
def Vangeg.ruleTrcCmd (r : Req) (x : Nat) (v : Vangeg) : Vangeg × Option Abort :=
  let action := v.c.reg 0x3001 1
  let mask := v.c.reg 0x3001 2
  let srcs := maskSrcs mask
  let own := v.sliceOfPasid r.pasid
  let mine := match own with
    | some k => srcs.all (fun s => decide (v.c.srcOwner s = k))
    | none => false
  let refuse := fun (a : Abort) => (v.onC (fun c => c.setReg 0x3001 4 4), some a)
  if decide (3 ≤ r.priv) && !mine then refuse .privilege
  else if decide (v.c.timeOf x < v.c.now + usT 2) || decide (action ≠ 1 ∧ action ≠ 2) || decide (mask = 0) ||
      srcs.any (fun s => (v.c.srcBlock s).isNone) then refuse .value
  else if decide (8 ≤ v.trc.cmds.length) || srcs.any (v.srcRefuses action) then refuse .state
  else
    let k : TimedCmd := { action := action, target := 0, mask := mask, at_ := v.c.timeOf x }
    let v1 := v.onC (fun c => ((c.setReg 0x3001 3 (storedForm .time x)).setReg 0x3001 4 1).setReg 0x3001 5 (v.trc.cmds.length + 1))
    ({ v1 with trc := { v1.trc with cmds := v1.trc.cmds ++ [k] } }, none)

/-- TRC_CMD_SUBMIT (R205). -/
def execTrcCmdSubmit (r : Req) (v : Nat) (s : State) : Res :=
  onV (fun x => x.ruled r 0x3001 3 v (Vangeg.ruleTrcCmd r v)) s

/-- The instant of the earliest pending TRC_CMD arrives. -/
def Vangeg.runTrcCmd (action : Nat) (v : Vangeg) : Vangeg :=
  match earliest v.trc.cmds with
  | none => v
  | some k =>
    if k.action ≠ action then v
    else
      let rest := v.trc.cmds.erase k
      let v1 := ({ v with trc := { v.trc with cmds := rest } }).onC (fun c =>
        ((c.arrive k.at_).setReg 0x3001 5 rest.length).setReg 0x3001 4 
          (if c.reg 0x3001 4 = 1 ∧ v.trc.cmds.getLast? = some k then 2 else c.reg 0x3001 4))
      (maskSrcs k.mask).foldl (fun a s => if action = 1 then a.startSrc s else a.stopSrc s) v1

/-- TRC_START_EDGE (R206). -/
def execTrcStartEdge (s : State) : Res := onV (Vangeg.runTrcCmd 1) s

/-- TRC_STOP_EDGE (R206). -/
def execTrcStopEdge (s : State) : Res := onV (Vangeg.runTrcCmd 2) s

/-- A comparator's LOW, HIGH or CTRL (R202, Table 5-3). -/
def Vangeg.ruleCmp (k sub x : Nat) (v : Vangeg) : Vangeg × Option Abort :=
  let i := 0x3010 + k
  if sub = 1 ∧ v.c.reg i 2 < x then (v, some .value)
  else if sub = 2 ∧ x < v.c.reg i 1 then (v, some .value)
  else if sub = 3 ∧ bits x 3 2 = 0 then (v, some .value)
  else (v.onC (fun c => c.setReg i sub (if sub = 3 then x / 2 ^ 16 * 2 ^ 16 + x % 16 else x)), none)

/-- TRC_CMP_WRITE (R202). -/
def execTrcCmpWrite (r : Req) (cmp sub v : Nat) (s : State) : Res :=
  onV (fun x => x.ruled r (0x3010 + cmp) sub v (Vangeg.ruleCmp cmp sub v)) s

/-- TRC_SRC_CTRL, TRC_SRC_OWNER or TRC_SRC_SHARE (R206, R207, R219). -/
def Vangeg.ruleSrcConfig (s sub x : Nat) (v : Vangeg) : Vangeg × Option Abort :=
  let sync := bits x 31 28
  let ts := bits x 27 23
  let bad := match sub with
    | 1 => decide (sync < 10 ∨ 16 < sync) || (decide (ts ≠ 0) && decide (ts < 10 ∨ 24 < ts)) || decide (bits x 15 14 = 3)
    | 2 => decide (63 < x ∧ x ≠ 0xFF)
    | _ => decide (256 < ((List.range 16).map (fun k => if k = s then x else v.c.reg (0x3100 + k) 3)).sum)
  if bad then (v, some .value)
  else if v.c.srcState s ≠ 0 then (v, some .state)
  else
    let w := if sub = 1 then bits x 31 23 * 2 ^ 23 + bits x 15 10 * 2 ^ 10 + bits x 2 1 * 2 else x
    (v.onC (fun c => c.setReg (0x3100 + s) sub w), none)

/-- TRC_SRC_CONFIG_WRITE (R207). -/
def execTrcSrcConfigWrite (r : Req) (src sub v : Nat) (s : State) : Res :=
  if sub = 1 ∨ sub = 2 ∨ sub = 3 then onV (fun x => x.ruled r (0x3100 + src) sub v (Vangeg.ruleSrcConfig src sub v)) s
  else .next s

/-! ## TRC_BUF_READ (R210) -/

/-- The chunk that TRC_BUF_CURSOR names, closed first where it is still being filled. -/
def Vangeg.cursorChunk (s : Nat) (v : Vangeg) : Vangeg × Option Chunk :=
  let cur := v.c.reg (0x3100 + s) 13
  let v1 := if (v.src s).chunks.all (fun k => decide (k.seq < cur)) && decide (cur ≤ v.c.reg (0x3100 + s) 10) then
      v.closeChunk s else v
  let cs := (v1.src s).chunks
  match cs with
  | [] => (v1, none)
  | old :: _ => if cur < old.seq then (v1, some old) else (v1, cs.find? (fun k => decide (cur ≤ k.seq)))

/-- Reads the next word of a source's chunk window. -/
def Vangeg.bufRead (s : Nat) (v : Vangeg) : Vangeg × Except Abort Nat :=
  if v.c.srcMode s = 0 then (v, .error .state)
  else
    let give := fun (a : Vangeg) (bytes : List Nat) (w : Nat) (seq : Nat) =>
      let q := a.src s
      let word := fromLE ((bytes.drop (8 * w)).take 8)
      if w = 7 then ((a.setSrc s { q with latch := none }).onC (fun c => c.setReg (0x3100 + s) 13 ((seq + 1) % 2 ^ 32)), Except.ok word)
      else (a.setSrc s { q with latch := some (bytes, w + 1) }, .ok word)
    match (v.src s).latch with
    | some (bytes, w) => give v bytes w (fromLE ((bytes.drop 4).take 4))
    | none =>
      match v.cursorChunk s with
      | (v1, none) => (v1, .error .state)
      | (v1, some k) => give v1 (k.bytes s false) 0 k.seq

/-- TRC_BUF_READ (R210): one BLOCK_READ of a word. -/
def execTrcBufRead (r : Req) (src : Nat) (s : State) : Res :=
  onV (fun v =>
    let i := 0x3100 + src
    match v.c.gate r i 12 false (v.sliceAdmits r i 12) with
    | some a => v.onC (fun c => c.answer r .blockRead i 12 (some a) 0 0 false)
    | none =>
      match v.bufRead src with
      | (v1, .ok w) => v1.onC (fun c => c.answer r .blockRead i 12 none w 8 false)
      | (v1, .error a) => v1.onC (fun c => c.answer r .blockRead i 12 (some a) 0 0 false)) s

/-! ## Islands and isolation (R212 to R214) -/

/-- Sources of an island. -/
def Vangeg.islandSrcs (v : Vangeg) (i : Nat) : List Nat :=
  (List.range 16).filter (fun s => match v.c.srcBlock s with
    | some b => decide (v.c.blockIsland b = i)
    | none => false)

/-- The freeze edge (R212): POWER, then the flush begins. -/
def Vangeg.freezeSrc (arg : Nat) (v : Vangeg) (s : Nat) : Vangeg :=
  let q := v.src s
  let st := v.c.srcState s
  if st = 1 ∨ st = 2 ∨ st = 3 then
    let ps := pktRun q.run ++ [pktPower arg (v.srcStamp s)]
    if st ≠ 3 ∧ packetBytes q.front + packetBytes ps ≤ 2048 then
      (v.setSrc s { q with front := q.front ++ ps, run := 0, lostBytes := 0, lostOps := 0 }).setSrcState s 4
    else
      let ops := (if st = 3 then q.lostOps else 0) + q.run
      ((v.setSrc s { q with lostBytes := (if st = 3 then q.lostBytes else 0) + packetBytes ps, run := 0,
                            lostOps := ops }).setSrcState s 4).onC (fun c => c.addReg (0x3100 + s) 8 ops)
  else v

/-- Packets that `n` bytes hold whole. -/
def wholePackets : Nat → List Packet → List Packet × List Packet
  | _, [] => ([], [])
  | n, p :: l =>
    if p.bytes.length ≤ n then
      let r := wholePackets (n - p.bytes.length) l
      (p :: r.1, r.2)
    else ([], p :: l)

/-- PWR_ACK rises (R212): `moved` bytes had reached the assembler; what is left is lost, an OVERFLOW with POWER tells
it, and the chunk closes. -/
def Vangeg.poweredSrc (moved : Nat) (v : Vangeg) (s : Nat) : Vangeg :=
  if v.c.srcState s ≠ 4 then v
  else
    let q := v.src s
    let w := wholePackets moved q.front
    let v1 := (v.setSrc s { q with front := w.1 }).commitAll s
    let left := packetBytes (v1.src s).front + packetBytes w.2 + q.lostBytes
    let v2 := v1.setSrc s { v1.src s with front := [], lostBytes := 0, lostOps := 0, powerOps := 0, powerSeen := false }
    if left = 0 then v2.closeChunk s
    else
      let r := v2.makeRoom s 12
      let v3 := if r.2 then r.1.appendPacket s (pktOverflow 2 left q.lostOps true).bytes else r.1
      (v3.onC (Common.countOverflow s left 0)).closeChunk s

/-- The first edge after PWR_ACK falls (R213, R215). -/
def Vangeg.wakeSrc (v : Vangeg) (s : Nat) : Vangeg :=
  let q := v.src s
  if q.powered then (v.setSrc s { q with powered := false, syncDue := true }).setSrcState s 1
  else if v.c.srcState s = 4 then
    let ov := if q.powerSeen then [pktOverflow 2 0 q.powerOps false] else []
    let v1 := (v.setSrc s { q with front := q.front ++ [pktPower 1 (v.srcStamp s)] ++ ov, powerOps := 0, powerSeen := false,
                                   syncDue := true }).setSrcState s 1
    if q.powerSeen then v1.onC (Common.countOverflow s 0 q.powerOps) else v1
  else v

/-- The isolation of a block ends: its source resumes with SYNC (R214). -/
def Vangeg.endIsolation (v : Vangeg) (b : Nat) : Vangeg :=
  if v.c.hasTrace b then v.setSrc (v.c.blockSrc b) { v.src (v.c.blockSrc b) with syncDue := true } else v

/-! ## Faults (R216) and the rings' rows -/

/-- A parity error in a front-end buffer (R216). -/
def Vangeg.feParity (s : Nat) (v : Vangeg) : Vangeg :=
  let q := v.src s
  let n := packetBytes q.front
  ((v.setSrc s { q with front := [pktOverflow 4 n 0 true], syncDue := true }).onC (Common.countOverflow s n 0)).onC
    (fun c => c.reportUnstated s)

/-- TRACE_FE_PARITY_ERROR (R216). -/
def execTraceFeParityError (src : Nat) (s : State) : Res := onV (Vangeg.feParity src) s

/-- An uncorrectable word of a chunk (R216). -/
def Vangeg.bufferEcc (s seq : Nat) (v : Vangeg) : Vangeg :=
  let q := v.src s
  (v.setSrc s { q with chunks := q.chunks.map (fun k => if k.seq = seq then { k with bad := true } else k) }).onC
    (fun c => c.reportUnstated s)

/-- TRACE_BUFFER_ECC_ERROR (R216): the chunk with a sequence number. -/
def execTraceBufferEccError (src seq : Nat) (s : State) : Res := onV (Vangeg.bufferEcc src seq) s

/-- Trace that waits goes on where it can. -/
def Vangeg.drainAll (v : Vangeg) : Vangeg := (List.range 16).foldl (fun a s => a.drainAgg s) v

/-- RING_WRITES_ANSWERED (R177). -/
def execRingWritesAnswered (ring : Nat) (s : State) : Res := onV (Vangeg.ringAnswered ring) s

/-- RING_RPTR_WRITE (R176). -/
def execRingRptrWrite (r : Req) (ring v : Nat) (s : State) : Res :=
  onV (fun x => x.ruled r (ringIdx ring) (ringSub ring 6) v (Vangeg.ruleRptr ring v)) s

end Sys2Proof.Machine
end

