-- ==== Sys2Proof/Machine/SelfTest.lean ====
section
/-! DEFINITION. In-field self-test and repair (16_self_test.md): the director of both parts, block tests of a Vangeg,
fuse burns. Element tests of a Shopostra stand in Elements.lean. -/

namespace Sys2Proof.Machine

variable {kd : Part}

/-- A change of the director. -/
def Common.onBist (c : Common kd) (f : Director → Director) : Common kd := { c with bist := f c.bist }

/-- The current test replaced. -/
def Common.setTest (c : Common kd) (t : Option Test) : Common kd := { c with bist := { c.bist with current := t } }

/-- Field of a block's plan. -/
def Common.plan (c : Common kd) (b f : Nat) : Nat := c.reg (0x3510 + b) f

/-- A test at its start. -/
def newTest (unit margin bucket : Nat) (confirm : Option (Nat × Nat × Nat)) (now : Ticks) : Test :=
  { unit := unit, step := 1, began := now, stepAt := now, margin := margin, bucket := bucket, confirm := confirm,
    result := 0xFF, last := 0, reg := 0, clk := 0, volt := 0, isoAt := some now, isoNs := 0 }

/-! ## Results (R514, R515, R523, R524) -/

/-- Severity of a result (R523). -/
def resultSeverity (r : Nat) : Nat := match r with
  | 0 => 0 | 3 => 0 | 1 => 1 | 4 => 1 | 5 => 1 | 10 => 1 | _ => 2

/-- The DETAIL of R523. -/
def Test.detail (t : Test) : List Nat :=
  [t.unit, t.result, t.last, t.margin] ++ bytesLE 8 t.reg ++ bytesLE 4 t.clk ++ bytesLE 2 t.volt ++ bytesLE 2 t.bucket ++
    bytesLE 4 t.isoNs

/-- BIST_SUMMARY after a result (R524). -/
def Common.summarise (c : Common kd) : Common kd :=
  let good := fun (n : Nat) => match c.bist.results.find? (fun r => decide (r.1 = n)) with
    | some r => decide (r.2 = 0 ∨ r.2 = 1 ∨ r.2 = 3)
    | none => false
  let all := match c.kind with
    | .vangeg => (List.range (c.reg 0x1020 0)).all (fun b => decide (c.plan b 1 ≠ 1) || good b)
    | .shopostra => (List.range 48).all good && (List.range 64).all (fun k => good (64 + k))
  c.setReg 0x3501 0 (b2n (all && !c.bist.stopped))

/-- A test ends: its record, the log of details, the latest result and the summary (R523, R524). -/
def Common.recordResult (c : Common kd) (t : Test) : Common kd :=
  let d := t.detail
  let c1 := c.event 0x1001 (resultSeverity t.result) d
  (c1.onBist (fun x => { x with details := (d :: x.details).take 64, results := putKey x.results t.unit t.result })).summarise

/-! ## Choosing a test (R516 to R519) -/

/-- Whether board cycle n lies in a block's window. -/
def Common.inWindow (c : Common kd) (b n : Nat) : Bool :=
  let w := c.plan b 3
  decide (w % 256 ≤ n % 80) && decide (n % 80 ≤ w / 256 % 256)

/-- Floor of a quotient, held between 0 and 15. -/
def band (n d : Int) : Nat := (max 0 (min 15 (n.fdiv d))).toNat

/-- The T and V bands of a unit's latest samples (R421). -/
def Common.bands (c : Common kd) (map : Nat) : Nat × Nat :=
  let t := c.regI 16 0x1110 (bits map 13 8 + 1)
  let v : Int := ((c.reg 0x1111 (bits map 3 0 + 1) : Nat) : Int) - ((c.reg 0x1112 (bits map 3 0 + 1) : Nat) : Int) + 80
  (band (t - 400) 80, band v 10)

/-- SIG_UNIT_MAP of a unit. -/
def Common.unitMap (c : Common kd) (u : Nat) : Nat := c.reg (0x3620 + u / 128) (u % 128 + 1)

/-- The map of the first unit of a block. -/
def Common.blockMap (c : Common kd) (b : Nat) : Option Nat :=
  ((List.range 256).find? (fun u => decide (c.unitMap u ≠ 0xFFFFFFFF ∧ bits (c.unitMap u) 21 16 = b))).map c.unitMap

/-- Whether the latest samples of a block lie in a bucket's bands (R519). -/
def Common.inBucket (c : Common kd) (b bucket : Nat) : Bool :=
  match c.blockMap b with
  | some m => decide (c.bands m = (bits bucket 7 4, bits bucket 3 0))
  | none => false

/-- Whether a block can be tested now: BIST, its island On, its window open. -/
def Common.testable (c : Common kd) (b : Nat) : Bool :=
  bitOf (c.blockDesc b) 5 && decide (c.islandState (c.blockIsland b) = 0) && c.inWindow b (cycleNo c.now)

/-- Whether a block's plan entry is due. -/
def Common.planDue (c : Common kd) (b : Nat) : Bool :=
  decide (c.plan b 1 = 1) && (match c.bist.lastBegan.find? (fun x => decide (x.1 = b)) with
    | some x => decide (x.2 + secT (c.plan b 4) ≤ c.now)
    | none => true)

/-- The due block whose last test is oldest, ties to the lower number; a block never tested comes first. -/
def Common.oldestDue (c : Common kd) : Option Nat :=
  let due := (List.range c.blockCount).filter (fun b => c.planDue b && c.testable b)
  due.foldl (fun best b => match best with
    | none => some b
    | some a =>
      let at_ := fun (x : Nat) => (c.bist.lastBegan.find? (fun y => decide (y.1 = x))).map (fun y => y.2 + 1)
      if (at_ b).getD 0 < (at_ a).getD 0 then some b else some a) none

/-- The test to start: confirming, stressed, planned. -/
def Common.chooseTest (c : Common kd) : Option Test :=
  match c.bist.confirms.find? (fun k => c.testable k.1) with
  | some k => some (newTest k.1 0 0xFFFF (some (k.2.1, k.2.2.1, k.2.2.2)) c.now)
  | none => match c.bist.requests.find? (fun q => c.testable q.1 && c.inBucket q.1 q.2.1) with
    | some q => some (newTest q.1 q.2.2.1 q.2.1 none c.now)
    | none => c.oldestDue.map (fun b => newTest b 0 0xFFFF none c.now)

/-- The SELFTEST unit of a block's test (R517). -/
def Common.testUnit (c : Common kd) (b : Nat) : WorkUnit :=
  { linkUnit 6 c.dataPort 1 6 false [] with iso := c.plan b 5 }

/-- What the director drives through a block's wrapper. -/
def Common.wrapper (c : Common kd) (b op : Nat) : Common kd := c.send (.message .nowhere "IEEE 1500" [b, op])

/-- The instructions of step 4: MARGIN, the tests that TESTS selects, RESULT. -/
def Common.wrapperRun (c : Common kd) (t : Test) : Common kd :=
  let c1 := c.send (.message .nowhere "IEEE 1500" [t.unit, 0x08, t.margin])
  let c2 := if bitOf (c.plan t.unit 2) 0 then c1.wrapper t.unit 0x03 else c1
  let c3 := if bitOf (c.plan t.unit 2) 1 then c2.wrapper t.unit 0x04 else c2
  c3.wrapper t.unit 0x05

/-- The instructions of step 5: REPAIR_LOAD of every soft and fused entry of the block, then REINIT. -/
def Common.wrapperReinit (c : Common kd) (b : Nat) : Common kd :=
  let soft := (List.range 64).map (fun i => c.reg 0x3570 (i + 1))
  let fused := (List.range 24).map (fun i => c.reg 0x3571 (i + 1))
  ((((soft ++ fused).filter (fun e => bitOf e 63 && decide (bits e 61 56 = b))).foldl (fun a e =>
    a.send (.message .nowhere "IEEE 1500" [b, 0x06, e])) c)).wrapper b 0x07

/-- At an allowed board-cycle start the director starts the highest-priority due test (R516). -/
def Vangeg.startTest (v : Vangeg) : Vangeg :=
  let v0 := if isCycleStart v.c.now then v else v.onC (fun c => c.arrive (cycleStart c.now + cycleT))
  let c := v0.c
  if c.reg 0x3500 0 = 0 ∨ c.bist.stopped ∨ c.bist.current.isSome then v0
  else match c.chooseTest with
    | none => v0
    | some t =>
      let u := c.testUnit t.unit
      let never := c.neverFits u 0 || c.neverFits u 3
      if never then { v0 with c := (c.submit u).1 }
      else if !(c.covers u 0 && c.covers u 3) then v0
      else
        let q := c.submit u
        let c1 : Common .vangeg := { q.1 with bist := { q.1.bist with
          current := some t, lastBegan := putKey q.1.bist.lastBegan t.unit c.now,
          confirms := q.1.bist.confirms.filter (fun k => !(t.confirm.isSome && decide (k.1 = t.unit))),
          requests := if t.bucket = 0xFFFF then q.1.bist.requests else
            q.1.bist.requests.filter (fun x => !(decide (x.1 = t.unit) && decide (x.2.1 = t.bucket) && decide (x.2.2.1 = t.margin))) } }
        let c2 := ((c1.setReg (0x3510 + t.unit) 16 (storedForm .time (c1.timeValue c1.now))).setPin (.testIso t.unit) 1).setReg
          0x3504 4 c1.bist.requests.length
        { v0 with c := { c2 with bud := { c2.bud with isoReserved := c2.bud.isoReserved + c.plan t.unit 5 } } }

/-- BIST_TEST_START (R516). -/
def execBistTestStart (s : State) : Res := onV Vangeg.startTest s

/-! ## The steps (R513, R123, R124) -/

/-- Ends the steps with a result: step 5 while the block is isolated, else the report. -/
def Common.failStep (c : Common kd) (t : Test) (result : Nat) : Common kd :=
  if c.pin (.testIsoAck t.unit) = 1 then
    (c.setTest (some { t with result := result, step := 5, stepAt := c.now })).wrapperReinit t.unit
  else (c.setPin (.testIso t.unit) 0).setTest (some { t with result := result, step := 6 })

/-- TEST_ISO_ACK rises: step 2 begins. -/
def Common.isoAck (b : Nat) (c : Common kd) : Common kd :=
  let c1 := c.setPin (.testIsoAck b) 1
  match c1.bist.current with
  | some t =>
    if t.unit = b ∧ t.step = 1 then
      ((c1.setTest (some { t with step := 2, last := 1, stepAt := c.now })).baseline 42).wrapper b 0x01
    else c1
  | none => c1

/-- TEST_ISO_ACK_RISE (R123). -/
def execTestIsoAckRise (block : Nat) (s : State) : Res := onV (fun v => v.onC (Common.isoAck block)) s

/-- Isolation not acknowledged within the bound (R123, Table 16-3 step 1). -/
def Common.isoTimeout (b : Nat) (c : Common kd) : Common kd :=
  match c.bist.current with
  | some t =>
    if t.unit = b ∧ t.step = 1 then
      let c1 := c.arrive (t.stepAt + nsT (min 10000 (c.plan b 6)))
      ((c1.setPin (.testIso b) 0).bump 0x1105 0).setTest (some { t with result := 5, step := 6 })
    else c
  | none => c

/-- TEST_ISO_ACK_TIMEOUT (R123). -/
def execTestIsoAckTimeout (block : Nat) (s : State) : Res := onV (fun v => v.onC (Common.isoTimeout block)) s

/-- TEST_ISO_ACK falls: the isolation time ends (R123, R124). -/
def Vangeg.isoFall (b : Nat) (v : Vangeg) : Vangeg :=
  let c := v.c.setPin (.testIsoAck b) 0
  let v1 := ({ v with c := c }).endIsolation b
  match c.bist.current with
  | some t =>
    if t.unit = b then
      let n := (c.now - t.isoAt.getD c.now) / ns
      v1.onC (fun a => { ((a.setTest (some { t with isoNs := n })).addReg 0x2C00 10 n).consume 6 3 n with
        bud := { a.bud with isoConsumed := a.bud.isoConsumed + n } })
    else v1
  | none => v1

/-- TEST_ISO_ACK_FALL (R124). -/
def execTestIsoAckFall (block : Nat) (s : State) : Res := onV (Vangeg.isoFall block) s

/-- A free soft repair entry (R520). -/
def Common.freeSoft (c : Common kd) (n : Nat) : Option Nat :=
  (List.range n).find? (fun i => !bitOf (c.reg 0x3570 (i + 1)) 63)

/-- The result of step 4 from the wrapper's result register (R514). -/
def Common.runResult (c : Common kd) (t : Test) (reg : Nat) : Common kd × Nat :=
  if !bitOf reg 62 then (c, 0)
  else
    let array := bits reg 55 48
    let address := bits reg 47 32
    let names := fun (i : Nat) =>
      let e := c.reg 0x3570 (i + 1)
      bitOf e 63 && decide (bits e 61 56 = t.unit) && decide (bits e 55 48 = array) && decide (bits e 47 32 = address)
    if t.confirm.any (fun k => decide (k.2 = (array, address))) then
      let i := (t.confirm.map Prod.fst).getD 0
      (if names i then c.setReg 0x3570 (i + 1) 0 else c, 2)
    else
      let named := (List.range 64).any names
      match bitOf reg 61 && !named, c.freeSoft 64 with
      | true, some i =>
        let e := 2 ^ 63 + b2n (bitOf reg 60) * 2 ^ 62 + t.unit % 64 * 2 ^ 56 + array * 2 ^ 48 + address * 2 ^ 32 +
          bits reg 31 24 * 2 ^ 24
        (({ c with bist := { c.bist with confirms := c.bist.confirms ++ [(t.unit, i, array, address)] } }).setReg 0x3570 (i + 1) e, 1)
      | _, _ => (c, 2)

/-- A wrapper instruction of the current step completes with a value: CLEARED, the clock count, the result register
(R513). -/
def Common.wrapperDone (value : Nat) (c : Common kd) : Common kd :=
  match c.bist.current with
  | none => c
  | some t =>
    let b := t.unit
    match t.step with
    | 2 => if bitOf value 0 then (c.setTest (some { t with step := 3, last := 2, stepAt := c.now })).wrapper b 0x02 else c.failStep t 6
    | 3 =>
      let volt := c.reg 0x1111 (c.plan b 12 % 16 + 1)
      let vnom := c.reg 0x1112 (c.plan b 12 % 16 + 1)
      let t1 := { t with clk := value, volt := volt }
      if value < c.plan b 10 ∨ c.plan b 11 < value ∨ vnom + c.plan b 13 < volt ∨ volt + c.plan b 13 < vnom then c.failStep t1 7
      else (c.setTest (some { t1 with step := 4, last := 3, stepAt := c.now })).wrapperRun t1
    | 4 =>
      let t1 := { t with reg := value }
      if bitOf value 63 then
        let r := c.runResult t1 value
        r.1.failStep { t1 with last := 4 } r.2
      else c.failStep t1 8
    | 5 => (c.setPin (.testIso b) 0).setTest (some { t with step := 6, last := 5 })
    | _ => c

/-- WRAPPER_OP_COMPLETE (R513). -/
def execWrapperOpComplete (value : Nat) (s : State) : Res := onV (fun v => v.onC (Common.wrapperDone value)) s

/-- The bound of a step in ns (Table 16-3). -/
def Common.stepBound (c : Common kd) (t : Test) : Nat :=
  match t.step with
  | 2 => c.plan t.unit 7
  | 3 => 1000
  | 4 => c.plan t.unit 8
  | _ => c.plan t.unit 9

/-- A step exceeds its bound (R513). -/
def Common.stepTimeout (c : Common kd) : Common kd :=
  match c.bist.current with
  | none => c
  | some t =>
    if t.step < 2 ∨ 5 < t.step then c
    else
      let c1 := c.arrive (t.stepAt + nsT (c.stepBound t))
      match t.step with
      | 2 => c1.failStep t 6
      | 3 => c1.failStep t 7
      | 4 => c1.failStep t 8
      | _ => ((c1.setPin (.testIso t.unit) 0).setTest (some { t with result := 9, step := 6 })).reportCode 2 0x1003 t.unit

/-- BIST_STEP_TIMEOUT (R513). -/
def execBistStepTimeout (s : State) : Res := onV (fun v => v.onC Common.stepTimeout) s

/-- The test ends with its result record, once the block is out of isolation (R513, R514). -/
def Common.endTest (c : Common kd) : Common kd :=
  match c.bist.current with
  | none => c
  | some t =>
    if t.step = 6 ∧ c.pin (.testIsoAck t.unit) = 0 then
      let c1 := (c.setTest none).recordResult t
      let c2 := c1.setReg (0x3510 + t.unit) 15 t.result
      if t.result = 1 ∨ t.result = 2 then c2.baseline 43 else c2
    else c

/-- BIST_RESULT (R514). -/
def execBistResult (s : State) : Res := onV (fun v => v.onC Common.endTest) s

/-- An outside event ends the test of a block (R122, R264, R515). -/
def Common.abortTest (c : Common kd) (result : Nat) (hit : Nat → Bool) : Common kd :=
  match c.bist.current with
  | none => c
  | some t =>
    if hit t.unit ∧ t.step < 6 then
      let c1 := c.setPin (.testIso t.unit) 0
      let acked := decide (c1.pin (.testIsoAck t.unit) = 1)
      let c2 := c1.setTest (some { t with result := result, step := if acked then 5 else 6, stepAt := c.now })
      if acked && decide (t.step < 5) then c2.wrapperReinit t.unit else c2
    else c

/-- What remains of the ISO reserved reaches BUD_ISO_RELEASE_NS (R264). -/
def Common.isoAbort (c : Common kd) : Common kd :=
  match c.bist.current with
  | some t =>
    if t.step < 6 then
      (c.arrive (t.isoAt.getD c.now + nsT (c.plan t.unit 5 - c.reg 0x1403 0))).abortTest 4 (fun _ => true)
    else c
  | none => c

/-- ISO_BUDGET_ABORT (R264). -/
def execIsoBudgetAbort (s : State) : Res := onV (fun v => v.onC Common.isoAbort) s

/-! ## Written objects (R517, R518, R521) -/

/-- BIST_PLAN of a block (R517): the plan as it would stand. -/
def rulePlan (b sub x : Nat) (c : Common kd) : Common kd × Option Abort :=
  let f := fun (n : Nat) => if n = sub then x else c.plan b n
  let bad := decide (1 < f 1) || decide (3 < f 2) || decide (79 < f 3 % 256 ∨ 79 < f 3 / 256) || decide (10000 < f 6) ||
    decide (15 < f 12) || decide (15 < f 14) || decide (125000 < f 5) ||
    decide (f 5 < f 6 + f 7 + 1000 + f 8 + f 9 + c.reg 0x1403 0)
  let busy := match c.bist.current with | some t => decide (t.unit = b) | none => false
  if bad then (c, some .value) else if busy then (c, some .state) else ((c.setReg (0x3510 + b) sub x).summarise, none)

/-- BIST_PLAN_WRITE (R517). -/
def execBistPlanWrite (r : Req) (block sub v : Nat) (s : State) : Res :=
  onV (fun x => x.ruled r (0x3510 + block) sub v (ruleV (rulePlan block sub v))) s

/-- Whether a number names a unit that can be tested: a block of the die, or an element. -/
def Common.testedUnit (c : Common kd) (u : Nat) : Bool := match c.kind with
  | .vangeg => decide (u < c.blockCount)
  | .shopostra => decide (u < 48 ∨ (64 ≤ u ∧ u < 128))

/-- BIST_REQUEST: writing MARGIN submits (R518). A Shopostra's elements have no plan and so no margin but 0. -/
def ruleBistRequest (x : Nat) (c : Common kd) : Common kd × Option Abort :=
  let unit := c.reg 0x3504 1
  let most := match c.kind with | .vangeg => c.plan unit 14 | .shopostra => 0
  if most < x || !c.testedUnit unit then (c, some .value)
  else if 8 ≤ c.bist.requests.length then (c, some .state)
  else
    let qs := c.bist.requests ++ [(unit, c.reg 0x3504 2, x, c.now)]
    (({ c with bist := { c.bist with requests := qs } }.setReg 0x3504 3 x).setReg 0x3504 4 qs.length, none)

/-- BIST_REQUEST_SUBMIT (R518). -/
def execBistRequestSubmit (p : Part) (r : Req) (v : Nat) (s : State) : Res := writeBoth p r 0x3504 3 v (ruleBistRequest v) s

/-- The oldest request's wait ends with result 3 (R519). -/
def Common.stressTimeout (c : Common kd) : Common kd :=
  match c.bist.requests with
  | [] => c
  | q :: rest =>
    let c1 := c.arrive (q.2.2.2 + secT (c.reg 0x3502 0))
    let c2 := ({ c1 with bist := { c1.bist with requests := rest } }).setReg 0x3504 4 rest.length
    let t := { newTest q.1 q.2.2.1 q.2.1 none c2.now with result := 3, isoAt := none }
    let c3 := c2.recordResult t
    match c.kind with
    | .vangeg => c3.setReg (0x3510 + q.1) 15 3
    | .shopostra => c3

/-- BIST_STRESS_TIMEOUT (R519). -/
def execBistStressTimeout (p : Part) (s : State) : Res := onC p Common.stressTimeout s

/-- Whether a path is one of CONTROL frames, as R521 demands. -/
def fusePath : Path → Bool
  | .hrp => false
  | .i3c => false
  | _ => true

/-- BIST_FUSE_BURN (R521), with the fuse words 24 to 47 as they stand. -/
def ruleFuseBurn (r : Req) (words : List Nat) (x : Nat) (c : Common kd) : Common kd × Option Abort :=
  let e := c.reg 0x3570 (x + 1)
  if !(fusePath r.path && decide (r.priv = 0)) then (c, some .privilege)
  else if c.reg 0x3570 0 ≤ x then (c, some .value)
  else match (List.range 24).find? (fun i => decide (nth 0 words i = 0)) with
    | none => (c, some .state)
    | some i =>
      if !bitOf e 63 || c.bist.burn.isSome then (c, some .state)
      else
        ((({ c with bist := { c.bist with burn := some (x, 24 + i, e) } }).setReg 0x3573 0 1).send (.program 1 (24 + i) [e]), none)

/-- FUSE_BURN_SUBMIT (R521). -/
def execFuseBurnSubmit (p : Part) (r : Req) (v : Nat) (s : State) : Res :=
  onPart p
    (fun x => x.ruled r 0x3572 0 v (fun y =>
      let q := ruleFuseBurn r (y.bnd.fuses.drop 24) v y.c
      let burning := match q.1.bist.burn, y.c.bist.burn with
        | some k, none => some k.2
        | _, _ => y.bnd.burning
      ({ y with c := q.1, bnd := { y.bnd with burning := burning } }, q.2)))
    (fun x => x.ruled r 0x3572 0 v (fun y =>
      let q := ruleFuseBurn r y.pkg.fuseRepairs v y.c
      ({ y with c := q.1 }, q.2))) s

/-- The end of a burn, at the common units: the entry and its word. -/
def Common.burnDone (err : Bool) (c : Common kd) : Common kd × Option (Nat × Nat) :=
  match c.bist.burn with
  | none => (c, none)
  | some k =>
    let word := k.2.1
    let e := k.2.2
    let c1 : Common kd := { c with bist := { c.bist with burn := none } }
    if err then ((c1.setReg 0x3573 0 3).reportCode 2 0x1004 word, none)
    else
      let c2 := ((c1.setReg 0x3573 0 2).setReg 0x3570 (k.1 + 1) 0).setReg 0x3571 (word - 23) e
      (c2.event 0x1002 1 (word :: bytesLE 8 e), some (word, e))

/-- FUSE_PROGRAM_DONE (R137, R521): the operation ends with FUSE_PGM_DONE or FUSE_PGM_ERR. -/
def execFuseProgramDone (p : Part) (err : Bool) (s : State) : Res :=
  onPart p
    (fun v =>
      let q := v.c.burnDone err
      let b := match q.2, v.bnd.burning with
        | some _, some w => { v.bnd with burning := none, fuses := v.bnd.fuses.set w.1 (Nat.lor (nth 0 v.bnd.fuses w.1) w.2) }
        | _, _ => { v.bnd with burning := none }
      { v with c := q.1, bnd := b })
    (fun x =>
      let q := x.c.burnDone err
      match q.2 with
      | some k => { x with c := q.1, pkg := { x.pkg with fuseRepairs := x.pkg.fuseRepairs.set (k.1 - 24) k.2 } }
      | none => { x with c := q.1 }) s

/-- A parity error in the director's registers stops all testing (R526). -/
def Common.directorParity (c : Common kd) : Common kd :=
  let unit := match c.bist.current with | some t => t.unit | none => 0xFF
  let c1 := match c.bist.current with
    | some t => c.setPin (.testIso t.unit) 0
    | none => c
  ((({ c1 with bist := { c1.bist with stopped := true, current := none } }).setReg 0x3501 0 0)).reportCode 2 0x1003 unit

/-- DIRECTOR_PARITY_ERROR (R526). -/
def execDirectorParityError (p : Part) (s : State) : Res := onC p Common.directorParity s

end Sys2Proof.Machine
end

