-- ==== Sys2Proof/Machine/Protect.lean ====
section
/-! DEFINITION. Protection, debug authorisations and slices (18_protection_and_slices.md). -/

namespace Sys2Proof.Machine

variable {kd : Part}

/-! ## Slices (R564 to R572) -/

/-- Whether a write of a PASID is outstanding at the host memory write port. -/
def Vangeg.pasidBusy (v : Vangeg) (pasid : Nat) : Bool :=
  let f := fun (w : HostWrite) => decide (w.pasid = pasid)
  v.bnd.writes.any f || v.bnd.writeQueue.any f || v.c.bud.issuing.any f

/-- Rings of a slice lose what waits for them; a unit being written is abandoned (R567, R262). -/
def Vangeg.abandonRing (s : Nat) (v : Vangeg) (r : Nat) : Vangeg :=
  if v.ringSlice r = some s then
    let q := v.ring r
    let v1 := v.setRing r { q with waiting := [], active := q.active.map (fun u => { u with failed := true }) }
    q.waiting.foldl (fun a u => a.ringDrop r u) v1
  else v

/-- Units of a slice that have not started are discarded, and units in progress are abandoned (R567). -/
def Common.abandonSlice (c : Common kd) (s : Nat) : Common kd :=
  let mine := fun (u : WorkUnit) => decide (u.slice = some s)
  let gone := (c.bud.running.filter mine).map (fun u => u.serial)
  { c with bud := { c.bud with
    waiting := c.bud.waiting.filter (fun u => !mine u),
    running := c.bud.running.filter (fun u => !mine u),
    queues := c.bud.queues.map (fun q => (q.1, q.2.filter (fun m => !decide (m.serial ∈ gone)))),
    lostUnits := c.bud.lostUnits ++ gone } }

/-- Requests a reset of a slice, unless it is FREE; a reset in progress is joined, the stronger command deciding
(R567, R571). -/
def Vangeg.resetSlice (unbind : Bool) (v : Vangeg) (s : Nat) : Vangeg :=
  if v.sliceState s = 0 then v
  else
    let q := v.slice s
    match q.reset with
    | some k => v.setSlice s { q with reset := some { k with unbind := k.unbind || unbind } }
    | none =>
      let pasid := v.slicePasid s
      let v1 := v.setSlice s { q with reset := some { since := v.c.now, unbind := unbind, squashed := false } }
      let v2 := v1.onC (fun c => ((c.setReg (0x3810 + s) 1 2).abandonSlice s).discardStagings (fun g =>
        match g.who with
        | .hrp _ => decide (g.pasid = pasid)
        | _ => false))
      let keep := fun (w : HostWrite) => decide (w.pasid ≠ pasid)
      let v3 := { v2 with
        c := { v2.c with bud := { v2.c.bud with issuing := v2.c.bud.issuing.filter keep } },
        bnd := { v2.bnd with writeQueue := v2.bnd.writeQueue.filter keep } }
      let v4 := [0, 1, 2, 3, 4, 5].foldl (Vangeg.abandonRing s) v3
      let srcs := (List.range 16).filter (fun k => (v4.c.srcBlock k).isSome && decide (v4.c.srcOwner k = s))
      srcs.foldl Vangeg.stopSrc (v4.clearSliceCells s)

/-- PROT_SLICE_CMD 1 (R564). -/
def Vangeg.ruleBind (r : Req) (s : Nat) (v : Vangeg) : Vangeg × Option Abort :=
  let p := v.slicePasid s
  if 2 < r.priv then (v, some .privilege)
  else if 0xFFFFF < p ∨ p = v.c.reg 0x3804 0 ∨
      (List.range 64).any (fun k => decide (k ≠ s ∧ v.sliceState k ≠ 0 ∧ v.slicePasid k = p)) then (v, some .value)
  else if v.sliceState s ≠ 0 then (v, some .state)
  else (v.onC (fun c => c.setReg (0x3810 + s) 1 1), none)

/-- PROT_SLICE_CMD 2 or 3 (R567). -/
def Vangeg.ruleSliceReset (r : Req) (unbind : Bool) (s : Nat) (v : Vangeg) : Vangeg × Option Abort :=
  if unbind && decide (2 < r.priv) then (v, some .privilege)
  else if v.sliceState s = 0 then (v, some .state)
  else (v.resetSlice unbind s, none)

/-- SLICE_BIND (R564). -/
def execSliceBind (r : Req) (slice : Nat) (s : State) : Res :=
  onV (fun x => x.ruled r (0x3810 + slice) 3 1 (Vangeg.ruleBind r slice)) s

/-- SLICE_RESET (R567). -/
def execSliceReset (r : Req) (slice : Nat) (s : State) : Res :=
  onV (fun x => x.ruled r (0x3810 + slice) 3 2 (Vangeg.ruleSliceReset r false slice)) s

/-- SLICE_RESET_UNBIND (R567). -/
def execSliceResetUnbind (r : Req) (slice : Nat) (s : State) : Res :=
  onV (fun x => x.ruled r (0x3810 + slice) 3 3 (Vangeg.ruleSliceReset r true slice)) s

/-- PROT_SLICE_CMD, any value. -/
def Vangeg.ruleSliceCmd (r : Req) (s x : Nat) (v : Vangeg) : Vangeg × Option Abort :=
  match x with
  | 1 => v.ruleBind r s
  | 2 => v.ruleSliceReset r false s
  | 3 => v.ruleSliceReset r true s
  | _ => (v, some .value)

/-- PROT_SLICE_PASID (R564). -/
def Vangeg.ruleSlicePasid (s x : Nat) (v : Vangeg) : Vangeg × Option Abort :=
  if v.sliceState s ≠ 0 then (v, some .state) else (v.onC (fun c => c.setReg (0x3810 + s) 2 x), none)

/-- Asserts HMW_SQ_VALID for a PASID, after the squash in progress (R107). -/
def Vangeg.assertSquash (v : Vangeg) (pasid : Nat) : Vangeg :=
  match v.bnd.squash with
  | none => { v with bnd := { v.bnd with squash := some (pasid, v.c.now) } }
  | some _ => { v with bnd := { v.bnd with squashNext := v.bnd.squashNext ++ [pasid] } }

/-- 50 µs after a slice reset (R567, R568). -/
def Vangeg.drainTimeout (s : Nat) (v : Vangeg) : Vangeg :=
  match (v.slice s).reset with
  | none => v
  | some k =>
    let v1 := v.onC (fun c => c.arrive (k.since + usT 50))
    let pasid := v1.slicePasid s
    if k.squashed || !v1.pasidBusy pasid then v1
    else
      let q := v1.slice s
      ((v1.setSlice s { q with reset := some { k with squashed := true } }).assertSquash pasid).onC (fun c =>
        (c.bump (0x3810 + s) 7).reportCode 1 0x1201 (s + pasid * 2 ^ 8))

/-- SLICE_DRAIN_TIMEOUT (R567). -/
def execSliceDrainTimeout (slice : Nat) (s : State) : Res := onV (Vangeg.drainTimeout slice) s

/-- No write of the PASID is outstanding: the reset completes (R567). -/
def Vangeg.resetComplete (s : Nat) (v : Vangeg) : Vangeg :=
  match (v.slice s).reset with
  | none => v
  | some k =>
    if v.pasidBusy (v.slicePasid s) then v
    else
      let v1 := v.setSlice s { reset := none, parityBad := false }
      v1.onC (fun c =>
        let c1 := ((c.setReg (0x3810 + s) 1 (if k.unbind then 0 else 1)).bump (0x3810 + s) 6).baseline 58
        if k.unbind then c1.setReg (0x3810 + s) 2 0xFFFFFFFF else c1)

/-- SLICE_RESET_COMPLETE (R567). -/
def execSliceResetComplete (slice : Nat) (s : State) : Res := onV (Vangeg.resetComplete slice) s

/-- HMW_SQ_ACK has not risen after 100 µs (R569). -/
def Vangeg.squashLate (v : Vangeg) : Vangeg :=
  match v.bnd.squash with
  | none => v
  | some (pasid, t) => v.onC (fun c => (c.arrive (t + usT 100)).reportCode 2 0x1204 (pasid * 2 ^ 8))

/-- SQUASH_ACK_LATE (R569). -/
def execSquashAckLate (s : State) : Res := onV Vangeg.squashLate s

/-- PROT_DRIVER_PASID (R565). -/
def Vangeg.ruleDriverPasid (x : Nat) (v : Vangeg) : Vangeg × Option Abort :=
  let bound := (List.range 64).any (fun k => decide (v.sliceState k ≠ 0 ∧ v.slicePasid k = x))
  if (decide (0xFFFFF < x) && decide (x ≠ 0xFFFFFFFF)) || bound then (v, some .value)
  else if [0, 1, 2, 3, 4, 5].any (fun r => decide (v.ringReg r 0 = 1 ∧ v.ringOwner r = 0xFF)) then (v, some .state)
  else (v.onC (fun c => c.setReg 0x3804 0 x), none)

/-- PROT_DRIVER_PASID_WRITE (R565). -/
def execProtDriverPasidWrite (r : Req) (v : Nat) (s : State) : Res :=
  onV (fun x => x.ruled r 0x3804 0 v (Vangeg.ruleDriverPasid v)) s

/-- A parity error in a slice's entry (R572). -/
def Vangeg.sliceParity (s : Nat) (v : Vangeg) : Vangeg :=
  ((v.setSlice s { v.slice s with parityBad := true }).resetSlice false s).onC (fun c => c.reportCode 2 0x1205 s)

/-- SLICE_TABLE_PARITY (R572). -/
def execSliceTableParity (slice : Nat) (s : State) : Res := onV (Vangeg.sliceParity slice) s

/-- A parity error in the held matrix or key hash (R572). -/
def Common.matrixParity (c : Common kd) : Common kd :=
  match c.kind with
  | .vangeg => c.setReg 0x1023 0 1
  | .shopostra => c.setReg 0x3802 0 1

/-- MATRIX_PARITY_ERROR (R572). -/
def execMatrixParityError (p : Part) (s : State) : Res := onC p Common.matrixParity s

/-! ## Debug authorisation (R561 to R563) -/

/-- A change of the authorisation. -/
def Common.onDbg (c : Common kd) (f : DebugAuth → DebugAuth) : Common kd := { c with dbg := f c.dbg }

/-- Reads PROT_DBG_CHALLENGE: a new nonce, and earlier ones are void. -/
def Common.challenge (c : Common kd) : Common kd × Nat :=
  let q := c.drawFree 256
  (q.1.onDbg (fun d => { d with nonce := some q.2 }), q.2)

/-- A read of the challenge at one part, past the access decision. -/
def Common.challengeRead (c : Common kd) (r : Req) (slice : Bool) : Common kd :=
  match c.gate r 0x3860 1 false slice with
  | some a => c.answer r .blockRead 0x3860 1 (some a) 0 0 false
  | none =>
    let q := c.challenge
    q.1.answer r .blockRead 0x3860 1 none q.2 32 false

/-- DBG_CHALLENGE_READ (R561). -/
def execDbgChallengeRead (p : Part) (r : Req) (s : State) : Res :=
  onPart p (fun v => v.onC (fun c => c.challengeRead r (v.sliceAdmits r 0x3860 1)))
    (fun x => x.onC (fun c => c.challengeRead r true)) s

/-- PROT_DBG_SCOPE (R562): bits reserved for the part are refused. -/
def ruleDbgScope (x : Nat) (c : Common kd) : Common kd × Option Abort :=
  let bad := match c.kind with
    | .vangeg => decide (3 < x)
    | .shopostra => decide (x ≠ 0 ∧ x ≠ 4)
  if bad then (c, some .value) else (c.setReg 0x3860 2 x, none)

/-- The 44-byte message that a signature covers (R561). -/
def Common.dbgMessage (c : Common kd) (nonce : Nat) : List Nat :=
  bytesLE 32 nonce ++ bytesLE 4 c.phys ++ [c.reg 0x3860 2, 0, 0, 0] ++ bytesLE 4 (c.reg 0x3860 3)

/-- The cause of a refusal as PROT_DBG_STATUS gives it; 1 when granted. `hash` is the fuse hash. -/
def Common.dbgVerdict (c : Common kd) (hash sig : Nat) : Nat :=
  if c.fuseFault then 5
  else if c.dbg.lockedUntil.isSome then 4
  else if hash = 0 ∨ Config.sha384 (bytesLE 96 c.dbg.key) ≠ hash then 2
  else match c.dbg.nonce with
    | none => 3
    | some n => if Config.ecdsaVerifies c.dbg.key (Config.sha384 (c.dbgMessage n)) sig then 1 else 3

/-- The submission of a signature (R561, R563). -/
def ruleDbgSig (hash sig : Nat) (c : Common kd) : Common kd × Option Abort :=
  let st := c.dbgVerdict hash sig
  let c1 := (c.onDbg (fun d => { d with nonce := none })).setReg 0x3860 6 st
  if st = 1 then
    let e := c.now + secT (c.reg 0x3860 3)
    let c2 := c1.onDbg (fun d => { d with expiry := some e, scope := c.reg 0x3860 2, failures := 0 })
    ((c2.setReg 0x3860 7 (storedForm .time (c2.timeValue e))).reportCode 1 0x1202
      (c.reg 0x3860 2 + c.reg 0x3860 3 * 2 ^ 32), none)
  else
    let n := if st = 4 then c.dbg.failures else c.dbg.failures + 1
    let lock := if st ≠ 4 ∧ 4 ≤ n then some (c.now + secT 60) else c.dbg.lockedUntil
    ((c1.onDbg (fun d => { d with failures := n, lockedUntil := lock })).reportCode 1 0x1203 st, none)

/-- The key hash in a Vangeg's fuses (words 2 to 7). -/
def Vangeg.keyHash (v : Vangeg) : Nat := fromLE (((v.bnd.fuses.drop 2).take 6).flatMap (bytesLE 8))

/-- DBG_AUTH_SUBMIT (R561): the last word of PROT_DBG_SIG completes the signature `sig`. -/
def execDbgAuthSubmit (p : Part) (r : Req) (sig : Nat) (s : State) : Res :=
  onPart p (fun v => v.ruled r 0x3860 5 sig (fun y => ruleV (ruleDbgSig y.keyHash sig) y))
    (fun x => x.ruled r 0x3860 5 sig (fun y => ruleX (ruleDbgSig y.pkg.fuseKeyHash sig) y)) s

/-- An authorisation ends (R563). -/
def Common.endDebug (c : Common kd) : Common kd :=
  if c.dbg.expiry.isSome then
    ((c.onDbg (fun d => { d with expiry := none, scope := 0 })).setReg 0x3860 6 0).setReg 0x3860 7 0
  else c

/-- PROT_DBG_END (R563). -/
def ruleDbgEnd (x : Nat) (c : Common kd) : Common kd × Option Abort :=
  if x = 1 then (c.endDebug, none) else (c, some .value)

/-- DBG_AUTH_END (R563). -/
def execDbgAuthEnd (p : Part) (r : Req) (v : Nat) (s : State) : Res := writeBoth p r 0x3860 8 v (ruleDbgEnd v) s

/-- The expiry instant arrives (R563). -/
def Common.debugExpiry (c : Common kd) : Common kd :=
  match c.dbg.expiry with
  | some e => (c.arrive e).endDebug
  | none => c

/-- DBG_AUTH_EXPIRY (R563). -/
def execDbgAuthExpiry (p : Part) (s : State) : Res := onC p Common.debugExpiry s

/-- 60 s after four consecutive failures (R563). -/
def Common.lockoutEnd (c : Common kd) : Common kd :=
  match c.dbg.lockedUntil with
  | some t =>
    let c1 := (c.arrive t).onDbg (fun d => { d with lockedUntil := none, failures := 0 })
    if c1.reg 0x3860 6 = 4 then c1.setReg 0x3860 6 0 else c1
  | none => c

/-- DBG_LOCKOUT_END (R563). -/
def execDbgLockoutEnd (p : Part) (s : State) : Res := onC p Common.lockoutEnd s

/-! ## Interrupt addresses (R566) -/

/-- An interrupt address: 64-byte aligned. -/
def ruleIntrAddr (idx sub x : Nat) (c : Common kd) : Common kd × Option Abort :=
  if x % 64 ≠ 0 then (c, some .value) else (c.setReg idx sub x, none)

end Sys2Proof.Machine
end

