-- ==== Sys2Proof/Machine/Boundary.lean ====
section
/-! DEFINITION. Power islands, resets and bring-up of a Vangeg (03_vangeg_boundary.md). -/

namespace Sys2Proof.Machine

variable {kd : Part}

/-! ## Islands (R116 to R122) -/

/-- Writes VG_PWR_STATE of an island. -/
def Common.setIslandState (c : Common kd) (i n : Nat) : Common kd := c.setReg 0x1100 (i + 1) n

/-- The save of an island begins (R117): its cells freeze, captures in it end, its sources emit POWER, and a test in it
is aborted (R122). -/
def Vangeg.beginSave (v : Vangeg) (i : Nat) (warm : Bool) : Vangeg :=
  let v0 := v.onC (fun c => c.abortTest (if warm then 10 else 4) (fun b => decide (c.blockIsland b = i)))
  let v1 := (v0.freezeCaptures i).onC (fun c => c.setIslandState i 1)
  let v2 := v1.setIsland i { v1.island i with changedAt := v1.c.now, gatedAt := v1.c.now, eccBad := false, warm := warm }
  (v2.islandSrcs i).foldl (Vangeg.freezeSrc (if warm then 2 else 0)) v2

/-- The restore of an island begins (R119). -/
def Vangeg.beginRestore (v : Vangeg) (i : Nat) : Vangeg :=
  let q := v.island i
  let gated := (v.c.now - q.gatedAt) / usT 1
  (v.setIsland i { q with changedAt := v.c.now }).onC (fun c => (c.setIslandState i 3).addReg 0x2C00 7 gated)

/-- PWR_REQ of an island rises (R117, R120): On begins a save; Restoring remembers; an island saved for a host warm
reset is acknowledged as it stands. -/
def Vangeg.pwrRise (i : Nat) (v : Vangeg) : Vangeg :=
  let v1 := v.onC (fun c => c.setPin (.pwrReq i) 1)
  if !v.bnd.pllLocked then v1
  else match v1.c.islandState i with
    | 0 => v1.beginSave i false
    | 2 => if (v1.island i).warm then
        (v1.setIsland i { v1.island i with warm := false }).onC (fun c => c.setPin (.pwrAck i) 1) else v1
    | _ => v1

/-- PWR_REQ_RISE (R117). -/
def execPwrReqRise (island : Nat) (s : State) : Res := onV (Vangeg.pwrRise island) s

/-- The last word of an island is saved (R117, R212): `moved` bytes of each source's front end reached the assembler. A
PWR_REQ that has fallen meanwhile restores at once (R120). -/
def Vangeg.saveComplete (i moved : Nat) (v : Vangeg) : Vangeg :=
  if v.c.islandState i ≠ 1 then v
  else
    let q := v.island i
    let took := (v.c.now - q.changedAt) / ns % 2 ^ 32
    let v1 := v.onC (fun c => ((c.setIslandState i 2).setReg 0x1101 0 (max took (c.reg 0x1101 0))).baseline 47)
    let v2 := (v1.islandSrcs i).foldl (Vangeg.poweredSrc moved) v1
    let ack := !q.warm || decide (v2.c.pin (.pwrReq i) = 1)
    let v3 := if ack then (v2.setIsland i { v2.island i with warm := false }).onC (fun c => c.setPin (.pwrAck i) 1) else v2
    if ack && decide (v3.c.pin (.pwrReq i) = 0) then v3.beginRestore i else v3

/-- ISLAND_SAVE_COMPLETE (R117). -/
def execIslandSaveComplete (island moved : Nat) (s : State) : Res := onV (Vangeg.saveComplete island moved) s

/-- PWR_REQ of an island falls (R119, R120). -/
def Vangeg.pwrFall (i : Nat) (v : Vangeg) : Vangeg :=
  let v1 := v.onC (fun c => c.setPin (.pwrReq i) 0)
  if v.bnd.pllLocked ∧ v1.c.islandState i = 2 ∧ ¬ (v1.island i).warm then v1.beginRestore i else v1

/-- PWR_REQ_FALL (R119). -/
def execPwrReqFall (island : Nat) (s : State) : Res := onV (Vangeg.pwrFall island) s

/-- The last saved word is restored (R119): cells whose save store failed are LOST (R187), sources wake (R213), and a
PWR_REQ that has risen meanwhile begins a new save (R120), as does a host warm reset that waits for the handshake (R134). -/
def Vangeg.restoreComplete (i : Nat) (v : Vangeg) : Vangeg :=
  if v.c.islandState i ≠ 3 then v
  else
    let q := v.island i
    let v0 := if q.eccBad then (v.islandCells i).foldl Vangeg.loseCell v else v
    let v1 := (v0.setIsland i { q with eccBad := false, warm := q.warm && v0.bnd.warmRestoring }).onC (fun c =>
      (c.setIslandState i 0).setPin (.pwrAck i) 0)
    let v2 := (v1.islandSrcs i).foldl Vangeg.wakeSrc v1
    if v2.c.pin (.pwrReq i) = 1 then v2.beginSave i false
    else if v2.bnd.warmSince.isSome && !v2.bnd.warmRestoring then v2.beginSave i true
    else v2

/-- ISLAND_RESTORE_COMPLETE (R119). -/
def execIslandRestoreComplete (island : Nat) (s : State) : Res := onV (Vangeg.restoreComplete island) s

/-- A block clock stopped for 4 µs during Saving or Restoring (R120): the cells are lost and the handshake completes. -/
def Vangeg.clockStop (i : Nat) (v : Vangeg) : Vangeg :=
  let st := v.c.islandState i
  if st ≠ 1 ∧ st ≠ 3 then v
  else
    let v1 := v.onC (fun c => ((c.arrive ((v.island i).changedAt + usT 4)).bump 0x1102 0).baseline 48)
    let v2 := (v1.islandCells i).foldl Vangeg.loseCell v1
    if st = 1 then v2.saveComplete i 0 else v2.restoreComplete i

/-- PWR_CLOCK_STOP_TIMEOUT (R120). -/
def execPwrClockStopTimeout (island : Nat) (s : State) : Res := onV (Vangeg.clockStop island) s

/-- Islands of the integration. -/
def Common.islands (c : Common kd) : List Nat := List.range (c.reg 0x1021 0)

/-! ## Host warm reset (R132 to R134) -/

/-- Responses of register-port requests still outstanding at an instant. -/
def Common.hrpOutstanding (c : Common kd) : Nat :=
  if c.ctl.accepted = c.now then (c.ctl.outstanding.filter (fun o => decide (o.1 = .hrp))).length else 0

/-- WRST_REQ rises (R132): islands On are saved, every slice is reset, outstanding responses are discarded, the debug
authorisation ends (R563) and a test is aborted (R134). -/
def Vangeg.warmRequest (v : Vangeg) : Vangeg :=
  if v.bnd.warmSince.isSome then v
  else
    let n := v.c.hrpOutstanding
    let v0 := v.onC (fun c =>
      let c1 := (((c.setPin .wrstReq 1).abortTest 10 (fun _ => true)).endDebug).discardStagings (fun _ => true)
      { (if n = 0 then c1 else c1.addReg 0x1027 0 n) with ctl := { c1.ctl with
        outstanding := c1.ctl.outstanding.filter (fun o => decide (o.1 ≠ .hrp)) } })
    let v1 := { v0 with bnd := { v0.bnd with warmSince := some v0.c.now, warmRestoring := false } }
    let v2 := (v1.c.islands.filter (fun i => decide (v1.c.islandState i = 0))).foldl (fun a i => a.beginSave i true) v1
    (List.range 64).foldl (Vangeg.resetSlice false) v2

/-- WARM_RESET_REQUEST (R132). -/
def execWarmResetRequest (s : State) : Res := onV Vangeg.warmRequest s

/-- Whether a save, a restore or a slice reset is in progress. -/
def Vangeg.warmBusy (v : Vangeg) : Bool :=
  v.c.islands.any (fun i => decide (v.c.islandState i = 1 ∨ v.c.islandState i = 3)) ||
    (List.range 64).any (fun s => decide (v.sliceState s = 2))

/-- WARM_RESET_SAVE_DONE (R132): WRST_ACK rises. -/
def execWarmResetSaveDone (s : State) : Res :=
  onV (fun v => if v.bnd.warmSince.isSome && !v.bnd.warmRestoring && !v.warmBusy then v.onC (fun c => c.setPin .wrstAck 1)
    else v) s

/-- WRST_REQ falls (R133): islands whose PWR_REQ is 0 are restored. -/
def Vangeg.warmRelease (v : Vangeg) : Vangeg :=
  if v.bnd.warmSince.isNone ∨ v.c.pin .wrstAck = 0 then v
  else
    let v1 := ({ v with bnd := { v.bnd with warmRestoring := true } }).onC (fun c =>
      ((c.setPin .wrstReq 0).bump 0x1104 0).baseline 46)
    (v1.c.islands.filter (fun i => decide (v1.c.islandState i = 2) && (v1.island i).warm && decide (v1.c.pin (.pwrReq i) = 0))).foldl
      Vangeg.beginRestore v1

/-- WARM_RESET_RELEASE (R133). -/
def execWarmResetRelease (s : State) : Res := onV Vangeg.warmRelease s

/-- WARM_RESET_RESTORE_DONE (R133): WRST_ACK falls. -/
def execWarmResetRestoreDone (s : State) : Res :=
  onV (fun v =>
    if v.bnd.warmRestoring && !(v.c.islands.any (fun i => decide (v.c.islandState i = 3))) then
      let islands := v.bnd.islands.map (fun q => (q.1, { q.2 with warm := false }))
      { v with bnd := { v.bnd with warmSince := none, warmRestoring := false, islands := islands }, c := v.c.setPin .wrstAck 0 }
    else v) s

/-! ## Cold reset (R131, R135, R136) -/

/-- Whether word 63 of the fuses matches words 0 to 23 and 48 to 62. -/
def fusesMatch (f : List Nat) : Bool :=
  decide (nth 0 f 63 % 2 ^ 32 = crc32c ((f.take 24 ++ (f.drop 48).take 15).flatMap (bytesLE 8)))

/-- Reads and checks the fuses (R135): privilege ceiling, access matrix, repair entries; a fault restricts the part. -/
def Vangeg.readFuses (v : Vangeg) (timeout : Bool) : Vangeg :=
  let f := v.bnd.fuses
  let v := v.onC (fun c => (c.setReg 0x1000 3 (nth 0 f 0)).setReg 0x1010 0 (0x0FFFFF1F + nth 0 f 0 % 8 * 32))
  if timeout then v.onC (fun c => c.setReg 0x1023 0 2)
  else if !fusesMatch f then v.onC (fun c => c.setReg 0x1023 0 1)
  else
    let c0 := (v.c.setReg 0x1023 0 0).setReg 0x1022 0 (if bitOf (nth 0 f 1) 0 then 1 else 2)
    let c1 := (List.range 64).foldl (fun c i => c.setReg 0x3801 (i + 1) (nth 0 f (8 + i / 4) / 2 ^ (16 * (i % 4)) % 2 ^ 16)) c0
    { v with c := (List.range 24).foldl (fun c i => c.setReg 0x3571 (i + 1) (nth 0 f (24 + i))) c1 }

/-- Objects that hold constants of the integration descriptor (R143): blocks, islands, trace sources and signature taps. -/
def integrationKey (k : Nat) : Bool := decide (k / 256 = 0x1020 ∨ k / 256 = 0x1021 ∨ k = 0x110000 ∨ k = 0x300001 ∨ k = 0x360001)

/-- What a cold reset leaves as it was: fuses, descriptor, input pins, and the model's own log and counter. -/
def Vangeg.coldReset (timeout : Bool) (v : Vangeg) : Vangeg :=
  let r := State.reset.vg
  let inputs := v.c.pins.filter (fun p => match p.1 with | .pwrReq _ => true | _ => false)
  let v1 := { r with
    c := { r.c with dict := v.c.dict.filter (fun e => integrationKey e.1), out := v.c.out, fresh := v.c.fresh, pins := r.c.pins ++ inputs },
    bnd := { r.bnd with fuses := v.bnd.fuses } }
  v1.readFuses timeout

/-- VANGEG_COLD_RESET (R131, R135): VG_CRST_N rises; `timeout` says that the fuse controller did not answer in time. -/
def execVangegColdReset (timeout : Bool) (s : State) : Res :=
  .next (if s.vg.bnd.inReset then { s with vg := (s.vg.coldReset timeout).flush } else s)

/-- VANGEG_RESET_ASSERT (R125): VG_CRST_N is low, FENCE_OUT is 1. -/
def execVangegResetAssert (s : State) : Res :=
  .next { s with vg := Vangeg.flush { s.vg with
    bnd := { s.vg.bnd with inReset := true, pllLocked := false }, c := s.vg.c.setPin .vgCrstN 0 } }

/-- The hub PLL locks (R131): PWR_ACK follows PWR_REQ with zero counts saved, the register port and the I3C target
open, lane training begins, and the first record is the boot record (R507), of a reset pin. -/
def Vangeg.pllLock (v : Vangeg) : Vangeg :=
  if v.bnd.pllLocked then v else
  let v1 := { v with bnd := { v.bnd with pllLocked := true } }
  let v2 := v1.c.islands.foldl (fun a i =>
    a.onC (fun c => (c.setPin (.pwrAck i) (c.pin (.pwrReq i))).setIslandState i (if c.pin (.pwrReq i) = 1 then 2 else 0))) v1
  v2.onC (fun c => (List.range c.portCount).foldl (fun a p => a.startTraining p) (if c.reg 0x3707 1 = 0 then (c.setPin .hrpReady 1).bootRecord 1 0 else c.setPin .hrpReady 1))

/-- HUB_PLL_LOCK (R131). -/
def execHubPllLock (s : State) : Res := onV Vangeg.pllLock s

end Sys2Proof.Machine
end

