-- ==== Sys2Proof/Machine/Recorder.lean ====
section
/-! DEFINITION. Event recorders and the history store (15_history_and_recorder.md): the windows on the logs and rings,
forwarding, hours and counts, persistence, and the faults of the stores. -/

namespace Sys2Proof.Machine

variable {kd : Part}

/-! ## Logs (R496 to R498) -/

/-- The log that REC_LOG_SEL selects: its records, next POS and removals. -/
def Common.selectedLog (c : Common kd) : List Record × Nat × Nat :=
  if c.reg 0x3701 0 = 1 then (c.log.persistentLog, c.log.persistentNext, c.log.persistentRemoved)
  else (c.log.volatileLog, c.log.volatileNext, c.log.volatileRemoved)

/-- REC_POS entries of the selected log: 1 oldest, 2 next, 3 removals. -/
def Common.recPos (c : Common kd) (sub : Nat) : Nat :=
  let q := c.selectedLog
  match sub with
  | 1 => (match q.1 with | [] => q.2.1 | r :: _ => r.pos)
  | 2 => q.2.1
  | _ => q.2.2

/-- The 8-byte words of a list of bytes padded with zeros. -/
def words8 : Nat → List Nat → List Nat
  | 0, _ => []
  | n + 1, l => fromLE (l.take 8) :: words8 n (l.drop 8)

/-- All the words of a list of bytes. -/
def toWords (l : List Nat) : List Nat := words8 ((l.length + 7) / 8) l

/-- The lead or tail word of a record (R498). -/
def Common.recMark (c : Common kd) (pos : Nat) : Nat := pos % 2 ^ 32 + c.selectedLog.2.2 % 2 ^ 32 * 2 ^ 32

/-- The next word of REC_READ (R498). -/
def Common.recWord (c : Common kd) : Common kd × Except Abort Nat :=
  match c.log.readPos with
  | some pos =>
    (match c.log.reading with
     | w :: rest => ({ c with log := { c.log with reading := rest } }, .ok w)
     | [] => (({ c with log := { c.log with readPos := none } }).setReg 0x3702 0 (pos + 1), .ok (c.recMark pos)))
  | none =>
    if c.selectedLog.2.1 ≤ c.reg 0x3702 0 then (c, .error .state)
    else match c.selectedLog.1.find? (fun r => decide (c.reg 0x3702 0 ≤ r.pos)) with
      | none => (c, .error .state)
      | some r =>
        ({ c with log := { c.log with readPos := some r.pos, reading := toWords r.bytes } }, .ok (c.recMark r.pos))

/-- Reads up to n words of a window; the words read before the first refusal. -/
def readWords {α : Type} (next : α → α × Except Abort Nat) : Nat → α → α × List Nat × Option Abort
  | 0, a => (a, [], none)
  | n + 1, a =>
    match next a with
    | (b, .error e) => (b, [], some e)
    | (b, .ok w) =>
      let q := readWords next n b
      (q.1, w :: q.2.1, if q.2.1 = [] then none else q.2.2)

/-- Whether REC_READ has more bytes (R586). -/
def Common.recMore (c : Common kd) : Bool :=
  c.log.readPos.isSome || c.selectedLog.1.any (fun r => decide (c.reg 0x3702 0 ≤ r.pos))

/-- Answers a windowed BLOCK_READ: the words read, or the refusal. -/
def Common.answerWords (c : Common kd) (r : Req) (idx sub : Nat) (ws : List Nat) (e : Option Abort) (more : Bool) : Common kd :=
  match ws, e with
  | [], some a => c.answer r .blockRead idx sub (some a) 0 0 false
  | _, _ => c.answer r .blockRead idx sub none (fromLE (ws.flatMap (bytesLE 8))) (8 * ws.length) more

/-- A BLOCK_READ of REC_READ (R498). -/
def Common.recRead (r : Req) (words : Nat) (c : Common kd) : Common kd :=
  match c.gate r 0x3703 0 false true with
  | some a => c.answer r .blockRead 0x3703 0 (some a) 0 0 false
  | none =>
    let q := readWords Common.recWord words c
    q.1.answerWords r 0x3703 0 q.2.1 q.2.2 q.1.recMore

/-- REC_READ (R498): a BLOCK_READ of so many words. -/
def execRecRead (p : Part) (r : Req) (words : Nat) (s : State) : Res := onC p (Common.recRead r words) s

/-- A write of REC_LOG_SEL or REC_CURSOR ends the read of a record in progress. -/
def ruleRecSelect (idx v : Nat) (c : Common kd) : Common kd × Option Abort :=
  if idx = 0x3701 ∧ (1 < v ∨ (v = 1 ∧ c.kind = .vangeg)) then (c, some .value)
  else ({ c with log := { c.log with readPos := none, reading := [] } }).store idx 0 v

/-- A record type that is not reserved (Table 15-4). -/
def recordTypeOk (t : Nat) : Bool := decide (1 ≤ t ∧ t ≤ 8)

/-- EVENT_RECORD_STORE (R494, R497): a unit of the part creates a record. -/
def execEventRecordStore (p : Part) (sev type : Nat) (payload : List Nat) (s : State) : Res :=
  onC p (fun c =>
    if recordTypeOk type && decide (sev ≤ 3) && decide (recordLen payload ≤ 228) then c.createRecord sev type payload
    else c.bump 0x3705 5) s

/-! ## Forwarding (R499, R500) -/

/-- A record read from its bytes, when LENGTH, TYPE and CRC are good (R494). -/
def parseRecord (b : List Nat) : Option Record :=
  let n := fromLE (b.take 2)
  let payload := (b.drop 16).take (n - 20)
  let type := nth 0 b 3
  if n = b.length ∧ n % 4 = 0 ∧ 20 ≤ n ∧ n ≤ 228 ∧ recordTypeOk type ∧ fromLE (b.drop (n - 4)) = crc32c (b.take (n - 4)) then
    some { pos := 0, sev := nth 0 b 2 % 4, type := type, seq := fromLE ((b.drop 4).take 4),
           ophours := fromLE ((b.drop 8).take 4), pcycles := fromLE ((b.drop 12).take 4),
           phys := fromLE ((payload.drop (if type = 1 then 8 else 0)).take 4), payload := payload }
  else none

/-- A forwarded record arrives at a tray (R500): stored once, and answered. -/
def Common.forwardedRecord (port pos : Nat) (bytes : List Nat) (c : Common kd) : Common kd :=
  match parseRecord bytes with
  | none => c.bump 0x3705 5
  | some r =>
    let seen := lookupD [] c.log.seen port
    let id := (r.phys, r.pcycles, r.seq)
    let c1 := if id ∈ seen then c
      else ({ c with log := { c.log with seen := putKey c.log.seen port ((id :: seen).take 64) } }).storeRecord r
    c1.control (.port port) 0x71 ([0, 0, 0] ++ bytesLE 4 pos)

/-- FORWARDED_RECORD_RX (R500). -/
def execForwardedRecordRx (port pos : Nat) (bytes : List Nat) (s : State) : Res :=
  onX (fun x => x.onC (Common.forwardedRecord port pos bytes)) s

/-- FORWARD_ACK_RX (R499): the tray on a port has answered. -/
def execForwardAckRx (port pos : Nat) (s : State) : Res :=
  onV (fun v => v.onC (fun c => { c with log := { c.log with
    forwards := c.log.forwards.filter (fun f => !decide (f.1 % 2 ^ 32 = pos ∧ f.2.1 = port)) } })) s

/-- No answer within 1 ms (R499): the record is sent again, up to 8 times in all. -/
def Common.forwardResend (port pos : Nat) (c : Common kd) : Common kd :=
  match c.log.forwards.find? (fun f => decide (f.1 = pos ∧ f.2.1 = port)),
        c.log.volatileLog.find? (fun r => decide (r.pos = pos)) with
  | some f, some r =>
    let c1 := c.arrive f.2.2.2
    let rest := c1.log.forwards.filter (fun g => !decide (g.1 = pos ∧ g.2.1 = port))
    if f.2.2.1 < 8 then
      ({ c1 with log := { c1.log with forwards := rest ++ [(pos, port, f.2.2.1 + 1, c1.now + msT 1)] } }).control (.port port) 0x70
        ([0, 0, 0] ++ bytesLE 4 pos ++ r.bytes)
    else ({ c1 with log := { c1.log with forwards := rest } }).bump 0x3705 7
  | _, _ => c

/-- FORWARD_RESEND_TIMEOUT (R499). -/
def execForwardResendTimeout (port pos : Nat) (s : State) : Res :=
  onV (fun v => v.onC (Common.forwardResend port pos)) s

/-! ## Hours and power cycles (R501 to R505) -/

/-- An entry of the die table. -/
abbrev DieEntry := Nat × Nat × Nat × Nat × Bool

/-- The entry of a serial. -/
def Shopostra.dieEntry (x : Shopostra) (serial : Nat) : Option DieEntry :=
  x.mgt.dies.find? (fun d => decide (d.1 = serial))

/-- Writes the entry of its serial, in place of the one with the oldest LAST_SEEN when the table is full (R503). -/
def Shopostra.putDie (x : Shopostra) (d : DieEntry) : Shopostra :=
  let set := fun (y : Shopostra) l => { y with mgt := { y.mgt with dies := l } }
  match x.dieEntry d.1 with
  | some _ => set x (x.mgt.dies.map (fun e => if e.1 = d.1 then d else e))
  | none =>
    if x.mgt.dies.length < 4096 then set x (x.mgt.dies ++ [d])
    else
      match x.mgt.dies with
      | [] => x
      | e0 :: _ =>
        let old := x.mgt.dies.foldl (fun (m e : DieEntry) => if e.2.2.2.1 < m.2.2.2.1 then e else m) e0
        (set x (x.mgt.dies.filter (fun e => decide (e.1 ≠ old.1)) ++ [d])).onC (fun c => c.reportCode 0 0x0F04 old.1)

/-- Writes the counters journal (R505): this part's counts and the die table. -/
def Shopostra.writeJournal (x : Shopostra) : Shopostra :=
  let counts := (x.c.reg 0x3707 3, x.c.reg 0x3707 2)
  { x with
    mgt := { x.mgt with journalCounts := counts, diesNor := x.mgt.dies },
    c := x.c.send (.program 0 0x03000000 [counts.1, counts.2]) }

/-- COUNTERS_JOURNAL_WRITE (R505). -/
def execCountersJournalWrite (s : State) : Res := onX Shopostra.writeJournal s

/-- A write of the power cycles of REC_DIE_SET (R503). -/
def ruleDieSet (v : Nat) (x : Shopostra) : Shopostra × Option Abort :=
  if x.c.reg 0x1012 0 ≠ 0 then (x, some .state)
  else
    let serial := x.c.reg 0x3711 1
    let seen := match x.dieEntry serial with | some d => d.2.2.2.1 | none => 0
    (((x.onC (fun c => c.setReg 0x3711 3 v)).putDie (serial, v, x.c.reg 0x3711 2, seen, false)).writeJournal, none)

/-- REC_DIE_SET (R503). -/
def execRecDieSet (r : Req) (v : Nat) (s : State) : Res := onX (fun x => x.ruled r 0x3711 3 v (ruleDieSet v)) s

/-- DIE_COUNTS_RX (R502): the tray's record of TYPE 0x72. -/
def execDieCountsRx (pcycles hours : Nat) (s : State) : Res :=
  onV (fun v => v.onC (fun c =>
    let c1 := (c.setReg 0x3707 3 (pcycles % 2 ^ 32)).setReg 0x3707 2 (hours % 2 ^ 32)
    { c1 with log := { c1.log with hoursKnown := true } })) s

/-- 1/64 h of operation (R501, R502): this part's hours, and at a tray those of each die whose port is up. -/
def Shopostra.hoursTick (x : Shopostra) : Shopostra :=
  let x1 := x.onC (fun c => c.bump 0x3707 2)
  (x1.mgt.portDie.filter (fun q => x1.c.portUp q.1)).foldl (fun y q =>
    match y.dieEntry q.2.1 with
    | some d => y.putDie (d.1, d.2.1, (d.2.2.1 + 1) % 2 ^ 32, d.2.2.2)
    | none => y) x1

/-- OPHOURS_TICK (R501). -/
def execOphoursTick (p : Part) (s : State) : Res :=
  onPart p (fun v => if v.c.log.hoursKnown then v.onC (fun c => c.bump 0x3707 2) else v) Shopostra.hoursTick s

/-! ## Persistence (R506) -/

/-- The hour of the total nanosecond count. -/
def Common.hourNo (c : Common kd) : Nat := totalNs c.mode c.epoch c.now / 3600000000000

/-- Copies the oldest waiting record to NOR, within the hour's budget (R506). -/
def Common.persistCopy (c : Common kd) : Common kd :=
  match c.log.persistWaiting with
  | [] => c
  | pos :: rest =>
    let hour := c.hourNo
    let used := if hour = c.log.persistHour then c.log.persistBytes else 0
    let c1 : Common kd := { c with log := { c.log with persistWaiting := rest, persistHour := hour, persistBytes := used } }
    match c1.log.volatileLog.find? (fun r => decide (r.pos = pos)) with
    | none => c1
    | some r =>
      let n := recordLen r.payload
      if r.sev < 3 then
        if c1.reg 0x3706 2 < used + n then c1.bump 0x3706 3
        else ({ c1 with log := { c1.log with persistBytes := used + n } }).storePersistent r
      else c1.storePersistent r

/-- PERSIST_COPY (R506). -/
def execPersistCopy (s : State) : Res := onX (fun x => x.onC Common.persistCopy) s

/-! ## History rings (R485 to R491) -/

/-- A FREE ring. -/
def ringFree : HistRing :=
  { state := 0, entry := 0, session := 0, units := 0, next := 0, overwritten := 0, records := [], retainedAt := 0 }

/-- Ring 0 before its first record: the replay ring, of one unit at all times. -/
def ringReplay : HistRing := { ringFree with state := 1, units := 1 }

/-- A ring. -/
def Shopostra.hring (x : Shopostra) (k : Nat) : HistRing := lookupD (if k = 0 ∧ x.hist.lost = false then ringReplay else ringFree) x.hist.rings k

/-- Units of WRITING rings. -/
def Shopostra.unitsBound (x : Shopostra) : Nat :=
  ((List.range 256).map (fun k => if (x.hring k).state = 1 then (x.hring k).units else 0)).sum

/-- Units of WRITING and RETAINED rings. -/
def Shopostra.unitsHeld (x : Shopostra) : Nat := ((List.range 256).map (fun k => (x.hring k).units)).sum

/-- HIST_UNITS_FREE: units of rings FREE or RETAINED. -/
def Shopostra.unitsFree (x : Shopostra) : Nat := if x.hist.lost then 0 else 2016 - x.unitsBound

/-- Writes a ring. -/
def Shopostra.setHring (x : Shopostra) (k : Nat) (q : HistRing) : Shopostra :=
  { x with hist := { x.hist with rings := putKey x.hist.rings k q } }

/-- Bytes a ring record takes (R489). -/
def RingRecord.len (r : RingRecord) : Nat := (32 + r.message.length + 63) / 64 * 64

/-- Removes whole records, oldest first, until `n` bytes fit in `cap`. -/
def ringRoom (cap n : Nat) : List RingRecord → List RingRecord
  | [] => []
  | r :: l => if ((r :: l).map RingRecord.len).sum + n ≤ cap then r :: l else ringRoom cap n l

/-- Appends an output message to a ring (R489). -/
def Shopostra.ringAppend (x : Shopostra) (k : Nat) (replay : Bool) (entry session instant : Nat) (message : List Nat) :
    Shopostra :=
  if x.hist.lost then x
  else
    let q := x.hring k
    let r : RingRecord :=
      { rpos := q.next, replay := replay, bad := false, entry := entry, session := session, instant := instant, message := message }
    let kept := ringRoom (q.units * 67108864) r.len q.records
    let gone := q.records.length - kept.length
    let unsent := (q.records.take gone).filter (fun o => decide (lookupD 0 x.mgt.exportRing k ≤ o.rpos))
    let x1 := x.setHring k { q with next := q.next + 1, overwritten := q.overwritten + gone, records := kept ++ [r] }
    if unsent = [] then x1 else x1.onC (fun c => c.addReg 0x7120 3 unsent.length)

/-- Units of a ring at binding (R487). -/
def ringUnits (rate retain : Nat) : Nat := max 1 ((rate * 125000 * retain + 67108863) / 67108864)

/-- Returns the ring RETAINED longest to FREE. -/
def Shopostra.reclaim (x : Shopostra) : Shopostra :=
  let held := (List.range 256).filter (fun k => decide ((x.hring k).state = 2))
  match held with
  | [] => x
  | k0 :: _ =>
    let k := held.foldl (fun m j => if (x.hring j).retainedAt < (x.hring m).retainedAt then j else m) k0
    x.setHring k ringFree

/-- Binds the lowest FREE ring to an entry, reclaiming RETAINED rings while units or a ring are short (R486). -/
def Shopostra.bindRing (x : Shopostra) (entry session units : Nat) : Shopostra × Option Nat :=
  let short := fun (y : Shopostra) => decide (2016 < y.unitsHeld + units) ||
    !((List.range 256).any (fun k => decide ((y.hring k).state = 0)))
  let x1 := (List.range 256).foldl (fun y _ => if short y then y.reclaim else y) x
  match (List.range 256).find? (fun k => decide ((x1.hring k).state = 0)) with
  | none => (x1, none)
  | some k =>
    let x2 := x1.setHring k { ringFree with state := 1, entry := entry, session := session, units := units }
    ({ x2 with mgt := { x2.mgt with exportRing := dropKey x2.mgt.exportRing k } }, some k)

/-- The ring bound to an entry. -/
def Shopostra.ringOf (x : Shopostra) (entry : Nat) : Option Nat :=
  (List.range 256).find? (fun k => decide (k ≠ 0 ∧ (x.hring k).state = 1 ∧ (x.hring k).entry = entry))

/-- An entry is freed: its ring becomes RETAINED (R486). -/
def Shopostra.retainRing (x : Shopostra) (entry : Nat) : Shopostra :=
  match x.ringOf entry with
  | none => x
  | some k =>
    { x.setHring k { x.hring k with state := 2, retainedAt := x.hist.retainNext } with
      hist := { (x.setHring k { x.hring k with state := 2, retainedAt := x.hist.retainNext }).hist with
        retainNext := x.hist.retainNext + 1 } }

/-- The oldest RPOS of a ring. -/
def HistRing.oldest (q : HistRing) : Nat := match q.records with | [] => q.next | r :: _ => r.rpos

/-- HIST_RING of the selected ring (Table 15-13). -/
def Shopostra.histRing (x : Shopostra) (sub : Nat) : Nat :=
  let q := x.hring (x.c.reg 0x7110 0)
  match sub with
  | 1 => q.state
  | 2 => q.entry
  | 3 => q.session
  | 4 => q.units
  | 5 => q.oldest
  | 6 => q.next
  | 7 => q.overwritten
  | _ => 7

/-- Ends the read of a ring record in progress. -/
def Shopostra.endRingRead (x : Shopostra) : Shopostra := { x with hist := { x.hist with readPos := none, reading := [] } }

/-- A write of HIST_RING_SEL or HIST_CURSOR. -/
def ruleHistSelect (idx v : Nat) (x : Shopostra) : Shopostra × Option Abort :=
  let q := x.endRingRead.c.store idx 0 v
  ({ x.endRingRead with c := q.1 }, q.2)

/-- HIST_SEEK (R490): the oldest record at or after the instant. -/
def ruleHistSeek (v : Nat) (x : Shopostra) : Shopostra × Option Abort :=
  let t := totalNs x.c.mode x.c.epoch (x.c.timeOf v)
  let q := x.hring (x.c.reg 0x7110 0)
  let n := match q.records.find? (fun r => decide (t ≤ r.instant)) with
    | some r => r.rpos
    | none => q.next
  (x.endRingRead.onC (fun c => c.setReg 0x7113 0 n), none)

/-- HIST_SEEK (R490). -/
def execHistSeek (r : Req) (v : Nat) (s : State) : Res := onX (fun x => x.ruled r 0x7112 0 v (ruleHistSeek v)) s

/-- The bytes of a ring record (Table 15-2): a BAD record's message reads as zeros (R509). -/
def RingRecord.bytes (r : RingRecord) : List Nat :=
  let msg := if r.bad then r.message.map (fun _ => 0) else r.message
  let head := fun crc => [0x68, b2n r.replay + 2 * b2n r.bad] ++ bytesLE 2 r.entry ++ bytesLE 4 r.session ++
    bytesLE 8 r.instant ++ bytesLE 4 r.message.length ++ List.replicate 4 0 ++ bytesLE 4 crc ++ List.replicate 4 0
  head (crc32c (head 0 ++ msg)) ++ msg ++ List.replicate (r.len - 32 - r.message.length) 0

/-- The next word of HIST_READ (R491). -/
def Shopostra.histWord (x : Shopostra) : Shopostra × Except Abort Nat :=
  let q := x.hring (x.c.reg 0x7110 0)
  if q.state = 0 then (x.endRingRead, .error .state) else
  match x.hist.readPos with
  | some pos =>
    (match x.hist.reading with
     | w :: rest => ({ x with hist := { x.hist with reading := rest } }, .ok w)
     | [] => ({ x with hist := { x.hist with readPos := none }, c := x.c.setReg 0x7113 0 (pos + 1) }, .ok q.oldest))
  | none =>
    if q.next ≤ x.c.reg 0x7113 0 then (x, .error .state)
    else match q.records.find? (fun r => decide (x.c.reg 0x7113 0 ≤ r.rpos)) with
      | none => (x, .error .state)
      | some r => ({ x with hist := { x.hist with readPos := some r.rpos, reading := toWords r.bytes } }, .ok r.rpos)

/-- Whether HIST_READ has more bytes (R586). -/
def Shopostra.histMore (x : Shopostra) : Bool :=
  x.hist.readPos.isSome ||
    (x.hring (x.c.reg 0x7110 0)).records.any (fun r => decide (x.c.reg 0x7113 0 ≤ r.rpos))

/-- A BLOCK_READ of HIST_READ (R491). -/
def Shopostra.histRead (r : Req) (words : Nat) (x : Shopostra) : Shopostra :=
  match x.c.gate r 0x7114 0 false true with
  | some a => x.onC (fun c => c.answer r .blockRead 0x7114 0 (some a) 0 0 false)
  | none =>
    let q := readWords Shopostra.histWord words x
    q.1.onC (fun c => c.answerWords r 0x7114 0 q.2.1 q.2.2 q.1.histMore)

/-- HIST_READ (R491): a BLOCK_READ of so many words. -/
def execHistRead (r : Req) (words : Nat) (s : State) : Res := onX (Shopostra.histRead r words) s

/-! ## Export (R492, R544) -/

/-- The management Ethernet ports that outbound traffic uses (R544). -/
def Common.outboundPorts (c : Common kd) : List Nat :=
  if c.reg 0x7211 0 = 1 then (List.range 2).filter (fun k => decide (c.reg 0x7212 (k + 1) = 1))
  else if c.reg 0x7212 1 = 1 then [0]
  else if c.reg 0x7212 2 = 1 then [1] else []

/-- Sends a datagram to the export destination. -/
def Common.export_ (c : Common kd) (udp : Nat) (bytes : List Nat) : Common kd :=
  c.outboundPorts.foldl (fun a k => a.send (.datagram k udp (c.reg 0x7210 6) bytes)) c

/-- Exports the next stored record (none), or the next record of a ring, while the image runs whole and a link is up. -/
def Shopostra.exportNext (ring : Option Nat) (x : Shopostra) : Shopostra :=
  if x.c.reg 0x7200 1 ≠ 3 ∨ x.c.outboundPorts = [] then x
  else match ring with
    | none =>
      (match x.c.log.volatileLog.find? (fun r => decide (x.mgt.exportPos ≤ r.pos)) with
       | none => x
       | some r => { x with c := x.c.export_ 47101 r.bytes, mgt := { x.mgt with exportPos := r.pos + 1 } })
    | some k =>
      match (x.hring k).records.find? (fun r => decide (lookupD 0 x.mgt.exportRing k ≤ r.rpos)) with
      | none => x
      | some r => { x with c := x.c.export_ 47102 r.bytes,
                           mgt := { x.mgt with exportRing := putKey x.mgt.exportRing k (r.rpos + 1) } }

/-- EXPORT_SEND (R492, R544). -/
def execExportSend (ring : Option Nat) (s : State) : Res := onX (Shopostra.exportNext ring) s

/-! ## Faults of the stores (R509) -/

/-- An uncorrectable word in a ring record, or in the volatile log: `pos` is the record's RPOS or POS. -/
def Shopostra.historyEcc (ring : Option Nat) (pos addr : Nat) (x : Shopostra) : Shopostra :=
  let x1 := match ring with
    | some k =>
      let q := x.hring k
      x.setHring k { q with records := q.records.map (fun (r : RingRecord) => if r.rpos = pos then { r with bad := true } else r) }
    | none =>
      let kept := x.c.log.volatileLog.filter (fun (r : Record) => decide (r.pos ≠ pos))
      let n := x.c.log.volatileLog.length - kept.length
      x.onC (fun c => { c with log := { c.log with volatileLog := kept, volatileRemoved := c.log.volatileRemoved + n } })
  x1.onC (fun c => (c.bump 0x7120 2).reportCode 2 0x0F01 addr)

/-- HISTORY_ECC_ERROR (R509). -/
def execHistoryEccError (ring : Option Nat) (pos addr : Nat) (s : State) : Res := onX (Shopostra.historyEcc ring pos addr) s

/-- A NOR program or erase fails (R509): the sector is retired. -/
def execNorFailure (sector : Nat) (s : State) : Res :=
  onX (fun x => { x with
    mgt := { x.mgt with retired := x.mgt.retired ++ [sector] }, c := x.c.reportCode 2 0x0F02 (sector * 65536) }) s

end Sys2Proof.Machine
end

