-- ==== Sys2Proof/Machine/Management.lean ====
section
/-! DEFINITION. The management subsystem of a Shopostra (17_management.md): boot, recovery, update, resets, boot
parameters, calibration and links. The package's cold reset (20_package_and_power.md) begins it. -/

namespace Sys2Proof.Machine

variable {kd : Part}

/-- A change of the management record. -/
def Shopostra.onMgt (x : Shopostra) (f : Mgt → Mgt) : Shopostra := { x with mgt := f x.mgt }

/-! ## Calibration (R545 to R548) -/

/-- A byte of a calibration set held as 8-byte words. -/
def calByte (m : List (Nat × Nat)) (off : Nat) : Nat := lookupD 0 m (off / 8) / 256 ^ (off % 8) % 256

/-- A little-endian field of a calibration set. -/
def calField (m : List (Nat × Nat)) (off n : Nat) : Nat := fromLE ((List.range n).map (fun i => calByte m (off + i)))

/-- Bytes in a calibration set. -/
def calLength : Nat := 9216

/-- The bytes of a set with its CRC field at zero. -/
def calBytes (m : List (Nat × Nat)) : List Nat :=
  (List.range (calLength / 8)).flatMap (fun w => bytesLE 8 (if w = 1 then lookupD 0 m 1 % 2 ^ 32 else lookupD 0 m w))

/-- Whether MAGIC, VERSION, LENGTH and CRC of a set are right (R546). -/
def calGood (m : List (Nat × Nat)) : Bool :=
  decide (calField m 0 4 = fromLE [0x54, 0x4D, 0x5A, 0x43] ∧ calField m 4 1 = 1 ∧ calField m 8 4 = calLength) &&
    decide (calField m 12 4 = crc32c (calBytes m))

/-- An I32 cell, or 0 when absent. -/
def calI32 (m : List (Nat × Nat)) (off : Nat) : Nat :=
  let v := calField m off 4
  if v = 0x80000000 then 0 else v

/-- An I16 cell, or 0 when absent. -/
def calI16 (m : List (Nat × Nat)) (off : Nat) : Nat :=
  let v := calField m off 2
  if v = 0x8000 then 0 else v

/-- The values in use that no object shows: slots 0 to 47 port latency, 48 to 51 MDI latency, 52 oscillator trim, 100 to
195 optics bias, 200 to 231 thermal trims, 240 to 263 voltage trims. -/
def calInUse (m : List (Nat × Nat)) : List (Nat × Nat) :=
  (List.range 48).map (fun p => (p, calI32 m (224 + 4 * p))) ++ (List.range 4).map (fun k => (48 + k, calI32 m (416 + 4 * k))) ++
    [(52, calField m 432 4)] ++ (List.range 96).map (fun l => (100 + l, calField m (448 + 4 * l) 4)) ++
    (List.range 32).map (fun t => (200 + t, calI16 m (832 + 2 * t))) ++ (List.range 24).map (fun t => (240 + t, calI16 m (896 + 2 * t)))

/-- Loads the set in NOR into use (R547). -/
def Shopostra.loadCal (x : Shopostra) : Shopostra :=
  let m := x.mgt.calNor
  if calGood m then
    (x.onC (fun c => (List.range 48).foldl (fun a p => a.setReg 0x1221 (p + 1) (calI32 m (32 + 4 * p))) (c.setReg 0x1130 4 0))).onMgt
      (fun q => { q with calInUse := calInUse m })
  else x.onC (fun c => c.setReg 0x1130 4 3)

/-- SX_CAL_DATA (R546): eight bytes at the cursor, which advances; a cursor past the set is refused. -/
def ruleCalData (v : Nat) (x : Shopostra) : Shopostra × Option Abort :=
  let cur := x.c.reg 0x1130 2
  if calLength ≤ cur then (x, some .state)
  else ((x.onMgt (fun q => { q with calStage := putKey q.calStage (cur / 8) v })).onC (fun c => c.setReg 0x1130 2 (cur + 8)), none)

/-- SX_CAL_DATA_WRITE (R546). -/
def execSxCalDataWrite (r : Req) (v : Nat) (s : State) : Res := onX (fun x => x.ruled r 0x1130 1 v (ruleCalData v)) s

/-- SX_CAL_COMMIT (R546). -/
def ruleCalCommit (v : Nat) (x : Shopostra) : Shopostra × Option Abort :=
  if v ≠ 1 then (x, some .value)
  else if x.c.inSession || x.mgt.calCommitting then (x, some .state)
  else if calGood x.mgt.calStage then
    ((x.onMgt (fun q => { q with calCommitting := true })).onC (fun c => (c.setReg 0x1130 4 1).send (.program 0 0x02F00000 [1])), none)
  else (x.onC (fun c => c.setReg 0x1130 4 2), none)

/-- SX_CAL_COMMIT (R546). -/
def execSxCalCommit (r : Req) (v : Nat) (s : State) : Res := onX (fun x => x.ruled r 0x1130 3 v (ruleCalCommit v)) s

/-- A set with FACTORY cleared and its CRC brought up to date. -/
def calCleared (m : List (Nat × Nat)) : List (Nat × Nat) :=
  let m1 := putKey m 0 (withBit (lookupD 0 m 0) 40 false)
  putKey m1 1 (lookupD 0 m1 1 % 2 ^ 32 + crc32c (calBytes m1) * 2 ^ 32)

/-- The sector is erased and programmed (R546): the new set is in use. -/
def Shopostra.calDone (x : Shopostra) : Shopostra :=
  if x.mgt.calCommitting then (x.onMgt (fun q => { q with calNor := calCleared q.calStage, calCommitting := false })).loadCal else x

/-- CALIBRATION_COMMIT_DONE (R546). -/
def execCalibrationCommitDone (s : State) : Res := onX Shopostra.calDone s

/-- The die record of a tray slot (Table 17-6). -/
def dieRecord (m : List (Nat × Nat)) (slot : Nat) : List Nat := (List.range 256).map (fun i => calByte m (1024 + 256 * slot + i))

/-- Sends the die on a child port its record (R548). -/
def Shopostra.sendDieRecord (x : Shopostra) (port : Nat) : Shopostra :=
  match childIndex port with
  | none => x
  | some c => x.onC (fun a => a.control (.port port) 0x73 (dieRecord x.mgt.calNor c))

/-- Sends the records that a management reset delayed (Table 17-7). -/
def Shopostra.sendOwed (x : Shopostra) : Shopostra :=
  x.mgt.calOwed.foldl Shopostra.sendDieRecord (x.onMgt (fun q => { q with calOwed := [] }))

/-- A die takes its sensor trims and lane asymmetry (R548): in redundant tray mode trims from Shopostra A (lane 0), and
the asymmetry of the lane on which the record came. -/
def Vangeg.takeCal (lane : Nat) (rec : List Nat) (v : Vangeg) : Vangeg :=
  let at32 := fun o => let n := fromLE ((rec.drop o).take 4); if n = 0x80000000 then 0 else n
  let two := decide (v.c.portCount = 2)
  let v1 := if two && decide (lane ≠ 0) then v else { v with bnd := { v.bnd with calRecord := some rec } }
  let lanes := if two then [lane] else [0, 1]
  v1.onC (fun c => lanes.foldl (fun a l => a.setReg 0x1221 (l + 1) (at32 (160 + 4 * l))) c)

/-- CAL_RECORD_RX (R548). -/
def execCalRecordRx (lane : Nat) (fields : List Nat) (s : State) : Res := onV (Vangeg.takeCal lane fields) s

/-- A port of a tray's child completes its training (R243): the tray sends the die record (R548), or owes it while a
management reset runs (Table 17-7), and reads the die's fuse serial (R502). -/
def Shopostra.portTrained (port serial : Nat) (x : Shopostra) : Shopostra :=
  let x1 := x.onC (Common.timeComplete port)
  if x1.c.portUp port && !x.c.portUp port && decide (x1.c.reg 0x1012 0 = 0) && (childIndex port).isSome then
    let counted := match lookupD (0, false) x1.mgt.portDie port with | (s, n) => decide (s = serial) && n
    let x2 := x1.onMgt (fun q => { q with portDie := putKey q.portDie port (serial, counted) })
    if x2.mgt.warm then x2.onMgt (fun q => { q with calOwed := q.calOwed ++ [port] }) else x2.sendDieRecord port
  else x1

/-- PORT_TIME_COMPLETE (R243): `serial` is the child's fuse serial, where a tray reads one. -/
def execPortTimeComplete (p : Part) (port serial : Nat) (s : State) : Res :=
  onPart p (fun v => v.onC (Common.timeComplete port)) (Shopostra.portTrained port serial) s

/-! ## Images (R531, R532) -/

/-- Whether an image's header is valid (R532). -/
def Shopostra.headerValid (x : Shopostra) (i : Image) : Bool :=
  i.formOk && decide (i.stepping = x.c.reg 0x1000 2) && Config.ecdsaVerifies Config.bootKey i.signedHash i.sig &&
    decide (x.c.reg 0x7201 0 ≤ i.secVersion)

/-- Whether the newest journal entry is BEGIN or DONE. -/
def Mgt.cut (m : Mgt) : Bool :=
  match m.journal with
  | none => false
  | some e => decide (e.kind ≠ .end_)

/-- What the image does as it starts: the boot record (R507, R542), then the reports of this boot; the cause of a
recovery (R535), the boot parameters (R543), the calibration set (R547), torn records (R507) and the straps (R618). -/
def Shopostra.imageStart (x : Shopostra) : Shopostra :=
  let warm := x.mgt.warm
  let x1 := x.onC (fun c =>
    let c1 := c.bootRecord (if warm then 3 else x.mgt.cause) (if warm then 0 else c.reg 0x3706 4)
    let c2 := if x.mgt.recoveryCase ≠ 0 then c1.reportCode 2 0x1101 x.mgt.recoveryCase else c1
    let c3 := match x.mgt.params with | none => c2.reportCode 1 0x1103 0 | some _ => c2
    let c4 := if !warm && decide (c.reg 0x1130 4 = 3) then c3.reportCode 2 0x1104 0 else c3
    let c5 := if !warm && decide (c.reg 0x3706 4 ≠ 0) then c4.reportCode 1 0x0F03 (c.reg 0x3706 4) else c4
    let k := c.reg 0x1140 1
    if !warm && decide (k = 0 ∨ 5 < k) then c5.reportCode 2 0x1403 k else c5)
  x1.sendOwed.onMgt (fun q => { q with warm := false })

/-! ## Boot (R534, R535, R542) -/

/-- The boot parameters as read from NOR (R543): blank, with the fuse MAC addresses, when the sector is bad. -/
def Shopostra.loadParams (x : Shopostra) : Shopostra :=
  let val := fun (sub : Nat) => match x.mgt.params with
    | some l => lookupD 0 l sub
    | none => if sub = 1 then x.mgt.fuseMac.1 else if sub = 2 then x.mgt.fuseMac.2 else if sub = 7 then 1 else 0
  x.onC (fun c => (List.range 7).foldl (fun a i => a.setReg 0x7210 (i + 1) (val (i + 1))) c)

/-- Ports to train at release: every port, but the parent ports of an apex (R26). -/
def Common.usedPorts (c : Common kd) : List Nat :=
  (List.range c.portCount).filter (fun p => !(decide (c.kind = .shopostra) && decide (c.reg 0x1012 0 = 3) && isParentPort p))

/-- Ports are released to TRAINING (Table 17-3). -/
def Shopostra.releasePorts (x : Shopostra) : Shopostra :=
  { x with
    pkg := { x.pkg with portsReleased := true },
    c := x.c.usedPorts.foldl (fun a p => a.startTraining p) x.c }

/-- The ROM counts the power cycle and checks the persistent log, whose `torn` newest records fail their CRC (R501,
R507). -/
def Shopostra.countCycle (torn : Nat) (x : Shopostra) : Shopostra :=
  let n := (x.mgt.journalCounts.1 + 1) % 2 ^ 32
  let held := x.c.log.persistentLog
  let lost := min torn held.length
  (x.onC (fun c =>
    let c1 := (((c.setReg 0x3707 3 n).setReg 0x7001 3 n).setReg 0x3707 2 x.mgt.journalCounts.2).setReg 0x3706 4 lost
    { c1 with log := { c1.log with persistentLog := held.take (held.length - lost), hoursKnown := true } })).writeJournal

/-- The boot ROM to the check of the header (Table 17-3), and what sends it to recovery (R535). After a management
reset it neither counts nor loads calibration nor touches the ports (R542). -/
def Shopostra.bootRom (torn : Nat) (x : Shopostra) : Shopostra :=
  if x.mgt.phase ≠ .rom then x
  else
    let x1 := (if x.mgt.warm then x else ((x.countCycle torn).loadCal).releasePorts).loadParams
    let case := match x1.mgt.nor with
      | none => 1
      | some i => if x1.headerValid i then 0 else 1
    (x1.onMgt (fun q => { q with recoveryCase := case, phase := if case = 0 then .checked else .loader })).onC (fun c =>
      if case = 0 then c else c.setReg 0x7200 1 1)

/-- SX_COLD_RESET (R534): `torn` records of the persistent log were cut by power loss. -/
def execSxColdReset (torn : Nat) (s : State) : Res := onX (Shopostra.bootRom torn) s

/-- The core section is copied (Table 17-3): core 0 jumps to the image, or CORE_HASH, the journal or the strap sends it to
recovery (R535). -/
def Shopostra.coreStart (x : Shopostra) : Shopostra :=
  match x.mgt.phase, x.mgt.nor with
  | .checked, some i =>
    let case := if i.coreDigest ≠ i.coreHash then 2 else if x.mgt.cut then 3 else if x.c.reg 0x1140 4 = 1 then 4 else 0
    if case = 0 then
      ((x.onMgt (fun q => { q with phase := .coreLoaded, running := some i })).onC (fun c => c.setReg 0x7200 2 i.build)).imageStart
    else (x.onMgt (fun q => { q with phase := .loader, recoveryCase := case })).onC (fun c => c.setReg 0x7200 1 1)
  | _, _ => x

/-- BOOT_CORE_START (R534). -/
def execBootCoreStart (s : State) : Res := onX Shopostra.coreStart s

/-- The extension section is loaded (Table 17-3), or fails its hash (R535). -/
def Shopostra.extensionDone (x : Shopostra) : Shopostra :=
  match x.mgt.phase, x.mgt.running with
  | .coreLoaded, some i =>
    let good := decide (i.extDigest = i.extHash)
    (x.onMgt (fun q => { q with phase := .running })).onC (fun c =>
      if good then c.setReg 0x7200 1 3 else (c.setReg 0x7200 1 4).reportCode 2 0x1102 0)
  | _, _ => x

/-- BOOT_EXTENSION_DONE (R534). -/
def execBootExtensionDone (s : State) : Res := onX Shopostra.extensionDone s

/-- Fences of CONTROL requests to the part are answered with the state code (Table 19-8). -/
def Common.abortFences (a : Abort) (c : Common kd) : Common kd :=
  let hit := c.ctl.fences.filter (fun f => f.req.isNone)
  let c1 : Common kd := { c with ctl := { c.ctl with fences := c.ctl.fences.filter (fun f => f.req.isSome) } }
  hit.foldl (fun b f => (b.bump 0x1032 2).respond f.path
    { op := .fence, more := false, relayed := false, reqId := f.reqId, responder := b.logical, responderPhys := b.phys,
      abort := a.code, len := 0, resetEpoch := b.reg 0x7001 3, idx := f.idx, sub := f.sub, data := 0 }) c1

/-- A management reset (R542): the cores, the SRAM and the Ethernet ports; every other unit runs on. -/
def Shopostra.managementReset (x : Shopostra) : Shopostra :=
  let m := { x.mgt with phase := .rom, warm := true, recoveryCase := 0, recoveryPort := 0,
                        running := none, staged := none, commit := none,
                        calNor := if x.mgt.calCommitting then [] else x.mgt.calNor, calCommitting := false }
  let c := [(0x7200, 1), (0x7200, 2), (0x7200, 3), (0x7203, 4), (0x7203, 5), (0x7203, 6), (0x7212, 1), (0x7212, 2)].foldl
    (fun (a : Common _) o => a.setReg o.1 o.2 0) x.c
  { x with mgt := m, c := c.abortFences .state }

/-! ## Update (R538 to R540) -/

/-- Sectors of 64 KiB that an image occupies. -/
def imageSectors (i : Image) : Nat := (i.len + 65535) / 65536

/-- Appends a journal entry (R539). -/
def Shopostra.appendJournal (kind : JournalKind) (sector : Nat) (i : Image) (x : Shopostra) : Shopostra :=
  let n := match x.mgt.journal with | none => 1 | some e => e.jseq + 1
  let e : JournalEntry := { jseq := n, kind := kind, sector := sector, len := i.len, hash := i.headerHash }
  let code := match kind with | .begin_ => 1 | .done_ => 2 | .end_ => 3
  (x.onMgt (fun q => { q with journal := some e })).onC (fun c => c.send (.program 0 0x02800000 [n, code, sector, i.len]))

/-- The commit ends: END, and a management reset after a recovery (R537, R540). -/
def Shopostra.endCommit (recovery : Bool) (i : Image) (x : Shopostra) : Shopostra :=
  let x1 := (x.appendJournal .end_ 0 i).onMgt (fun q => { q with nor := some i, commit := none })
  let x2 := x1.onC (fun c => c.setReg 0x7203 4 7)
  if recovery then x2.managementReset else x2

/-- Begins a commit (R540), or resumes one in recovery mode after the last sector recorded DONE (R537). -/
def Shopostra.beginCommit (recovery : Bool) (i : Image) (x : Shopostra) : Shopostra :=
  let first := if 1 < imageSectors i then 1 else 0
  let start := fun (next : Nat) (y : Shopostra) =>
    let k : Commit := { next := next, total := imageSectors i, retried := false, recovery := recovery, since := y.c.now }
    (y.onMgt (fun q => { q with nor := none, commit := some k })).onC (fun c => c.setReg 0x7203 4 6)
  let resumes := recovery && (match x.mgt.journal with
    | some e => decide (e.kind ≠ .end_) && decide (e.hash = i.headerHash)
    | none => false)
  match resumes, x.mgt.journal with
  | true, some e =>
    if e.kind = .begin_ then start first x
    else if e.sector = 0 then x.endCommit recovery i
    else start (if e.sector + 1 < imageSectors i then e.sector + 1 else 0) x
  | _, _ => start first (x.appendJournal .begin_ 0 i)

/-- A sector has been erased, programmed and read back (R540): DONE, or a second attempt, or the end of the commit. -/
def Shopostra.sectorDone (same : Bool) (x : Shopostra) : Shopostra :=
  match x.mgt.commit, x.mgt.staged with
  | some k, some i =>
    if same then
      let x1 := (x.appendJournal .done_ k.next i).onC (fun c => (c.setReg 0x7203 5 k.next).send (.program 0 (k.next * 65536) []))
      if k.next = 0 then x1.endCommit k.recovery i
      else x1.onMgt (fun q => { q with commit := some { k with next := if k.next + 1 < k.total then k.next + 1 else 0, retried := false } })
    else if k.retried then
      (x.onMgt (fun q => { q with commit := none })).onC (fun c => (c.setReg 0x7203 4 8).reportCode 2 0x0F02 (k.next * 65536))
    else x.onMgt (fun q => { q with commit := some { k with retried := true } })
  | _, _ => x

/-- NOR_SECTOR_DONE (R540): `same` says that the read-back equals the staging area. -/
def execNorSectorDone (same : Bool) (s : State) : Res := onX (Shopostra.sectorDone same) s

/-- MGT_UPDATE_CMD (R538): each command proceeds only from its states, and only while the whole image runs (R535). -/
def ruleUpdateCmd (v : Nat) (x : Shopostra) : Shopostra × Option Abort :=
  let st := x.c.reg 0x7203 4
  if v = 0 ∨ 3 < v then (x, some .value)
  else if x.c.reg 0x7200 1 ≠ 3 then (x, some .state)
  else if v = 1 then
    (if st = 0 ∨ st = 2 ∨ st = 4 ∨ st = 7 then (x.onC (fun c => c.setReg 0x7203 4 1), none) else (x, some .state))
  else if v = 2 then (if st = 2 then (x.onC (fun c => c.setReg 0x7203 4 3), none) else (x, some .state))
  else match x.mgt.staged with
    | some i => if st = 4 then (x.beginCommit false i, none) else (x, some .state)
    | none => (x, some .state)

/-- UPDATE_FETCH (R538). -/
def execUpdateFetch (r : Req) (s : State) : Res := onX (fun x => x.ruled r 0x7203 3 1 (ruleUpdateCmd 1)) s

/-- UPDATE_VERIFY (R538). -/
def execUpdateVerify (r : Req) (s : State) : Res := onX (fun x => x.ruled r 0x7203 3 2 (ruleUpdateCmd 2)) s

/-- UPDATE_COMMIT (R540). -/
def execUpdateCommit (r : Req) (s : State) : Res := onX (fun x => x.ruled r 0x7203 3 3 (ruleUpdateCmd 3)) s

/-- UPDATE_FETCH_DONE (R538): the image is staged. -/
def execUpdateFetchDone (image : Image) (s : State) : Res :=
  onX (fun x =>
    if x.c.reg 0x7203 4 = 1 then
      (x.onMgt (fun q => { q with staged := some image })).onC (fun c => (c.setReg 0x7203 4 2).setReg 0x7203 6 image.build)
    else x) s

/-- Verification of the staged image ends (R538). -/
def Shopostra.verifyDone (x : Shopostra) : Shopostra :=
  match x.c.reg 0x7203 4, x.mgt.staged with
  | 3, some i =>
    let good := x.headerValid i && decide (i.coreDigest = i.coreHash) && decide (i.extDigest = i.extHash)
    x.onC (fun c => c.setReg 0x7203 4 (if good then 4 else 5))
  | _, _ => x

/-- UPDATE_VERIFY_DONE (R538). -/
def execUpdateVerifyDone (s : State) : Res := onX Shopostra.verifyDone s

/-! ## Recovery (R536, R537) -/

/-- RECOVERY_FETCH_RETRY (R536): an attempt has failed. -/
def execRecoveryFetchRetry (s : State) : Res :=
  onX (fun x => if x.mgt.phase = .loader then x.onC (fun c => c.bump 0x7200 3) else x) s

/-- RECOVERY_PORT_FALLBACK (R536): port 0 has had no link for 2 s. -/
def execRecoveryPortFallback (s : State) : Res :=
  onX (fun x => if x.mgt.phase = .loader ∧ x.c.reg 0x7212 1 = 0 then x.onMgt (fun q => { q with recoveryPort := 1 }) else x) s

/-- In recovery mode, the image fetched whole is staged and committed once EXT_HASH holds (R537). -/
def Shopostra.recoverExtension (i : Image) (x : Shopostra) : Shopostra :=
  if x.mgt.commit.isNone ∧ i.extDigest = i.extHash then
    ((x.onMgt (fun q => { q with staged := some i })).onC (fun c => c.setReg 0x7203 6 i.build)).beginCommit true i
  else x

/-- A fetched image (R536, R537): the loader checks header and core section and starts it in recovery mode. -/
def Shopostra.recoveryFetch (i : Image) (x : Shopostra) : Shopostra :=
  match x.mgt.phase with
  | .loader =>
    if x.headerValid i && decide (i.coreDigest = i.coreHash) then
      let x1 := (x.onMgt (fun q => { q with phase := .recovery, running := some i })).onC (fun c =>
        (c.setReg 0x7200 1 2).setReg 0x7200 2 i.build)
      x1.imageStart.recoverExtension i
    else x.onC (fun c => c.bump 0x7200 3)
  | .recovery => x.recoverExtension i
  | _ => x

/-- RECOVERY_FETCH_DONE (R537). -/
def execRecoveryFetchDone (image : Image) (s : State) : Res := onX (Shopostra.recoveryFetch image) s

/-! ## Resets and the security floor (R533, R541, R551) -/

/-- Whether a strapped KIND is valid (R618). -/
def kindOk (k : Nat) : Bool := decide (1 ≤ k ∧ k ≤ 5)

/-- Cold reset of the chip with a cause (R615 to R618, R558): NOR, fuses, straps and counts in NOR stay. -/
def Shopostra.coldReset (cause : Nat) (x : Shopostra) : Shopostra :=
  let g := x.pkg
  let kind := if kindOk g.strapKind then g.strapKind else 5
  let pos := if kindOk g.strapKind then g.strapPos else 0xFFFFF
  let phys := kind * 2 ^ 29 + g.strapSide * 2 ^ 28 + pos * 2 ^ 8 + g.serial % 8 * 32
  let pins := [(Pin.porstN, 1), (.resetN, 1), (.thermtripN, if g.tripped then 0 else 1), (.spiCsN, 1),
    (.lasPresN 0, x.c.pin (.lasPresN 0)), (.lasPresN 1, x.c.pin (.lasPresN 1)),
    (.refclk 0, x.c.pin (.refclk 0)), (.refclk 1, x.c.pin (.refclk 1))]
  let b := Common.reset .shopostra [] pins
  let c0 : Common .shopostra := { b with out := x.c.out, fresh := x.c.fresh, log := { b.log with
    persistentLog := x.c.log.persistentLog, persistentNext := x.c.log.persistentNext, persistentRemoved := x.c.log.persistentRemoved } }
  let c1 := [(0x1000, 3, g.serial), (0x1010, 0, phys), (0x1012, 0, kind - 1), (0x1013, 0, g.strapSide), (0x1140, 1, g.strapKind),
    (0x1140, 2, g.strapSide), (0x1140, 3, g.strapPos), (0x1140, 4, g.strapRecovery), (0x1141, 0, cause), (0x7201, 0, g.secFloor),
    (0x3802, 0, b2n (!g.fuseCrcOk))].foldl (fun (a : Common _) o => a.setReg o.1 o.2.1 o.2.2) c0
  let c2 := if g.fuseCrcOk then
      (List.range 24).foldl (fun a i => a.setReg 0x3571 (i + 1) (nth 0 g.fuseRepairs i))
        ((List.range 64).foldl (fun a i => a.setReg 0x3801 (i + 1) (nth 0 g.fuseMatrix i)) c1)
    else c1
  { Shopostra.reset with
    c := c2,
    fleet := { Fleet.reset with active := decide (g.strapSide = 0), actingApex := decide (kind = 4 ∧ g.strapSide = 0) },
    mgt := { Mgt.reset with
      cause := cause, nor := x.mgt.nor, journal := x.mgt.journal, params := x.mgt.params, fuseMac := x.mgt.fuseMac,
      calNor := if x.mgt.calCommitting then [] else x.mgt.calNor, journalCounts := x.mgt.journalCounts, dies := x.mgt.diesNor, diesNor := x.mgt.diesNor,
      retired := x.mgt.retired },
    pkg := { g with inReset := false, heldForClock := x.c.pin (.refclk 0) ≠ 1 ∧ x.c.pin (.refclk 1) ≠ 1, porCause := false, coolSince := [],
                    warnedAt := [], critAt := [], portsReleased := false } }

/-- MGT_RESET (R541). -/
def ruleMgtReset (v : Nat) (x : Shopostra) : Shopostra × Option Abort :=
  if v = 0 ∨ 2 < v then (x, some .value)
  else if x.mgt.commit.isSome || x.mgt.calCommitting then (x, some .state)
  else if v = 2 then (if x.c.inSession then (x, some .state) else (x.coldReset 2, none))
  else (x.managementReset, none)

/-- MANAGEMENT_RESET (R542). -/
def execManagementReset (r : Req) (s : State) : Res := onX (fun x => x.ruled r 0x7202 0 1 (ruleMgtReset 1)) s

/-- COLD_RESET_REQUEST (R541). -/
def execColdResetRequest (r : Req) (s : State) : Res := onX (fun x => x.ruled r 0x7202 0 2 (ruleMgtReset 2)) s

/-- MGT_SRAM_ECC_ERROR (R551): a management reset and report 0x1105. -/
def execMgtSramEccError (addr : Nat) (s : State) : Res :=
  onX (fun x => x.managementReset.onC (fun c => c.reportCode 2 0x1105 addr)) s

/-- MGT_SEC_FLOOR (R533): it only rises, and not above the running image. -/
def ruleSecFloor (v : Nat) (x : Shopostra) : Shopostra × Option Abort :=
  let top := match x.mgt.running with | some i => i.secVersion | none => 0
  if v < x.c.reg 0x7201 0 ∨ top < v ∨ 63 < v then (x, some .value)
  else ({ x with pkg := { x.pkg with secFloor := v }, c := x.c.setReg 0x7201 0 v }, none)

/-- SEC_FLOOR_WRITE (R533). -/
def execSecFloorWrite (r : Req) (v : Nat) (s : State) : Res := onX (fun x => x.ruled r 0x7201 0 v (ruleSecFloor v)) s

/-- MGT_PARAM_COMMIT (R543). -/
def ruleParamCommit (v : Nat) (x : Shopostra) : Shopostra × Option Abort :=
  if v ≠ 1 then (x, some .value)
  else
    let l := (List.range 7).map (fun i => (i + 1, x.c.reg 0x7210 (i + 1)))
    ((x.onMgt (fun q => { q with params := some l })).onC (fun c => c.send (.program 0 0x02E00000 (l.map (fun e => e.2)))), none)

/-- MGT_PARAM_COMMIT (R543). -/
def execMgtParamCommit (r : Req) (v : Nat) (s : State) : Res := onX (fun x => x.ruled r 0x7210 8 v (ruleParamCommit v)) s

/-- MGT_LINK_CHANGE (R544). -/
def execMgtLinkChange (port : Nat) (up : Bool) (s : State) : Res :=
  onX (fun x => if port < 2 then x.onC (fun c => c.setReg 0x7212 (port + 1) (b2n up)) else x) s

end Sys2Proof.Machine
end

