-- ==== Sys2Proof/Machine/Package.lean ====
section
/-! DEFINITION. The package of a Shopostra (20_package_and_power.md): reset pins, reference clocks, rails, lasers and
temperatures. These commands act whether or not the part runs. -/

namespace Sys2Proof.Machine

/-- A command to the package, which acts in reset too. -/
def onPkg (f : Shopostra → Shopostra) (s : State) : Res := .next { s with sx := (f s.sx).flush }

/-! ## Reset pins (R615 to R618) -/

/-- A reset pin falls (R614, R616): lanes silent, lasers off; PORST_N clears a latched trip. -/
def Shopostra.pinFalls (porst : Bool) (x : Shopostra) : Shopostra :=
  let trip := x.pkg.tripped && !porst
  { x with
    pkg := { x.pkg with inReset := true, tripped := trip, porCause := x.pkg.porCause || porst },
    c := ((x.c.setPin (if porst then .porstN else .resetN) 0).setPin .spiCsN 1).setPin .clkOut 0 }

/-- RESET_PIN_ASSERT (R616). -/
def execResetPinAssert (porst : Bool) (s : State) : Res := onPkg (Shopostra.pinFalls porst) s

/-- A reset pin rises: after the later of the two, the straps are sampled and the cold reset proceeds (R616, R617). -/
def Shopostra.pinRises (porst : Bool) (kind side pos recovery : Nat) (x : Shopostra) : Shopostra :=
  let c := x.c.setPin (if porst then .porstN else .resetN) 1
  let x1 := { x with c := c }
  if c.pin .porstN = 1 ∧ c.pin .resetN = 1 ∧ x.pkg.inReset then
    let x2 := { x1 with pkg := { x1.pkg with strapKind := kind % 8, strapSide := side % 2, strapPos := pos % 2 ^ 20, strapRecovery := recovery % 2 } }
    x2.coldReset (if x1.pkg.porCause then 0 else 1)
  else x1

/-- POWER_ON_RESET (R615): PORST_N rises, with the straps as the board holds them. -/
def execPowerOnReset (kind side pos recovery : Nat) (s : State) : Res := onPkg (Shopostra.pinRises true kind side pos recovery) s

/-- RESET_PIN (R615): RESET_N rises after at least 10 µs. -/
def execResetPin (kind side pos recovery : Nat) (s : State) : Res := onPkg (Shopostra.pinRises false kind side pos recovery) s

/-! ## Clocks and rails (R601, R604) -/

/-- Ports of the two quadrants that a reference clock feeds. -/
def clockPorts (clk : Nat) : List Nat := (List.range 24).map (fun i => 24 * clk + i)

/-- A reference clock stops (R601): its ports go DOWN and report 0x1405 is sent. With both stopped the part holds itself
in reset (R620), with a cause that no rule states. -/
def Shopostra.clockStops (clk : Nat) (x : Shopostra) : Shopostra :=
  if 1 < clk then x
  else
    let x1 := x.onC (fun c => c.setPin (.refclk clk) 0)
    if !x.runs then x1
    else
      let x2 := x1.onC (fun c => ((clockPorts clk).foldl (fun a p => a.portDown p) c).reportCode 2 0x1405 clk)
      if x2.c.pin (.refclk (1 - clk)) = 1 then x2
      else
        let q := x2.c.drawFree 8
        { x2 with c := q.1 }.coldReset q.2

/-- REFCLK_LOSS (R601). -/
def execRefclkLoss (clk : Nat) (s : State) : Res := onPkg (Shopostra.clockStops clk) s

/-- A reference clock returns (R601, R620): a part held for it begins its cold reset, and the clock's ports may train. -/
def Shopostra.clockReturns (clk : Nat) (x : Shopostra) : Shopostra :=
  if 1 < clk then x
  else
    let x1 := x.onC (fun c => c.setPin (.refclk clk) 1)
    let x2 := { x1 with pkg := { x1.pkg with heldForClock := false } }
    if x2.runs && x2.pkg.portsReleased then
      x2.onC (fun c => (c.usedPorts.filter (fun p => decide (p ∈ clockPorts clk))).foldl (fun a p => a.startTraining p) c)
    else x2

/-- REFCLK_RETURN (R601). -/
def execRefclkReturn (clk : Nat) (s : State) : Res := onPkg (Shopostra.clockReturns clk) s

/-- RAIL_FAULT (R604): the voltage site and its reading in mV. -/
def execRailFault (site reading : Nat) (s : State) : Res :=
  onX (fun x => x.onC (fun c => c.reportCode 2 0x1404 (site % 256 + reading % 2 ^ 16 * 2 ^ 16))) s

/-! ## Lasers (R613) -/

/-- LASx_PRES_N changes; LASx_EN follows (`Shopostra.drive`). -/
def Shopostra.laserPresence (input : Nat) (absent : Bool) (x : Shopostra) : Shopostra :=
  if 1 < input then x
  else x.onC (fun c => c.setPin (.lasPresN input) (b2n absent))

/-- LASER_PRESENCE_CHANGE (R613). -/
def execLaserPresenceChange (input : Nat) (absent : Bool) (s : State) : Res := onPkg (Shopostra.laserPresence input absent) s

/-! ## Temperatures (R549, R608 to R610) -/

/-- A reading after trim. -/
def trimmed (raw trim : Nat) : Int := ofTwos 16 raw + ofTwos 16 trim

/-- Whether a report of a site may be sent again: at most once per second. -/
def dueAgain (now : Ticks) (l : List (Nat × Ticks)) (site : Nat) : Bool :=
  match l.find? (fun e => decide (e.1 = site)) with
  | none => true
  | some e => decide (e.2 + secT 1 ≤ now)

/-- An engine trips (R610). -/
def Shopostra.engineTrip (x : Shopostra) (e : Nat) : Shopostra :=
  if x.c.reg 0x1144 (e + 1) = 1 then x
  else x.onC (fun c =>
    let c1 := ((c.setReg 0x1144 (e + 1) 1).reportCode 2 0x1402 (e + c.reg 0x1120 (17 + e) * 2 ^ 16))
    (List.range 6).foldl (fun a i => a.portDown (6 * e + i)) c1)

/-- The thermal trip latches (R609): THERMTRIP_N, the lasers, every lane and every clock. -/
def Shopostra.trip (x : Shopostra) : Shopostra :=
  let c := ((List.range 48).foldl (fun a p => if a.portState p = 0 then a else a.portDown p) x.c)
  { x with c := c, pkg := { x.pkg with tripped := true } }

/-- What one thermal site's sample does: warning, critical report, engine limits. -/
def Shopostra.siteSample (x : Shopostra) (site : Nat) : Shopostra :=
  let t := x.c.regI 16 0x1120 (site + 1)
  let detail := site + x.c.reg 0x1120 (site + 1) * 2 ^ 16
  let x1 := if x.c.regI 16 0x1122 0 < t ∧ dueAgain x.c.now x.pkg.warnedAt site then
      { x with c := x.c.reportCode 1 0x1106 detail, pkg := { x.pkg with warnedAt := putKey x.pkg.warnedAt site x.c.now } }
    else x
  if 16 ≤ site ∧ site < 24 then
    let e := site - 16
    let x2 := if 1440 ≤ t then x1.engineTrip e else x1
    let cool := if x2.c.reg 0x1144 (e + 1) = 1 ∧ t < 1280 then
        (match x2.pkg.coolSince.find? (fun q => decide (q.1 = e)) with
         | some _ => x2.pkg.coolSince
         | none => putKey x2.pkg.coolSince e x2.c.now)
      else dropKey x2.pkg.coolSince e
    { x2 with pkg := { x2.pkg with coolSince := cool } }
  else if x1.c.regI 16 0x1142 0 ≤ t ∧ dueAgain x1.c.now x1.pkg.critAt site then
    { x1 with c := x1.c.reportCode 3 0x1401 detail, pkg := { x1.pkg with critAt := putKey x1.pkg.critAt site x1.c.now } }
  else x1

/-- The sites are sampled (R549): readings after trim, power, and what they cause; the trip acts alone (R620). -/
def Shopostra.sensorSample (therm volt power : List Nat) (x : Shopostra) : Shopostra :=
  let use := fun k => lookupD 0 x.mgt.calInUse k
  let c1 := (List.range 32).foldl (fun a i => a.setRegI 16 0x1120 (i + 1) (trimmed (nth 0 therm i) (use (200 + i)))) x.c
  let c2 := (List.range 24).foldl (fun a i => a.setReg 0x1121 (i + 1)
    (toTwos 16 ((nth 0 volt i : Int) + ofTwos 16 (use (240 + i))))) c1
  let c3 := (List.range 8).foldl (fun a i => a.setReg 0x1143 (i + 1) (nth 0 power i % 2 ^ 32)) c2
  let x1 := { x with c := c3 }
  if (List.range 32).any (fun i => !decide (16 ≤ i ∧ i < 24) && decide (1920 ≤ c3.regI 16 0x1120 (i + 1))) then x1.trip
  else (List.range 32).foldl Shopostra.siteSample x1

/-- SX_SENSOR_SAMPLE (R549): raw readings of the 32 thermal and 24 voltage sites, and the eight power estimates. -/
def execSxSensorSample (therm volt power : List Nat) (s : State) : Res := onX (Shopostra.sensorSample therm volt power) s

/-- An engine below 80 °C for 1 s returns to normal, and its ports train again (R610). -/
def Shopostra.engineRecovers (e : Nat) (x : Shopostra) : Shopostra :=
  match x.pkg.coolSince.find? (fun q => decide (q.1 = e)) with
  | none => x
  | some q =>
    let x1 := { x with c := (x.c.arrive (q.2 + secT 1)).setReg 0x1144 (e + 1) 0,
                       pkg := { x.pkg with coolSince := dropKey x.pkg.coolSince e } }
    x1.onC (fun c => (c.usedPorts.filter (fun p => decide (p / 6 = e))).foldl (fun a p => a.startTraining p) c)

/-- ENGINE_RECOVERY (R610). -/
def execEngineRecovery (engine : Nat) (s : State) : Res := onX (Shopostra.engineRecovers engine) s

end Sys2Proof.Machine
end

