-- ==== Sys2Proof/Machine/Fleet.lean ====
section
/-! DEFINITION. Roles, logical addresses and Castle (01_fleet.md). -/

namespace Sys2Proof.Machine

variable {kd : Part}

/-- A change of the fleet unit. -/
def Shopostra.onFleet (x : Shopostra) (f : Fleet → Fleet) : Shopostra := { x with fleet := f x.fleet }

/-- SX_LEVEL_ROLE (R24). -/
def ruleLevelRole (v : Nat) (x : Shopostra) : Shopostra × Option Abort :=
  if 4 < v then (x, some .value)
  else if x.c.inSession then (x, some .state)
  else ((x.onC (fun c => c.setReg 0x1012 0 v)).onFleet (fun f => { f with actingApex := decide (v = 3) && f.active }), none)

/-- LEVEL_ROLE_WRITE (R24). -/
def execLevelRoleWrite (r : Req) (v : Nat) (s : State) : Res := onX (fun x => x.ruled r 0x1012 0 v (ruleLevelRole v)) s

/-! ## Assignment (R40) -/

/-- KIND of a physical address (Table 1-3). -/
def physKind (phys : Nat) : Nat := phys / 2 ^ 29 % 8

/-- TIER of a logical address (Table 1-4). -/
def tierOf (l : Nat) : Nat := l / 2 ^ 28 % 16

/-- Whether a value is an assigned logical address (R39, Table 1-4). -/
def logicalOk (l : Nat) : Bool := decide (tierOf l ≤ 4 ∧ l / 2 ^ 20 % 256 = 0 ∧ l < 2 ^ 32)

/-- The physical address bound to a logical address, and its Castle count. -/
def Shopostra.holder (x : Shopostra) (l : Nat) : Option (Nat × Nat) :=
  (x.fleet.map.find? (fun e => decide (e.1 = l))).map (fun e => e.2)

/-- Whether a part holds a logical address in the map (R43). -/
def Shopostra.holds (x : Shopostra) (phys : Nat) : Bool := x.fleet.map.any (fun e => decide (e.2.1 = phys))

/-- Dies in the map (R23). -/
def Shopostra.dieCount (x : Shopostra) : Nat := (x.fleet.map.filter (fun e => decide (tierOf e.1 = 0))).length

/-- LIVE_ASSIGN of a logical address to the staged part (R40): its level role, and the child port that leads to it. -/
def ruleAssign (l role port : Nat) (x : Shopostra) : Shopostra × Option Abort :=
  let phys := x.fleet.assignPhys
  let refuse := fun (a : Abort) => (x.onC (fun c => c.setReg 0x7010 3 1), some a)
  let tierGood := if physKind phys = 0 then decide (tierOf l = 0) else decide (tierOf l = role + 1)
  if !logicalOk l then refuse .value
  else if !tierGood then refuse .value
  else if !x.fleet.actingApex then refuse .state
  else if (x.holder l).isSome || x.holds phys || (decide (tierOf l = 0) && decide (1048576 ≤ x.dieCount)) then refuse .state
  else
    let x1 := x.onFleet (fun f => { f with map := putKey f.map l (phys, 0) })
    (x1.onC (fun c =>
      let c1 := c.setReg 0x7010 3 0
      if phys = c.phys then c1.setReg 0x1011 0 l
      else (c1.bind_ port l).message (.port port) "ASSIGN" [phys, l]), none)

/-- LIVE_ASSIGN (R40). -/
def execLiveAssign (r : Req) (v role port : Nat) (s : State) : Res :=
  onX (fun x => x.ruled r 0x7010 2 v (ruleAssign v role port)) s

/-- A part learns its own assignment (R40). -/
def Common.learnAssign (c : Common kd) (phys l : Nat) : Common kd :=
  if phys = c.phys ∧ c.isSpare then c.setReg 0x1011 0 l else c

/-- A message that goes on downward: the active member of a position sends it (R29). -/
def Shopostra.passDown (x : Shopostra) (d : Dest) (what : String) (fields : List Nat) : Shopostra :=
  if x.fleet.active then x.onC (fun c => c.message d what fields) else x

/-- An aggregator learns an assignment: its own, or that of a part behind one of its ports (R40, R623). -/
def Shopostra.learnAssign (phys l : Nat) (x : Shopostra) : Shopostra :=
  if phys = x.c.phys then x.onC (fun c => c.learnAssign phys l)
  else match ((List.range 32).map childPort).find? (fun p => decide (x.c.reg 0x1312 (p + 1) = phys)) with
    | some p => (x.onC (fun c => c.bind_ p l)).passDown (.port p) "ASSIGN" [phys, l]
    | none => x.passDown .children "ASSIGN" [phys, l]

/-! ## Castle (R42 to R49) -/

/-- Whether a pending Castle involves an address or a spare. -/
def Fleet.castling (f : Fleet) (l s : Nat) : Bool := f.castles.any (fun k => decide (k.l = l ∨ k.s = s))

/-- A write of the Castle instant (R42): `passed` says that S passed its last self-test, `cls` is the Tempo uncertainty class that S reports. -/
def ruleCastle (v : Nat) (passed : Bool) (cls : Nat) (x : Shopostra) : Shopostra × Option Abort :=
  let l := x.c.reg 0x7011 1
  let s := x.c.reg 0x7011 2
  let t := x.c.timeOf v
  let refuse := fun (a : Abort) => (x.onC (fun c => c.setReg 0x7011 4 4), some a)
  match x.holder l with
  | none => refuse .value
  | some (xp, gen) =>
    let kindGood := if physKind xp = 0 then decide (physKind s = 0) else decide (physKind s ≠ 0)
    let spare := !x.holds s || decide (s = xp)
    if !(isCycleStart t && decide (x.c.now + msT 4 ≤ t) && kindGood) then refuse .value
    else if !(x.fleet.actingApex && x.c.live.down.any (fun d => decide (d.1 = l)) && passed && spare && decide (cls ≤ 2) && !x.fleet.castling l s && !x.c.nearSwitch t) then refuse .state
    else
      let k : Castle := { l := l, s := s, at_ := t, acked := false }
      let x1 := x.onFleet (fun f => { f with map := putKey f.map l (xp, (gen + 1) % 2 ^ 32), castles := f.castles ++ [k] })
      (x1.onC (fun c => ((c.setReg 0x7011 3 (storedForm .time v)).setReg 0x7011 4 1).message
        .children "CASTLE_BIND" [l, s, xp, t]), none)

/-- CASTLE_SUBMIT (R42). -/
def execCastleSubmit (r : Req) (v : Nat) (passed : Bool) (cls : Nat) (s : State) : Res :=
  onX (fun x => x.ruled r 0x7011 3 v (ruleCastle v passed cls)) s

/-- An aggregator learns of a Castle and passes it down (R44). -/
def Shopostra.learnCastle (l s xp t : Nat) (x : Shopostra) : Shopostra :=
  if x.fleet.castles.any (fun k => decide (k.l = l)) then x
  else
    let k : Castle := { l := l, s := s, at_ := t, acked := false }
    (x.onFleet (fun f => { f with castles := f.castles ++ [k] })).passDown .children "CASTLE_BIND" [l, s, xp, t]

/-- Cancels the Castle of L: at the apex the status shows it; the cancellation goes down (R44, R46). -/
def Shopostra.cancelCastle (l : Nat) (x : Shopostra) : Shopostra :=
  if x.fleet.castles.any (fun k => decide (k.l = l)) then
    ((x.onFleet (fun f => { f with castles := f.castles.filter (fun k => decide (k.l ≠ l)) })).onC (fun c =>
      if x.fleet.actingApex then c.setReg 0x7011 4 3 else c)).passDown .children "CASTLE_CANCEL" [l]
  else x

/-- The spare's acknowledgement reaches the part (R44). -/
def Shopostra.castleAck (l : Nat) (x : Shopostra) : Shopostra :=
  let x1 := x.onFleet (fun f => { f with castles := f.castles.map (fun k => if k.l = l then { k with acked := true } else k) })
  if x.fleet.actingApex then x1 else x1.onC (fun c => c.message .activeParent "CASTLE_ACK" [l])

/-- T* minus 1 ms (R44): without an acknowledgement the apex cancels. -/
def Shopostra.castleDeadline (l : Nat) (x : Shopostra) : Shopostra :=
  match x.fleet.castles.find? (fun k => decide (k.l = l)) with
  | none => x
  | some k =>
    let x1 := x.onC (fun c => c.arrive (k.at_ - msT 1))
    if x1.fleet.actingApex && !k.acked then x1.cancelCastle l else x1

/-- CASTLE_ACK_DEADLINE (R44). -/
def execCastleAckDeadline (l : Nat) (s : State) : Res := onX (Shopostra.castleDeadline l) s

/-- What moves from port `p` with L: L, and where `p` leads to the position L itself, everything behind it (R49, R623). -/
def Common.movesWith (c : Common kd) (l p : Nat) : List Nat :=
  match (c.port p).ident with
  | some i => if tierOf l ≠ 0 ∧ nth 0 i 4 = l then c.bindingSet p else [l]
  | none => [l]

/-- Takes addresses out of the binding set of a port. -/
def Common.unbindAll (c : Common kd) (p : Nat) (ls : List Nat) : Common kd := ls.foldl (fun a l => a.unbind p l) c

/-- Puts addresses into the binding set of a port of the part; port 48 stands for none, at a part that is not on the path
to S. -/
def Common.bindAll (c : Common kd) (p : Nat) (ls : List Nat) : Common kd :=
  if p < 48 then ls.foldl (fun a l => a.bind_ p l) c else c

/-- T* (R44, R45): the ports bound to L are unbound, and the port that leads to S is bound; the apex's map names S. -/
def Shopostra.castleInstant (x : Shopostra) (l port : Nat) : Shopostra :=
  match x.fleet.castles.find? (fun k => decide (k.l = l)) with
  | none => x
  | some k =>
    let old := (x.c.bindings.filter (fun b => decide (l ∈ b.2))).map (fun b => b.1)
    let behind := old.flatMap (x.c.movesWith l)
    let c1 := old.foldl (fun a p => (a.unbindAll p (x.c.movesWith l p)).unbind p l) (x.c.arrive k.at_)
    let c2 := (c1.bindAll port behind).bindAll port [l]
    let c3 := if k.s = c2.phys then c2.setReg 0x1011 0 l else c2
    let f := x.fleet
    { x with
      c := if f.actingApex then c3.setReg 0x7011 4 2 else c3,
      fleet := { f with
        castles := f.castles.filter (fun q => decide (q.l ≠ l)),
        moved := f.moved.filter (fun m => decide (m ≠ (port, l))) ++ (old.filter (fun p => decide (p ≠ port))).map (fun p => (p, l)),
        map := if f.actingApex then putKey f.map l (k.s, (match x.holder l with | some h => h.2 | none => 0)) else f.map } }

/-! ## The active parent (R28) -/

/-- Tempo brought to a board-cycle start. -/
def Common.toCycleStart (c : Common kd) : Common kd := c.arrive (cycleStart c.now + (if isCycleStart c.now then 0 else cycleT))

/-- ACTIVE_PARENT_SWITCH (R28): at a board-cycle start, parent B becomes the active parent; `own` says that it is this
part's own position whose mirror becomes active. -/
def execActiveParentSwitch (p : Part) (own : Bool) (s : State) : Res :=
  onPart p (fun v => v.onC (fun c => c.toCycleStart.setReg 0x1015 0 1))
    (fun x => if own then (x.onFleet (fun f => { f with active := true })).onC Common.toCycleStart
      else x.onC (fun c => c.toCycleStart.setReg 0x1015 0 1)) s

end Sys2Proof.Machine
end

