-- ==== Sys2Proof/Machine/Fp.lean ====
section
/-! DEFINITION. Floating-point values as exact numbers (R16, R313, R315, R338 to R343): decoding of the formats, and one
rounding, to nearest with ties to even. -/

namespace Sys2Proof.Machine

/-- A floating-point value: NaN, an infinity, or plus or minus m × 2^e. -/
inductive Fp where
  | nan
  | inf (neg : Bool)
  | fin (neg : Bool) (m : Nat) (e : Int)
  deriving DecidableEq, Repr

/-- Decodes an IEEE format: exponent and fraction widths, and the exponent of the subnormal unit. -/
def fpDecode (ew fw : Nat) (unit : Int) (b : Nat) : Fp :=
  let neg := bitOf b (ew + fw)
  let ex := b / 2 ^ fw % 2 ^ ew
  let fr := b % 2 ^ fw
  if ex = 2 ^ ew - 1 then (if fr = 0 then .inf neg else .nan)
  else if ex = 0 then .fin neg fr unit
  else .fin neg (2 ^ fw + fr) (unit + (ex : Int) - 1)

/-- binary32. -/
def fp32 (b : Nat) : Fp := fpDecode 8 23 (-149) b

/-- binary64. -/
def fp64 (b : Nat) : Fp := fpDecode 11 52 (-1074) b

/-- BF16. -/
def bf16 (b : Nat) : Fp := fpDecode 8 7 (-133) b

/-- E5M2 (FP8 with infinities). -/
def e5m2 (b : Nat) : Fp := fpDecode 5 2 (-16) b

/-- E4M3 (FP8 without infinities; one NaN magnitude). -/
def e4m3 (b : Nat) : Fp :=
  let neg := bitOf b 7
  let ex := b / 8 % 16
  let fr := b % 8
  if ex = 15 ∧ fr = 7 then .nan
  else if ex = 0 then .fin neg fr (-9)
  else .fin neg (8 + fr) ((ex : Int) - 10)

/-- E2M1 (FP4). -/
def e2m1 (b : Nat) : Fp :=
  let neg := bitOf b 3
  let ex := b / 2 % 4
  if ex = 0 then .fin neg (b % 2) (-1) else .fin neg (2 + b % 2) ((ex : Int) - 2)

/-- A two's-complement integer of width w times 2^e. -/
def fpInt (w : Nat) (e : Int) (b : Nat) : Fp :=
  let i := ofTwos w b
  .fin (decide (i < 0)) i.natAbs e

/-- A power of two as a natural number, for exponents at least 0. -/
def pow2 (e : Int) : Nat := 2 ^ e.toNat

/-- The magnitude m × 2^e in units of 2^q, rounded to nearest, ties to even. -/
def roundUnits (m : Nat) (e q : Int) : Nat :=
  if q ≤ e then m * pow2 (e - q)
  else
    let d := pow2 (q - e)
    let n := m / d
    let r := m % d
    if d < 2 * r ∨ (2 * r = d ∧ n % 2 = 1) then n + 1 else n

/-- Rounds plus or minus m × 2^e to an IEEE format, and says whether the magnitude overflowed to infinity. -/
def fpRound (ew fw : Nat) (unit : Int) (neg : Bool) (m : Nat) (e : Int) : Nat × Bool :=
  let sign := b2n neg * 2 ^ (ew + fw)
  if m = 0 then (sign, false)
  else
    let q := max unit (e + (Nat.log2 m : Int) - (fw : Int))
    let n0 := roundUnits m e q
    let n := if n0 = 2 ^ (fw + 1) then 2 ^ fw else n0
    let q1 := if n0 = 2 ^ (fw + 1) then q + 1 else q
    let ex := (q1 - unit).toNat + 1
    if 2 ^ ew - 1 ≤ ex then (sign + (2 ^ ew - 1) * 2 ^ fw, true)
    else if n < 2 ^ fw then (sign + n, false)
    else (sign + ex * 2 ^ fw + (n - 2 ^ fw), false)

/-- The canonical quiet NaN of binary32 (R315, R342, R343). -/
def nan32 : Nat := 0x7FC00000

/-- An exact value rounded to binary32. -/
def Fp.to32 : Fp → Nat
  | .nan => nan32
  | .inf neg => b2n neg * 2 ^ 31 + 0x7F800000
  | .fin neg m e => (fpRound 8 23 (-149) neg m e).1

/-- The exact sum of two values; a zero sum is -0 only when both operands are negative. -/
def Fp.add : Fp → Fp → Fp
  | .nan, _ => .nan
  | _, .nan => .nan
  | .inf a, .inf b => if a = b then .inf a else .nan
  | .inf a, _ => .inf a
  | _, .inf b => .inf b
  | .fin a m e, .fin b n f =>
    let q := min e f
    let x : Int := (m * pow2 (e - q) : Nat)
    let y : Int := (n * pow2 (f - q) : Nat)
    let s := (if a then -x else x) + (if b then -y else y)
    if s = 0 then .fin (a && b) 0 q else .fin (decide (s < 0)) s.natAbs q

/-- The exact product. -/
def Fp.mul : Fp → Fp → Fp
  | .nan, _ => .nan
  | _, .nan => .nan
  | .inf a, .inf b => .inf (a != b)
  | .inf a, .fin b n _ => if n = 0 then .nan else .inf (a != b)
  | .fin a m _, .inf b => if m = 0 then .nan else .inf (a != b)
  | .fin a m e, .fin b n f => .fin (a != b) (m * n) (e + f)

/-- The negation. -/
def Fp.neg : Fp → Fp
  | .nan => .nan
  | .inf a => .inf (!a)
  | .fin a m e => .fin (!a) m e

/-- A value times 2^k. -/
def Fp.scale (k : Int) : Fp → Fp
  | .fin a m e => .fin a m (e + k)
  | x => x

/-- Whether a value is NaN. -/
def Fp.isNan : Fp → Bool
  | .nan => true
  | _ => false

/-- Binary32 addition of bit patterns. -/
def add32 (a b : Nat) : Nat := ((fp32 a).add (fp32 b)).to32

/-- Binary32 multiplication of bit patterns. -/
def mul32 (a b : Nat) : Nat := ((fp32 a).mul (fp32 b)).to32

/-- Binary32 fused multiply-add of bit patterns. -/
def fma32 (a b c : Nat) : Nat := (((fp32 a).mul (fp32 b)).add (fp32 c)).to32

/-- The order of IEEE bit patterns of width w: numeric, with -0 below +0. -/
def ieeeOrder (w b : Nat) : Int :=
  if bitOf b (w - 1) then -((b % 2 ^ (w - 1) : Nat) + 1 : Int) else ((b : Nat) : Int)

/-- An integer as a binary32. -/
def int32 (i : Int) : Nat := (Fp.fin (decide (i < 0)) i.natAbs 0).to32

/-- The correctly rounded binary32 square root. -/
def sqrt32 (b : Nat) : Nat :=
  match fp32 b with
  | .nan => nan32
  | .inf neg => if neg then nan32 else 0x7F800000
  | .fin neg m e =>
    if m = 0 then b
    else if neg then nan32
    else
      let e1 := if e % 2 = 0 then e else e - 1
      let m1 := (if e % 2 = 0 then m else 2 * m) * 2 ^ 64
      let r := Nat.sqrt m1
      (fpRound 8 23 (-149) false (2 * r + b2n (decide (r * r ≠ m1))) (e1 / 2 - 33)).1

/-- A binary32 to INT32, to nearest, ties to even, saturated; NaN gives 0 (R343). -/
def toInt32 (b : Nat) : Nat :=
  match fp32 b with
  | .nan => 0
  | .inf neg => if neg then 2 ^ 31 else 2 ^ 31 - 1
  | .fin neg m e =>
    let n := roundUnits m e 0
    if neg then toTwos 32 (-(min n (2 ^ 31) : Nat) : Int) else min n (2 ^ 31 - 1)

end Sys2Proof.Machine
end

