-- ==== Sys2Proof/Machine/StreamTable.lean ====
section
/-! DEFINITION. The stream table (R280 to R283) and the sessions that own its entries. -/

namespace Sys2Proof.Machine

variable {kd : Part}

/-- A FREE entry with an EPOCH. -/
def entryFree (epoch : Nat) : Entry :=
  { state := 0, kind := 0, cls := 0, route := 0, epoch := epoch, session := 0, outStream := 0, outEpoch := 0, inPorts := 0,
    inCount := 0, interval := 0, elements := 0, redDesc := 0, tanSlot := 0, rateIn := 0, rateOut := 0, frames := 0,
    stale := 0, missing := 0, ended := [] }

/-- An entry; one that is not listed is FREE with EPOCH 0. -/
def Shopostra.entry (x : Shopostra) (t : Nat) : Entry := lookupD (entryFree 0) x.table t

/-- Writes an entry. -/
def Shopostra.setEntry (x : Shopostra) (t : Nat) (e : Entry) : Shopostra := { x with table := putKey x.table t e }

/-- ROUTE bits (Table 8-1). -/
def Entry.toParent (e : Entry) : Bool := bitOf e.route 0
def Entry.toTangent (e : Entry) : Bool := bitOf e.route 1
def Entry.toHistory (e : Entry) : Bool := bitOf e.route 2
def Entry.logs (e : Entry) : Bool := bitOf e.route 3
def Entry.forwards (e : Entry) : Bool := bitOf e.route 4

/-- Ports that carry input to an entry. -/
def Entry.ports (e : Entry) : List Nat := (List.range 48).filter (fun p => bitOf e.inPorts p)

/-- Tags of the entries that are not FREE. -/
def Shopostra.usedTags (x : Shopostra) : List Nat :=
  (x.table.filter (fun q => decide (q.2.state ≠ 0))).map (fun q => q.1)

/-- Tags of a session's entries. -/
def Shopostra.sessionTags (x : Shopostra) (n : Nat) : List Nat :=
  (x.table.filter (fun q => decide (q.2.state ≠ 0 ∧ q.2.session = n))).map (fun q => q.1)

/-- Whether an entry may be allocated: FREE, and neither 0 nor 0xFFFF (R280). -/
def Shopostra.tagFree (x : Shopostra) (t : Nat) : Bool :=
  decide (1 ≤ t ∧ t ≤ 0xFFFE) && decide ((x.entry t).state = 0)

/-- The lowest FREE tag at or above `t`, within `fuel` tags. -/
def Shopostra.freeTagFrom (x : Shopostra) : Nat → Nat → Option Nat
  | 0, _ => none
  | fuel + 1, t => if x.tagFree t then some t else x.freeTagFrom fuel (t + 1)

/-- The lowest FREE tag (R282). A table of n used entries has a FREE tag among the first n + 1. -/
def Shopostra.freeTag (x : Shopostra) : Option Nat := x.freeTagFrom (min 65534 (x.usedTags.length + 1)) 1

/-- The 64 bytes of an entry (Table 8-1). -/
def Entry.bytes (e : Entry) : List Nat :=
  [e.state, e.kind, e.cls, e.route] ++ bytesLE 4 e.epoch ++ bytesLE 4 e.session ++ bytesLE 2 e.outStream ++ [e.outEpoch, 0] ++
    bytesLE 6 e.inPorts ++ bytesLE 2 e.inCount ++ bytesLE 4 e.interval ++ bytesLE 4 e.elements ++ bytesLE 2 e.redDesc ++
    bytesLE 2 e.tanSlot ++ bytesLE 4 e.rateIn ++ bytesLE 4 e.rateOut ++ bytesLE 8 e.frames ++ bytesLE 4 e.stale ++
    bytesLE 4 e.missing ++ List.replicate 4 0

/-! ## Sessions -/

/-- The record number of a session held at the part. -/
def Common.sessionSlot (c : Common kd) (n : Nat) : Option Nat :=
  if n = 0 then none
  else (List.range 256).find? (fun k => decide (c.reg (0x4100 + k) 1 = n ∧ c.reg (0x4100 + k) 2 ≠ 0))

/-- A session before anything is known of it. -/
def sessionNew : Session :=
  { t0 := 0, tAct := 0, tD := 0, deadline := 0, tStop := none, crc := 0, need := 0, slices := [], desc := [], held := false,
    parentTags := [], tags := [], refusal := (0, 0xFFFFFFFF), resent := false, receipts := [], acks := [], ackSent := false, commit := false,
    late := false, drains := [], timeouts := 0, drainSent := false, ended := none }

/-- What no object shows of the session in a record. -/
def Common.session (c : Common kd) (k : Nat) : Session := lookupD sessionNew c.strm.sessions k

/-- Writes what no object shows of the session in a record. -/
def Common.setSession (c : Common kd) (k : Nat) (q : Session) : Common kd :=
  { c with strm := { c.strm with sessions := putKey c.strm.sessions k q } }

/-- STATE of a record. -/
def Common.sessionState (c : Common kd) (k : Nat) : Nat := c.reg (0x4100 + k) 2

/-- Writes STATE of a record. -/
def Common.setSessionState (c : Common kd) (k n : Nat) : Common kd := c.setReg (0x4100 + k) 2 n

/-- T_stop of a session, when it has one. -/
def Common.stopOf (c : Common kd) (n : Nat) : Option Ticks :=
  match c.sessionSlot n with
  | none => none
  | some k => (c.session k).tStop

/-- The member dies that a child port acknowledged for a session (R291). -/
def Common.diesBehind (c : Common kd) (n port : Nat) : Nat :=
  match c.sessionSlot n with
  | none => 0
  | some k => match (c.session k).acks.find? (fun a => decide (a.1 = port)) with
    | some a => a.2.dies
    | none => 0

/-! ### The descriptor (Tables 8-1 and 8-3) -/

/-- A little-endian field of a list of bytes. -/
def leAt (b : List Nat) (off n : Nat) : Nat := fromLE ((b.drop off).take n)

/-- The member ranges. -/
def descRanges (b : List Nat) : List (Nat × Nat) :=
  (List.range (leAt b 2 2)).map (fun i => (leAt b (16 + 8 * i) 4, leAt b (20 + 8 * i) 4))

/-- A template: its number, its 64 bytes, and a LEVEL 0 template's object writes (index, subindex, word, data). -/
structure Template where
  num : Nat
  b : List Nat
  writes : List (Nat × Nat × Nat × Nat)
  deriving DecidableEq, Repr

/-- Reads templates from an offset on. -/
def templatesFrom (b : List Nat) : Nat → Nat → Nat → List Template
  | 0, _, _ => []
  | n + 1, j, off =>
    let t := (b.drop off).take 64
    let w := if nth 0 t 15 = 0 then leAt t 22 2 else 0
    let ws := (List.range w).map (fun i =>
      let o := off + 64 + 16 * i
      (leAt b o 2, nth 0 b (o + 2), nth 0 b (o + 3), leAt b (o + 8) 8))
    { num := j, b := t, writes := ws } :: templatesFrom b n (j + 1) (off + 64 + 16 * w)

/-- The templates of a descriptor. -/
def descTemplates (b : List Nat) : List Template := templatesFrom b (leAt b 4 2) 0 (16 + 8 * leAt b 2 2)

/-- Bytes a descriptor takes. -/
def descSize (b : List Nat) : Nat :=
  16 + 8 * leAt b 2 2 + ((descTemplates b).map (fun t => 64 + 16 * t.writes.length)).sum

/-- LEVEL of a template. -/
def Template.level (t : Template) : Nat := nth 0 t.b 15

/-- The template at the next level up that takes the output; 0xFFFF for none. -/
def Template.out (t : Template) : Nat := leAt t.b 12 2

/-- Templates of a level, in order. A die holds the slices up to its own level's last, and no template beyond them. -/
def levelTemplates (b : List Nat) (level : Nat) : List Template :=
  (descTemplates b).filter (fun t => decide (t.level = level ∧ t.b.length = 64))

/-- Whether a logical address is a member die of a descriptor. -/
def memberDie (b : List Nat) (l : Nat) : Bool :=
  decide (tierOf l = 0) && (descRanges b).any (fun r => decide (r.1 ≤ l % 2 ^ 20 ∧ l % 2 ^ 20 < r.1 + r.2))

/-- Whether some reserved or zero field of a template is not zero, or a field is out of range. -/
def Template.bad (t : Template) : Bool :=
  decide (t.b.length < 64) || decide (4 < t.level) || decide (7 < nth 0 t.b 1) || decide (7 < nth 0 t.b 2) ||
    decide (31 < nth 0 t.b 3) || decide (nth 0 t.b 0 ≠ 0) || decide (leAt t.b 4 8 ≠ 0) || decide (leAt t.b 16 6 ≠ 0) ||
    (decide (t.level ≠ 0) && decide (leAt t.b 22 2 ≠ 0)) || (t.b.drop 44).any (fun v => decide (v ≠ 0)) ||
    decide (nth 0 t.b 14 ≠ 0)

/-- Whether a descriptor of so many bytes is malformed (R285, code 10). -/
def descBad (b : List Nat) (len : Nat) : Bool :=
  let ts := descTemplates b
  decide (len < 16 ∨ 65536 < len) || decide (nth 0 b 0 ≠ 1) || decide (nth 0 b 1 ≠ 0) || decide (leAt b 6 2 ≠ 0) ||
    decide (leAt b 12 4 ≠ 0) || decide (leAt b 2 2 = 0 ∨ 4096 < leAt b 2 2) || decide (descSize b ≠ len) ||
    (List.range 5).any (fun l => decide (32 < (ts.filter (fun t => decide (t.level = l))).length)) ||
    ts.any (fun t => t.bad || !(decide (t.out = 0xFFFF) ||
      (match ts.find? (fun u => decide (u.num = t.out)) with | some u => decide (u.level = t.level + 1) | none => false)))

/-- Whether the descriptor of a session names member die l. -/
def Common.isMember (c : Common kd) (n l : Nat) : Bool :=
  match c.sessionSlot n with
  | none => false
  | some k => memberDie (c.session k).desc l

/-! ## Frames (R283) -/

/-- Adds one to a NONDET_EVENTS cause and to the total (Table 11-3). -/
def Common.nondet (c : Common kd) (sub : Nat) : Common kd := (c.bump 0x6010 sub).bump 0x6010 1

/-- Depth of an aggregator: 0 at the apex, 3 at a tray. -/
def Common.depth (c : Common kd) : Nat :=
  match c.kind with
  | .vangeg => 4
  | .shopostra => 3 - c.reg 0x1012 0

/-- A DATA frame held to the stream table: whether entry t takes it. A refused frame is counted and logged under code
0x0610; a frame before T_act is counted as early. -/
def Shopostra.acceptFrame (x : Shopostra) (port lane tag epoch8 : Nat) : Shopostra × Bool :=
  let e := x.entry tag
  if e.state = 0 ∨ e.epoch % 256 ≠ epoch8 ∨ ¬ bitOf e.inPorts port ∨ port ∈ e.ended then
    let x1 := if e.state = 0 then x else x.setEntry tag { e with stale := (e.stale + 1) % 2 ^ 32 }
    (x1.onC (fun c => (c.bump 0x4020 6).violation port lane 0x0610), false)
  else if e.state = 1 then (x.onC (fun c => c.bump 0x4020 1), false)
  else (x.setEntry tag { e with frames := (e.frames + 1) % 2 ^ 64 }, true)

/-- An input for an interval at or after T_stop (R294): counted, with no record. -/
def Shopostra.staleInput (x : Shopostra) (tag : Nat) : Shopostra :=
  let e := x.entry tag
  (x.setEntry tag { e with stale := (e.stale + 1) % 2 ^ 32 }).onC (fun c => c.bump 0x4020 6)

/-- The class of an entry's own output and of its END: what is re-sent, chord records and rounds go under CLASS of the
entry (R624, R628), a reduced output under DUMP (R325). -/
def Entry.outClass (e : Entry) : Nat := if e.forwards ∨ e.kind = 3 ∨ e.kind = 4 then e.cls else 1

/-- Sends a message of an entry to its parent, under a class (R325, R362, R624). -/
def Shopostra.sendUp (x : Shopostra) (cls tag source : Nat) (bytes : List Nat) : Shopostra :=
  let e := x.entry tag
  if e.toParent then
    x.onC (fun c => (c.submit (linkUnit cls ((c.destPorts .activeParent).headD 0) (framesOf bytes.length) (200 + tag) true
      [.data .activeParent e.outStream e.outEpoch source bytes])).1)
  else x

/-- Emits an output message of an entry: to its parent and into its ring (R325, R489). -/
def Shopostra.emit (x : Shopostra) (cls tag : Nat) (replay : Bool) (instant : Ticks) (bytes : List Nat) : Shopostra :=
  let e := x.entry tag
  let x1 := x.sendUp cls tag x.c.logical bytes
  if e.toHistory then
    match x1.ringOf tag with
    | some k => x1.ringAppend k replay tag e.session (totalNs x1.c.mode x1.c.epoch instant) bytes
    | none => x1
  else x1

end Sys2Proof.Machine
end

