-- ==== Sys2Proof/Machine/Reduce.lean ====
section
/-! DEFINITION. Reduction descriptors and the operators' arithmetic (R302 to R324): elements, folding, merging, partial
forms and read-out. -/

namespace Sys2Proof.Machine

/-! ## Descriptors (Tables 9-1 and 9-2) -/

/-- A run of a descriptor. -/
structure Run where
  offset : Nat
  count : Nat
  stride : Nat
  inType : Nat
  op : Nat
  param : Nat
  payload : Nat
  payloadOff : Nat
  deriving DecidableEq, Repr

/-- A descriptor before anything is written. -/
def descEmpty : RedDesc := { words := [], status := 0 }

/-- A descriptor of the part. -/
def Shopostra.redDesc (x : Shopostra) (d : Nat) : RedDesc := lookupD descEmpty x.red.descs d

/-- The 512 bytes of a descriptor. -/
def RedDesc.bytes (d : RedDesc) : List Nat := (List.range 64).flatMap (fun w => bytesLE 8 (lookupD 0 d.words w))

/-- Run r of a descriptor's bytes. -/
def runAt (b : List Nat) (r : Nat) : Run :=
  let o := 16 + 16 * r
  { offset := leAt b o 2, count := leAt b (o + 2) 2, stride := leAt b (o + 4) 2, inType := nth 0 b (o + 6), op := nth 0 b (o + 7),
    param := nth 0 b (o + 8), payload := leAt b (o + 10) 2, payloadOff := leAt b (o + 12) 2 }

/-- The runs of a descriptor. -/
def RedDesc.runs (d : RedDesc) : List Run := (List.range (nth 0 d.bytes 1)).map (fun r => runAt d.bytes r)

/-- SLACK, SHARD_OFF and SHARD_DEPTH. -/
def RedDesc.slack (d : RedDesc) : Nat := leAt d.bytes 2 2
def RedDesc.shardOff (d : RedDesc) : Nat := leAt d.bytes 4 2
def RedDesc.shardDepth (d : RedDesc) : Nat := nth 0 d.bytes 6

/-- Whether an operator accepts an input type (R305); PARTIAL goes with every operator. -/
def opTakes (op ty : Nat) : Bool :=
  decide (ty = 9) ||
    (match op with
     | 0 => decide (ty ≤ 3)
     | 1 => decide (ty = 4)
     | 2 => decide (ty = 5 ∨ ty = 6)
     | 7 => decide (ty ≤ 8)
     | 9 => decide (ty = 8)
     | _ => decide (ty ≤ 7))

/-- Whether PARAM, PAYLOAD and PAYLOAD_OFF of a run are in range (Table 9-2, R320). -/
def Run.paramGood (r : Run) : Bool :=
  match r.op with
  | 5 => decide (1 ≤ r.param ∧ r.param ≤ 32 ∧ r.payload ≤ 240 ∧ r.payload % 8 = 0)
  | 6 => decide (1 ≤ r.param ∧ r.param ≤ 32 ∧ r.payload ≤ 240 ∧ r.payload % 8 = 0)
  | 8 => (let s := ofTwos 8 r.param
          (if r.inType = 5 ∨ r.inType = 6 ∨ r.inType = 9 then decide (-64 ≤ s ∧ s ≤ 63) else decide (0 ≤ s ∧ s ≤ 63)) &&
            decide (r.payload = 0 ∧ r.payloadOff = 0))
  | 2 => decide (r.param ≤ 1 ∧ (r.param = 0 ∨ r.inType = 5 ∨ r.inType = 9) ∧ r.payload = 0 ∧ r.payloadOff = 0)
  | _ => decide (r.param = 0 ∧ r.payload = 0 ∧ r.payloadOff = 0)

/-- Whether a run is good (R304 to R306). -/
def Run.good (r : Run) : Bool :=
  decide (1 ≤ r.count ∧ (r.stride ≠ 0 ∨ r.count = 1) ∧ r.op ≤ 9 ∧ r.inType ≤ 9) && opTakes r.op r.inType && r.paramGood

/-- Whether a descriptor passes its commit (R302 to R306). -/
def RedDesc.good (d : RedDesc) : Bool :=
  let b := d.bytes
  decide (nth 0 b 0 = 1 ∧ 1 ≤ nth 0 b 1 ∧ nth 0 b 1 ≤ 31 ∧ 1 ≤ d.slack ∧ d.slack ≤ 10000 ∧ d.shardDepth ≤ 3) &&
    ((b.drop 7).take 9).all (fun v => decide (v = 0)) &&
    (List.range (nth 0 b 1)).all (fun r =>
      (runAt b r).good && decide (nth 0 b (25 + 16 * r) = 0 ∧ leAt b (30 + 16 * r) 2 = 0))

/-! ## Values (R304, R316) -/

/-- Bytes of an input value. -/
def typeBytes (ty : Nat) : Nat :=
  match ty with
  | 0 => 4 | 1 => 4 | 5 => 4 | 7 => 6 | _ => 8

/-- The key of a value, extended to 64 bits (R304, R317); `base` is bits [39:0] of the interval instant. -/
def keyOf (ty base v : Nat) : Nat :=
  match ty with
  | 1 => toTwos 64 (ofTwos 32 v)
  | 7 => toTwos 64 (ofTwos 40 (v % 2 ^ 40 + 2 ^ 40 - base))
  | _ => v

/-- The order of keys (R316). -/
def keyOrder (ty k : Nat) : Int :=
  match ty with
  | 0 => (k : Int) | 2 => (k : Int)
  | 5 => ieeeOrder 32 k
  | 6 => ieeeOrder 64 k
  | _ => ofTwos 64 k

/-- Whether a key is NaN. -/
def keyNan (ty k : Nat) : Bool := if ty = 5 then (fp32 k).isNan else if ty = 6 then (fp64 k).isNan else false

/-- Whether key a ranks before key b: lowest first for MIN and ARGMIN, highest first for MAX and ARGMAX. -/
def keyBefore (lowest : Bool) (ty a b : Nat) : Bool :=
  if lowest then decide (keyOrder ty a < keyOrder ty b) else decide (keyOrder ty b < keyOrder ty a)

/-- Whether an operator ranks the lowest key first. -/
def opLowest (op : Nat) : Bool := op = 3 || op = 5

/-- The empty element of a run. -/
def emptyElem (r : Run) : RedElem :=
  match r.op with
  | 0 => .sum 0 false
  | 1 => .sum 0 false
  | 2 => .fp 0 (r.inType = 6) false false false false false
  | 3 => .ext none false r.inType
  | 4 => .ext none false r.inType
  | 5 => .arg [] false r.inType
  | 6 => .arg [] false r.inType
  | 7 => .count 0
  | 8 => .lattice 0 0 0 []
  | _ => .vote 0 false []

/-! ## LATTICE (R320 to R322) -/

/-- The bucket of x before the clamp. -/
def latticeBucket (x : Nat) : Nat :=
  if x < 64 then x else 64 * (Nat.log2 x - 5) + x / 2 ^ (Nat.log2 x - 6) - 64

/-- Lower edge and width of a bucket. -/
def bucketEdge (b : Nat) : Nat × Nat :=
  if b < 64 then (b, 1) else ((64 + b % 64) * 2 ^ (b / 64 - 1), 2 ^ (b / 64 - 1))

/-- What a value does to a LATTICE element. -/
inductive LatticeHit where
  | neg | nan | above | bucket (b : Nat)
  deriving DecidableEq, Repr

/-- The hit of an unsigned x. -/
def latticeOf (x : Nat) : LatticeHit := if 2047 < latticeBucket x then .above else .bucket (latticeBucket x)

/-- The hit of a value of a type at a scale (R320). -/
def latticeHit (ty scale key : Nat) : LatticeHit :=
  let fpHit := fun (v : Fp) => match v with
    | .nan => LatticeHit.nan
    | .inf neg => if neg then .neg else .above
    | .fin neg m e =>
      let q := e + ofTwos 8 scale
      if neg ∧ m ≠ 0 then .neg
      else
        let n := if 0 ≤ q then m * pow2 q else m / pow2 (-q)
        if 2 ^ 64 ≤ n then .above else latticeOf n
  match ty with
  | 0 => latticeOf (key / 2 ^ scale)
  | 2 => latticeOf (key / 2 ^ scale)
  | 5 => fpHit (fp32 key)
  | 6 => fpHit (fp64 key)
  | _ => if ofTwos 64 key < 0 then .neg else latticeOf (key / 2 ^ scale)

/-- Adds to a bucket of a list in bucket order, modulo 2^64. -/
def addBucket (b n : Nat) : List (Nat × Nat) → List (Nat × Nat)
  | [] => if n % 2 ^ 64 = 0 then [] else [(b, n % 2 ^ 64)]
  | (c, k) :: l =>
    if b < c then (if n % 2 ^ 64 = 0 then (c, k) :: l else (b, n % 2 ^ 64) :: (c, k) :: l)
    else if b = c then (if (k + n) % 2 ^ 64 = 0 then l else (c, (k + n) % 2 ^ 64) :: l)
    else (c, k) :: addBucket b n l

/-! ## VOTE (R323) -/

/-- A number put in its place in a rising list without repeats. -/
def insertUp (n : Nat) : List Nat → List Nat
  | [] => [n]
  | a :: l => if n < a then n :: a :: l else if n = a then a :: l else a :: insertUp n l

/-- Joins a group to a list of groups. -/
def joinGroup (g : Nat × Nat × List Nat) : List (Nat × Nat × List Nat) → List (Nat × Nat × List Nat)
  | [] => [g]
  | h :: l =>
    if h.1 = g.1 then (h.1, h.2.1 + g.2.1, (g.2.2.foldl (fun a n => insertUp n a) h.2.2).take 16) :: l
    else h :: joinGroup g l

/-- Whether group a precedes group b: higher count, then lower first address. -/
def groupBefore (a b : Nat × Nat × List Nat) : Bool :=
  decide (b.2.1 < a.2.1) || (decide (a.2.1 = b.2.1) && decide (a.2.2.headD 0 < b.2.2.headD 0))

/-- A group put in its rank. -/
def rankGroup (g : Nat × Nat × List Nat) : List (Nat × Nat × List Nat) → List (Nat × Nat × List Nat)
  | [] => [g]
  | h :: l => if groupBefore g h then g :: h :: l else h :: rankGroup g l

/-- Merges votes: totals, spills and groups. -/
def mergeVotes (t1 t2 : Nat) (s1 s2 : Bool) (g1 g2 : List (Nat × Nat × List Nat)) : RedElem :=
  let joined := g2.foldl (fun a g => joinGroup g a) g1
  if s1 || s2 || decide (8 < joined.length) then .vote (t1 + t2) true []
  else .vote (t1 + t2) false (joined.foldl (fun a g => rankGroup g a) [])

/-! ## ARGMIN and ARGMAX (R318) -/

/-- An entry put in its rank: keys in order, then logical addresses. -/
def rankEntry (lowest : Bool) (ty : Nat) (g : Nat × Nat × List Nat) : List (Nat × Nat × List Nat) → List (Nat × Nat × List Nat)
  | [] => [g]
  | h :: l =>
    if keyBefore lowest ty g.1 h.1 || (decide (keyOrder ty g.1 = keyOrder ty h.1) && decide (g.2.1 < h.2.1)) then g :: h :: l
    else h :: rankEntry lowest ty g l

/-! ## Folding and merging -/

/-- Limb scale of SUM_FP: the exponent of bit 0 (R313). -/
def fpUnit (is64 : Bool) : Int := if is64 then -1088 else -192

/-- Folds an input value into an element: `key` is the value extended to 64 bits. -/
def foldValue (r : Run) (source key : Nat) (payload : List Nat) (e : RedElem) : RedElem :=
  match e with
  | .sum v _ =>
    (if r.inType = 0 ∨ r.inType = 2 then .sum (v + (key : Int)) true else .sum (v + ofTwos 64 key) true)
  | .fp v is64 any negz ninf pinf nan =>
    (match (if r.inType = 6 then fp64 key else fp32 key) with
     | .nan => .fp v is64 true (if any then negz else true) ninf pinf true
     | .inf neg => .fp v is64 true false (ninf || neg) (pinf || !neg) nan
     | .fin neg m ex =>
       (let a : Int := (m * pow2 (ex - fpUnit is64) : Nat)
        let isNegz := decide (m = 0) && neg
        .fp (v + (if neg then -a else a)) is64 true (if any then negz && isNegz else isNegz) ninf pinf nan))
  | .ext k seen ty =>
    (if keyNan r.inType key then .ext k true ty
     else match k with
       | none => .ext (some key) seen ty
       | some old => .ext (some (if keyBefore (opLowest r.op) r.inType key old then key else old)) seen ty)
  | .arg l seen ty =>
    (if keyNan r.inType key then .arg l true ty
     else .arg ((rankEntry (opLowest r.op) r.inType (key, source, payload) l).take r.param) seen ty)
  | .count n => .count (n + 1)
  | .lattice neg nan above l =>
    (match latticeHit r.inType r.param key with
     | .neg => .lattice ((neg + 1) % 2 ^ 64) nan above l
     | .nan => .lattice neg ((nan + 1) % 2 ^ 64) above l
     | .above => .lattice neg nan ((above + 1) % 2 ^ 64) (addBucket 2047 1 l)
     | .bucket b => .lattice neg nan above (addBucket b 1 l))
  | .vote t s g => mergeVotes t 1 s false g [(key, 1, [source])]

/-- Merges two partials of one element (R311 to R323); `r` gives K. -/
def mergeElem (r : Run) (a b : RedElem) : RedElem :=
  match a, b with
  | .sum v p, .sum w q => .sum (v + w) (p || q)
  | .fp v k a1 z1 n1 p1 x1, .fp w _ a2 z2 n2 p2 x2 =>
    .fp (v + w) k (a1 || a2) (if a1 && a2 then z1 && z2 else if a1 then z1 else z2) (n1 || n2) (p1 || p2) (x1 || x2)
  | .ext none s1 ty, .ext k s2 _ => .ext k (s1 || s2) ty
  | .ext (some k) s1 ty, .ext none s2 _ => .ext (some k) (s1 || s2) ty
  | .ext (some k) s1 ty, .ext (some j) s2 _ =>
    .ext (some (if keyBefore (opLowest r.op) ty j k then j else k)) (s1 || s2) ty
  | .arg l s1 ty, .arg m s2 _ =>
    .arg ((m.foldl (fun acc g => rankEntry (opLowest r.op) ty g acc) l).take r.param) (s1 || s2) ty
  | .count n, .count m => .count ((n + m) % 2 ^ 64)
  | .lattice n1 x1 o1 l, .lattice n2 x2 o2 m =>
    .lattice ((n1 + n2) % 2 ^ 64) ((x1 + x2) % 2 ^ 64) ((o1 + o2) % 2 ^ 64) (m.foldl (fun acc q => addBucket q.1 q.2 acc) l)
  | .vote t1 s1 g1, .vote t2 s2 g2 => mergeVotes t1 t2 s1 s2 g1 g2
  | e, _ => e

/-- Whether two partials record the same original type (R305). -/
def sameType (a b : RedElem) : Bool :=
  match a, b with
  | .fp _ k _ _ _ _ _, .fp _ j _ _ _ _ _ => k == j
  | .ext _ _ t, .ext _ _ u => t == u
  | .arg _ _ t, .arg _ _ u => t == u
  | _, _ => true

/-! ## Partial forms (Table 9-3) -/

/-- The limbs of a two's-complement accumulator. -/
def limbsOf (n : Nat) (v : Int) : List Nat := (List.range n).map (fun i => toTwos (64 * n) v / 2 ^ (64 * i) % 2 ^ 64)

/-- Drops leading entries equal to `s`. -/
def dropSame (s : Nat) : List Nat → List Nat
  | [] => []
  | a :: l => if a = s then dropSame s l else a :: l

/-- Head and carried limbs of a SUM_FP partial (R314). -/
def fpPartial (v : Int) (is64 any negz ninf pinf nan : Bool) : List Nat :=
  let n := if is64 then 34 else 6
  let sign := decide (v < 0)
  let limbs := limbsOf n v
  let low := dropSame 0 limbs
  let run := (dropSame (if sign then 2 ^ 64 - 1 else 0) low.reverse).reverse
  let first := if v = 0 then 0 else n - low.length
  let head := run.length + first * 2 ^ 8 + b2n nan * 2 ^ 16 + b2n pinf * 2 ^ 17 + b2n ninf * 2 ^ 18 + b2n negz * 2 ^ 19 +
    b2n any * 2 ^ 20 + b2n (sign) * 2 ^ 21 + b2n is64 * 2 ^ 23
  head :: run

/-- A count as sparse entries of one bucket, each at most 2^53 - 1. -/
def sparse (b : Nat) : Nat → Nat → List Nat
  | 0, _ => []
  | fuel + 1, n => if n = 0 then [] else (b * 2 ^ 53 + min n (2 ^ 53 - 1)) :: sparse b fuel (n - min n (2 ^ 53 - 1))

/-- The bytes of a partial element, padded to a multiple of 8 (R325). -/
def RedElem.bytes (op : Nat) (e : RedElem) : List Nat :=
  match e with
  | .sum v _ => bytesLE 16 (toTwos 128 v)
  | .fp v k a z n p x => (fpPartial v k a z n p x).flatMap (bytesLE 8)
  | .ext k s t => bytesLE 8 (k.getD 0) ++ bytesLE 8 (b2n k.isNone + 2 * b2n s + 256 * t)
  | .arg l s t => bytesLE 8 (l.length + 64 * b2n s + 256 * t) ++
      l.flatMap (fun g => bytesLE 8 g.1 ++ bytesLE 4 g.2.1 ++ List.replicate 4 0 ++ g.2.2)
  | .count n => bytesLE 8 n
  | .lattice neg nan above l =>
    (let es := l.flatMap (fun q => sparse q.1 2049 q.2)
     bytesLE 8 es.length ++ bytesLE 8 neg ++ bytesLE 8 nan ++ bytesLE 8 above ++ es.flatMap (bytesLE 8))
  | .vote t s g => bytesLE 8 (g.length + 16 * b2n s) ++ bytesLE 8 (t % 2 ^ 32) ++
      padded8 (g.flatMap (fun q => bytesLE 8 q.1 ++ bytesLE 4 q.2.1 ++ [q.2.2.length, 0, 0, 0] ++ q.2.2.flatMap (bytesLE 4)))
where
  /-- Bytes padded with zeros to a multiple of 8. -/
  padded8 (l : List Nat) : List Nat := if op = 9 then l ++ List.replicate ((l.length + 7) / 8 * 8 - l.length) 0 else l

/-- The largest size of a partial element (R310). -/
def Run.largest (r : Run) : Nat :=
  match r.op with
  | 2 => if r.inType = 5 then 56 else 280
  | 5 => 8 + r.param * (16 + r.payload)
  | 6 => 8 + r.param * (16 + r.payload)
  | 7 => 8
  | 8 => 16384
  | 9 => 656
  | _ => 16

/-- Reads n groups of a vote. -/
def readGroups (b : List Nat) : Nat → Nat → List (Nat × Nat × List Nat) × Nat
  | 0, off => ([], off)
  | n + 1, off =>
    let k := nth 0 b (off + 12)
    let addrs := (List.range k).map (fun i => leAt b (off + 16 + 4 * i) 4)
    let q := readGroups b n (off + 16 + 4 * k)
    ((leAt b off 8, leAt b (off + 8) 4, addrs) :: q.1, q.2)

/-- Reads a partial element of a run: the element and its bytes; none where it runs past the end. -/
def readElem (r : Run) (b : List Nat) : Option (RedElem × Nat) :=
  let h := leAt b 0 8
  let fits := fun (n : Nat) (e : RedElem) => if n ≤ b.length then some (e, n) else none
  match r.op with
  | 0 => fits 16 (.sum (ofTwos 128 (leAt b 0 16)) true)
  | 1 => fits 16 (.sum (ofTwos 128 (leAt b 0 16)) true)
  | 2 =>
    (let is64 := bitOf h 23
     let n := if is64 then 34 else 6
     let k := h % 256
     let first := h / 256 % 256
     let fill := if bitOf h 21 then 2 ^ 64 - 1 else 0
     let limb := fun i => if i < first then 0 else if i < first + k then leAt b (8 + 8 * (i - first)) 8 else fill
     let v := (List.range n).foldr (fun i acc => limb i + 2 ^ 64 * acc) 0
     fits (8 + 8 * k) (.fp (ofTwos (64 * n) v) is64 (bitOf h 20) (bitOf h 19) (bitOf h 18) (bitOf h 17) (bitOf h 16)))
  | 3 => fits 16 (.ext (if bitOf (leAt b 8 8) 0 then none else some h) (bitOf (leAt b 8 8) 1) (bits (leAt b 8 8) 11 8))
  | 4 => fits 16 (.ext (if bitOf (leAt b 8 8) 0 then none else some h) (bitOf (leAt b 8 8) 1) (bits (leAt b 8 8) 11 8))
  | 7 => fits 8 (.count h)
  | 8 =>
    (let m := h % 2 ^ 16
     let l := (List.range m).foldl (fun acc i =>
       let w := leAt b (32 + 8 * i) 8
       addBucket (w / 2 ^ 53) (w % 2 ^ 53) acc) []
     fits (32 + 8 * m) (.lattice (leAt b 8 8) (leAt b 16 8) (leAt b 24 8) l))
  | 9 =>
    (let q := readGroups b (h % 16) 16
     fits ((q.2 + 7) / 8 * 8) (.vote (leAt b 8 4) (bitOf h 4) q.1))
  | _ =>
    let n := h % 64
    let size := 16 + r.payload
    let l := (List.range n).map (fun i =>
      (leAt b (8 + size * i) 8, leAt b (16 + size * i) 4, (b.drop (24 + size * i)).take r.payload))
    fits (8 + size * n) (.arg l (bitOf h 6) (bits h 11 8))

/-- Reads n partial elements of a run. -/
def readElems (r : Run) : Nat → List Nat → Option (List RedElem × List Nat)
  | 0, b => some ([], b)
  | n + 1, b =>
    match readElem r b with
    | none => none
    | some (e, k) =>
      match readElems r n (b.drop k) with
      | none => none
      | some (l, rest) => some (e :: l, rest)

/-- Reads the runs of a child output after its header: every run head must give the run's number, OP and COUNT (R305). -/
def readRuns : List Run → Nat → List Nat → Option (List (List RedElem) × List Nat)
  | [], _, b => some ([], b)
  | r :: rs, n, b =>
    if b.length < 8 ∨ nth 0 b 0 ≠ n ∨ nth 0 b 1 ≠ r.op ∨ leAt b 2 2 ≠ r.count then none
    else
      match readElems r r.count (b.drop 8) with
      | none => none
      | some (l, rest) =>
        match readRuns rs (n + 1) rest with
        | none => none
        | some (ls, b2) => some (l :: ls, b2)

/-- The bytes of a run of an output: its head and its partials. -/
def runBytes (n : Nat) (r : Run) (l : List RedElem) : List Nat :=
  let b := l.flatMap (RedElem.bytes r.op)
  [n, r.op] ++ bytesLE 2 r.count ++ bytesLE 4 b.length ++ b

/-- The bytes of all runs, numbered from n. -/
def runsBytes : Nat → List Run → List (List RedElem) → List Nat
  | n, r :: rs, l :: ls => runBytes n r l ++ runsBytes (n + 1) rs ls
  | _, _, _ => []

/-! ## Read-out (R315, R322, R627) -/

/-- The exact SUM_FP value rounded to a format: the bits, and OVF. -/
def fpReadout (to64 : Bool) (v : Int) (is64 any negz ninf pinf nan : Bool) : Nat × Bool :=
  let nanBits := if to64 then 0x7FF8000000000000 else nan32
  let inf := fun (neg : Bool) => if to64 then b2n neg * 2 ^ 63 + 0x7FF0000000000000 else b2n neg * 2 ^ 31 + 0x7F800000
  if nan || (pinf && ninf) then (nanBits, false)
  else if pinf || ninf then (inf ninf, false)
  else if v = 0 then (if any && negz then (if to64 then 2 ^ 63 else 2 ^ 31) else 0, false)
  else if to64 then fpRound 11 52 (-1074) (decide (v < 0)) v.natAbs (fpUnit is64)
  else fpRound 8 23 (-149) (decide (v < 0)) v.natAbs (fpUnit is64)

/-- Saturation to Q32.32 raw units (R312). -/
def satQ (v : Int) : Nat × Bool :=
  if v < -(2 ^ 63 : Int) then (2 ^ 63, true)
  else if (2 ^ 63 : Int) ≤ v then (2 ^ 63 - 1, true)
  else (toTwos 64 v, false)

/-- The read-out of an element (Table 9-5a): value bytes, EMPTY, OVF, SAT. -/
def readout (r : Run) (q32 : Bool) (e : RedElem) : List Nat × Bool × Bool × Bool :=
  match e with
  | .sum v any =>
    (if r.op = 1 ∧ q32 then (bytesLE 8 (satQ v).1, !any, false, (satQ v).2) else (bytesLE 16 (toTwos 128 v), !any, false, false))
  | .fp v k a z n p x =>
    (let to64 := k || decide (r.param = 1)
     let q := fpReadout to64 v k a z n p x
     (bytesLE 8 q.1, !a, q.2, false))
  | .ext k _ _ => (e.bytes r.op, k.isNone, false, false)
  | .arg l _ _ => (e.bytes r.op, l.isEmpty, false, false)
  | .count n => (bytesLE 8 n, n = 0, false, false)
  | .lattice neg nan above l => (e.bytes r.op, l.isEmpty && decide (neg = 0 ∧ nan = 0 ∧ above = 0), false, false)
  | .vote t _ _ => (e.bytes r.op, t = 0, false, false)

/-- The lowest bucket whose cumulative count reaches a rank. -/
def bucketAt (rank : Nat) : List (Nat × Nat) → Nat
  | [] => 0
  | (b, n) :: l => if rank ≤ n then b else bucketAt (rank - n) l

/-- A quantile of a LATTICE element, q in units of 1/65,536 (R322): L(b), W(b) and N. -/
def quantile (q : Nat) (l : List (Nat × Nat)) : Nat × Nat × Nat :=
  let n := (l.map (fun e => e.2)).sum
  if n = 0 then (0, 0, 0)
  else
    let b := bucketAt (max 1 ((q * n + 65535) / 65536)) l
    ((bucketEdge b).1, (bucketEdge b).2, n)

/-- The staged forms of an element (Table 10-13): VALUE and AUX of each staged element. `qs` are the q values listed and
`dense` is LAT_MODE 1. -/
def stagedForms (r : Run) (dense : Bool) (qs : List Nat) (e : RedElem) : List (Nat × Nat) :=
  let exact := fun (v : Int) (sh : Int) => fpRound 8 23 (-149) (decide (v < 0)) v.natAbs sh
  match e with
  | .sum v any =>
    (let q := exact v (if r.op = 1 then -32 else 0)
     [(q.1, b2n (!any) + 2 * b2n q.2)])
  | .fp v k a z n p x =>
    (let q := fpReadout false v k a z n p x
     [(q.1, b2n (!a) + 2 * b2n q.2)])
  | .ext k seen ty => [((k.map (key32 ty)).getD 0, b2n k.isNone + 2 * b2n seen)]
  | .arg l _ ty => (List.range r.param).map (fun j =>
      match l[j]? with
      | some g => (key32 ty g.1, g.2.1)
      | none => (0, 0xFFFFFFFF))
  | .count n => [((exact (n : Int) 0).1, b2n (decide (n = 0)))]
  | .lattice _ _ _ l =>
    (if dense then (List.range 2048).map (fun b => (min (lookupD 0 l b) (2 ^ 31 - 1), 0))
     else
       let n := (l.map (fun q => q.2)).sum
       (qs.map (fun q =>
         let k := quantile q l
         (fpRound 8 23 (-149) false (2 * k.1 + k.2.1) (-1) |>.1,
          if n = 0 then 2 ^ 31 else min k.2.1 (2 ^ 31 - 1)))) ++ [((exact (n : Int) 0).1, 0)])
  | .vote t s g =>
    (let f := g.headD (0, 0, [])
     [(int32 t, f.1 % 2 ^ 32), (int32 f.2.1, f.1 / 2 ^ 32), (int32 g.length, b2n s), (int32 (b2n (decide (t < 2 * f.2.1))), 0)])
where
  /-- A key rounded to binary32; a STAMP key is in ns. -/
  key32 (ty k : Nat) : Nat :=
    if ty = 5 then k
    else if ty = 6 then (fp64 k).to32
    else if ty = 7 then (fpRound 8 23 (-149) (decide (ofTwos 64 k < 0)) (ofTwos 64 k).natAbs (-8)).1
    else if ty = 4 then (fpRound 8 23 (-149) (decide (ofTwos 64 k < 0)) (ofTwos 64 k).natAbs (-32)).1
    else if ty = 0 ∨ ty = 2 then int32 k
    else int32 (ofTwos 64 k)

/-- The staged elements that an empty interval presents: each form reads EMPTY (R359). -/
def stagedEmpty (r : Run) (dense : Bool) (qs : List Nat) : List (Nat × Nat) := stagedForms r dense qs (emptyElem r)

end Sys2Proof.Machine
end

