-- ==== Sys2Proof/Machine/Reduction.lean ====
section
/-! DEFINITION. The reduction array at work (09_reduction.md): intervals, closing and outputs, backup shards, the
recent-input log, replay, and faults. -/

namespace Sys2Proof.Machine

variable {kd : Part}

/-- A change of the reduction array. -/
def Shopostra.onRed (x : Shopostra) (f : Reduction → Reduction) : Shopostra := { x with red := f x.red }

/-! ## Descriptor table (R302) -/

/-- Whether a PREPARED, ACTIVE or DRAINING entry names a descriptor. -/
def Shopostra.descInUse (x : Shopostra) (d : Nat) : Bool :=
  x.table.any (fun q => decide (q.2.state ≠ 0 ∧ q.2.redDesc = d))

/-- RED_DESC_STATUS of the selected descriptor. -/
def Shopostra.descStatus (x : Shopostra) : Nat :=
  let d := x.c.reg 0x5010 0
  if x.descInUse d then 3 else (x.redDesc d).status

/-- A write of an object of the descriptor table: 0x5010:00 selects; 0x5011 subindices 1 data, 2 cursor, 3 commit. -/
def ruleRedDesc (idx sub v : Nat) (x : Shopostra) : Shopostra × Option Abort :=
  let d := x.c.reg 0x5010 0
  let put := fun (q : RedDesc) => x.onRed (fun r => { r with descs := putKey r.descs d q })
  let cur := x.c.reg 0x5011 2
  if idx = 0x5010 then
    (if 1023 < v then (x, some .value)
     else if x.descInUse d then (x, some .state) else (x.onC (fun c => c.setReg 0x5010 0 v), none))
  else if x.descInUse d then (x, if sub = 2 ∧ (504 < v ∨ v % 8 ≠ 0) ∨ sub = 3 ∧ v ≠ 1 then some .value else some .state)
  else match sub with
    | 1 =>
      (let q := x.redDesc d
       ((put { q with words := putKey q.words (cur / 8) v }).onC (fun c => c.setReg 0x5011 2 ((cur + 8) % 512)), none))
    | 2 => if 504 < v ∨ v % 8 ≠ 0 then (x, some .value) else (x.onC (fun c => c.setReg 0x5011 2 v), none)
    | _ =>
      if v ≠ 1 then (x, some .value)
      else
        let q := x.redDesc d
        (put { q with status := if q.good then 1 else 2 }, none)

/-- RED_DESC_DATA_WRITE (R302). -/
def execRedDescDataWrite (r : Req) (v : Nat) (s : State) : Res := onX (fun x => x.ruled r 0x5011 1 v (ruleRedDesc 0x5011 1 v)) s

/-- RED_DESC_COMMIT (R302). -/
def execRedDescCommit (r : Req) (v : Nat) (s : State) : Res := onX (fun x => x.ruled r 0x5011 3 v (ruleRedDesc 0x5011 3 v)) s

/-! ## Intervals (R307 to R309) -/

/-- The deadline of an interval of an entry (R308). -/
def Shopostra.deadline (x : Shopostra) (tag : Nat) (t : Ticks) : Ticks :=
  let e := x.entry tag
  t + usT e.interval + usT ((4 - x.c.depth) * (x.redDesc e.redDesc).slack)

/-- The latest grid instant at or before an instant: a second boundary plus a whole number of intervals (R307). -/
def gridFloor (interval : Nat) (t : Ticks) : Ticks :=
  t / secT 1 * secT 1 + (if interval = 0 then 0 else t % secT 1 / usT interval * usT interval)

/-- Whether an entry's descriptor is in shard mode at this depth (R327). -/
def Shopostra.sharded (x : Shopostra) (e : Entry) : Bool :=
  decide ((x.redDesc e.redDesc).shardOff ≠ 0xFFFF) && decide ((x.redDesc e.redDesc).shardDepth = x.c.depth)

/-- Bits [39:0] of the short stamp of an instant. -/
def Common.stamp40 (c : Common kd) (t : Ticks) : Nat := totalNs c.mode c.epoch t % 2 ^ 32 * 2 ^ 8 + t % ns / 2 ^ 24

/-- Whether every byte that a run reads lies within a message (R304). -/
def Run.within (r : Run) (msg : List Nat) : Bool :=
  let last := (r.count - 1) * r.stride
  decide (r.offset + last + typeBytes r.inType ≤ msg.length) &&
    (!(decide (r.op = 5 ∨ r.op = 6)) || decide (r.payloadOff + last + r.payload ≤ msg.length))

/-- The interval that an instant opens. -/
def intervalNew (tag : Nat) (t : Ticks) (rs : List Run) : Interval :=
  { tag := tag, instant := t, cls := 0, seen := [], present := 0, listed := [], flags := 0,
    runs := rs.map (fun r => List.replicate r.count (emptyElem r)), cands := [] }

/-- Folds an input's values into the elements of a run, from element i on. -/
def foldRun (r : Run) (source base : Nat) (msg : List Nat) : Nat → List RedElem → List RedElem
  | _, [] => []
  | i, e :: l =>
    let o := r.offset + i * r.stride
    let key := keyOf r.inType base (leAt msg o (typeBytes r.inType))
    foldValue r source key ((msg.drop (r.payloadOff + i * r.stride)).take r.payload) e :: foldRun r source base msg (i + 1) l

/-- Folds an input into every run. -/
def foldMessage (rs : List Run) (source base : Nat) (msg : List Nat) (runs : List (List RedElem)) : List (List RedElem) :=
  (rs.zip runs).map (fun q => foldRun q.1 source base msg 0 q.2)

/-- Merges a child's partials into every run. -/
def mergeRuns (rs : List Run) (a b : List (List RedElem)) : List (List RedElem) :=
  (rs.zip (a.zip b)).map (fun q => (q.2.1.zip q.2.2).map (fun e => mergeElem q.1 e.1 e.2))

/-- Whether a child's partials record the types already folded. -/
def typesAgree (a b : List (List RedElem)) : Bool :=
  (a.zip b).all (fun q => (q.1.zip q.2).all (fun e => sameType e.1 e.2))

/-- An input of an interval: what folding it would make of the interval; none where the input is malformed (R304,
R305). A child output merges its partials, its PRESENT, its FLAGS and its missing dies. -/
def Interval.take (iv : Interval) (rs : List Run) (e : Entry) (shardOff : Nat) (sharded : Bool) (port source base : Nat)
    (msg : List Nat) : Option Interval :=
  let cls := leAt msg 8 6 / 2 ^ 46 % 4
  let seen := iv.seen ++ [(source, port)]
  if e.kind = 6 ∧ rs.any (fun r => decide (r.inType = 9)) then
    if nth 0 msg 2 ≠ rs.length then none
    else match readRuns rs 0 (msg.drop 32) with
      | none => none
      | some (runs, rest) =>
        if iv.seen ≠ [] ∧ !(typesAgree iv.runs runs) then none
        else
          let n := leAt msg 14 2
          some { iv with
            cls := max iv.cls cls, seen := seen, present := iv.present + leAt msg 16 4,
            flags := Nat.lor iv.flags (nth 0 msg 3 % 32),
            listed := iv.listed ++ (List.range n).map (fun i => leAt rest (4 * i) 4),
            runs := if iv.seen = [] then runs else mergeRuns rs iv.runs runs }
  else if !(rs.all (fun r => r.within msg)) then none
  else if sharded then
    if msg.length < shardOff + 12 then none
    else
      let c : Candidate := { shard := leAt msg shardOff 4, stamp := leAt msg (shardOff + 4) 6, source := source, message := msg }
      some { iv with cls := max iv.cls cls, seen := seen, cands := iv.cands ++ [c] }
  else
    some { iv with
      cls := max iv.cls cls, seen := seen,
      present := if iv.seen.any (fun q => decide (q.1 = source)) then iv.present else iv.present + 1,
      runs := foldMessage rs source base msg iv.runs }

/-! ## The recent-input log (R330, R331) -/

/-- The destination of this part's log mirror (Table 9-6). -/
def Common.mirrorPort (c : Common kd) : Nat :=
  match c.reg 0x1012 0 with
  | 0 => if c.reg 0x1014 0 = 1 then c.partnerPort else 20
  | 3 => c.partnerPort
  | _ => 20

/-- The bytes of a log record (R330). -/
def Common.logBytesOf (c : Common kd) (r : LogRecord) : List Nat :=
  let head := fun crc => bytesLE 2 r.stream ++ [r.epoch, b2n r.shard] ++ bytesLE 4 r.source ++ bytesLE 6 (c.stamp40 r.instant) ++
    [0, 0] ++ bytesLE 4 r.message.length ++ bytesLE 4 crc
  head (crc32c (head 0 ++ r.message)) ++ r.message

/-- The source number of the log mirror's units. -/
def mirrorSource : Nat := 90

/-- Counts a mirror message that cannot be sent (R331). -/
def Common.mirrorLost (c : Common kd) : Common kd := (c.bump 0x5040 4).nondet 8

/-- Logs an input, and sends its mirror in queue 7 under the SESSION class. -/
def Shopostra.logInput (x : Shopostra) (tag source : Nat) (t : Ticks) (shard : Bool) (msg : List Nat) : Shopostra :=
  let e := x.entry tag
  if !e.logs || x.hist.lost then x
  else
    let r : LogRecord :=
      { stream := tag, epoch := e.epoch % 256, shard := shard, source := source, instant := t, message := msg, mirror := false }
    let x1 := x.onRed (fun q => { q with log := q.log ++ [r] })
    let port := x1.c.mirrorPort
    let b := x1.c.logBytesOf r
    let u := { linkUnit 5 port (framesOf b.length) mirrorSource true [.data (.port port) 0 0 x1.c.logical b] with queue := some 7 }
    let q := x1.c.submit u
    { x1 with c := if q.2 = .dropped then q.1.mirrorLost else q.1 }

/-- A mirror message still waiting, or not sent to its last frame, at the end of its board cycle is dropped (R331). -/
def Common.dropMirrors (c : Common kd) : Common kd :=
  let mine := fun (u : WorkUnit) => decide (u.source = mirrorSource)
  let gone := (c.bud.running.filter mine).map (fun u => u.serial)
  (List.range ((c.bud.waiting.filter mine).length + gone.length)).foldl (fun a _ => a.mirrorLost)
    { c with bud := { c.bud with
      waiting := c.bud.waiting.filter (fun u => !mine u), running := c.bud.running.filter (fun u => !mine u),
      queues := c.bud.queues.map (fun q => (q.1, q.2.filter (fun m => decide (m.serial ∉ gone)))) } }

/-- LOG_MIRROR_RX (R331): a mirrored record is kept. -/
def execLogMirrorRx (stream epoch : Nat) (shard : Bool) (source instant : Nat) (message : List Nat) (s : State) : Res :=
  onX (fun x => if x.hist.lost then x else x.onRed (fun q => { q with log := q.log ++
    [{ stream := stream, epoch := epoch, shard := shard, source := source, instant := x.c.extend instant, message := message,
       mirror := true }] })) s

/-- LOG_RECORD_EXPIRE (R330): records older than 2 s by interval instant are freed. -/
def execLogRecordExpire (s : State) : Res :=
  onX (fun x => x.onRed (fun q => { q with log := q.log.filter (fun r => decide (x.c.now ≤ r.instant + secT 2)) })) s

/-- RED_LOG_BYTES and RED_LOG_OLDEST. -/
def Shopostra.redLogBytes (x : Shopostra) : Nat := (x.red.log.map (fun r => 24 + r.message.length)).sum
def Shopostra.redLogOldest (x : Shopostra) : Nat :=
  match x.red.log with
  | [] => 0
  | r :: l => encodeTime x.c.mode x.c.epoch 0 (l.foldl (fun m q => min m q.instant) r.instant)

/-! ## Closing (R308, R309, R325) -/

/-- Whether candidate a wins over candidate b: the earlier completion stamp, then the lower address (R327). -/
def candBefore (a b : Candidate) : Bool :=
  let d := ofTwos 40 (a.stamp % 2 ^ 40 + 2 ^ 40 - b.stamp % 2 ^ 40)
  decide (d < 0) || (decide (d = 0) && decide (a.source < b.source))

/-- The winner of a shard. -/
def winner (c : Candidate) (l : List Candidate) : Candidate := l.foldl (fun m k => if candBefore k m then k else m) c

/-- The bytes that the runs read of a message. -/
def runBits (rs : List Run) (msg : List Nat) : List Nat :=
  rs.flatMap (fun r => (List.range r.count).flatMap (fun i =>
    (msg.drop (r.offset + i * r.stride)).take (typeBytes r.inType) ++ (msg.drop (r.payloadOff + i * r.stride)).take r.payload))

/-- The event record of a losing candidate (R328, Table 15-4 type 0x04). -/
def Common.shardEvent (c : Common kd) (session : Nat) (t : Ticks) (w l : Candidate) (equal : Bool) : Common kd :=
  c.createRecord 0 0x04 (bytesLE 4 session ++ bytesLE 4 w.shard ++ bytesLE 6 (c.stamp40 t) ++ [0, 0] ++ bytesLE 4 w.source ++
    bytesLE 4 l.source ++ bytesLE 6 w.stamp ++ bytesLE 6 l.stamp ++ [b2n equal, 0, 0, 0])

/-- Resolves one shard: folds its winner, counts and records each loser (R327, R328). -/
def Shopostra.resolveShard (rs : List Run) (session : Nat) (q : Shopostra × Interval) (shard : Nat) : Shopostra × Interval :=
  match q.2.cands.filter (fun c => decide (c.shard = shard)) with
  | [] => q
  | c :: l =>
    let w := winner c l
    let losers := (c :: l).filter (fun k => decide (k.source ≠ w.source))
    let same := fun (k : Candidate) => decide (runBits rs k.message = runBits rs w.message)
    let c1 := losers.foldl (fun a k =>
      let b := (a.bump 0x5020 3).shardEvent session q.2.instant w k (same k)
      if same k then b else b.nondet 2) q.1.c
    let fl := if losers = [] then q.2.flags else Nat.lor q.2.flags (8 + (if losers.all same then 0 else 16))
    ({ q.1 with c := c1 },
     { q.2 with flags := fl, present := q.2.present + 1,
                runs := foldMessage rs w.source (c1.stamp40 q.2.instant) w.message q.2.runs })

/-- Member dies bound behind a port (R623). -/
def Common.membersBehind (c : Common kd) (session port : Nat) : List Nat :=
  (c.bindingSet port).filter (fun l => c.isMember session l)

/-- The header and body of a reduced output (Table 9-5). -/
def Common.outputBytes (c : Common kd) (type session : Nat) (rs : List Run) (o : RedOutput) (missing : List Nat) : List Nat :=
  let listed := (missing.foldl (fun a n => insertUp n a) []).take 64
  [type, 1, rs.length, o.flags] ++ bytesLE 4 session ++ bytesLE 6 (o.cls * 2 ^ 46 + c.stamp40 o.instant) ++ bytesLE 2 listed.length ++
    bytesLE 4 o.present ++ bytesLE 4 o.expected ++ List.replicate 8 0 ++ runsBytes 0 rs o.runs ++ listed.flatMap (bytesLE 4)

/-- Whether some VOTE element has SPILL. -/
def anySpill (runs : List (List RedElem)) : Bool :=
  runs.any (fun l => l.any (fun e => match e with | .vote _ s _ => s | _ => false))

/-- Closes an interval: resolves shards, counts missing sources, emits the output and keeps it for read-out and staging. -/
def Shopostra.closeInterval (x : Shopostra) (tag : Nat) (t : Ticks) : Shopostra :=
  match x.red.opened.find? (fun iv => decide (iv.tag = tag ∧ iv.instant = t)) with
  | none => x
  | some iv0 =>
    let e := x.entry tag
    let rs := (x.redDesc e.redDesc).runs
    let x0 := x.onRed (fun r => { r with
      opened := r.opened.filter (fun iv => !decide (iv.tag = tag ∧ iv.instant = t)), closed := r.closed ++ [(tag, t)] })
    let shards := (iv0.cands.map (fun c => c.shard)).foldl (fun a n => insertUp n a) []
    let q := shards.foldl (Shopostra.resolveShard rs e.session) (x0, iv0)
    let iv := q.2
    let c := q.1.c
    let event := decide (e.kind = 1)
    let dies := fun p => c.diesBehind e.session p
    let expected := (e.ports.map dies).sum
    let present := if event then ((e.ports.filter c.portUp).map dies).sum else iv.present
    let got := if x.sharded e then shards.length else iv.seen.length
    let absent := if event then 0 else e.inCount - got
    let silent := fun (p l : Nat) =>
      if e.kind = 6 then !iv.seen.any (fun s => decide (s.2 = p)) else !iv.seen.any (fun s => decide (s.1 = l))
    let missing := if event || x.sharded e then iv.listed
      else iv.listed ++ e.ports.flatMap (fun p => (c.membersBehind e.session p).filter (silent p))
    let incomplete := decide (absent ≠ 0) || bitOf iv.flags 0
    let flags := Nat.lor (iv.flags - b2n (bitOf iv.flags 0)) (b2n incomplete + (if anySpill iv.runs then 4 else 0))
    let o : RedOutput :=
      { tag := tag, instant := t, closedAt := c.now, cls := iv.cls, present := present, expected := expected, flags := flags, runs := iv.runs }
    let c1 := if incomplete then c.bump 0x5020 5 else c
    let x1 := { q.1 with c := c1 }
    let e1 := x1.entry tag
    let x2 := (x1.setEntry tag { e1 with missing := (e1.missing + absent) % 2 ^ 32 }).onRed (fun r =>
      { r with last := putKey r.last tag o, outputs := if e.toTangent then r.outputs ++ [o] else r.outputs })
    if e.toParent || e.toHistory then x2.emit 1 tag false t (c1.outputBytes 0x10 e.session rs o missing) else x2

/-- Inputs after closing (R309). -/
def Common.lateInput (c : Common kd) : Common kd := (c.bump 0x5020 1).nondet 3

/-- An input of a reduction entry (R304 to R309); one for a frozen interval is discarded (R477). -/
def Shopostra.reduceInput (x : Shopostra) (tag port source : Nat) (msg : List Nat) : Shopostra :=
  let e := x.entry tag
  let d := x.redDesc e.redDesc
  let rs := d.runs
  if msg.length < 14 then x.onC (fun c => c.bump 0x5020 7)
  else
    let s := x.c.extend (leAt msg 8 6)
    let event := decide (e.kind = 1)
    let t := if event then gridFloor e.interval s else s
    let sharded := x.sharded e
    let late := decide (x.deadline tag t < x.c.now) || x.red.closed.any (fun q => decide (q.1 = tag ∧ q.2 = t))
    if x.c.frozenAt t then x.onC (fun c => c.bump 0x3405 6)
    else if gridFloor e.interval t ≠ t ∨ x.c.now + usT e.interval < s then x.onC (fun c => c.bump 0x5020 4)
    else if (match x.c.stopOf e.session with | some stop => decide (e.state = 3 ∧ stop ≤ t) | none => false) then x.staleInput tag
    else if late then x.onC Common.lateInput
    else
      let found := x.red.opened.find? (fun iv => decide (iv.tag = tag ∧ iv.instant = t))
      let iv := found.getD (intervalNew tag t rs)
      let dup := if sharded then
          iv.cands.any (fun c => decide (c.source = source ∧ c.shard = leAt msg d.shardOff 4))
        else !event && iv.seen.any (fun q => decide (q.1 = source))
      if dup then x.onC (fun c => c.bump 0x5020 2)
      else match iv.take rs e d.shardOff sharded port source (x.c.stamp40 t) msg with
        | none => x.onC (fun c => c.bump 0x5020 7)
        | some iv1 =>
          let x1 := x.onRed (fun r => { r with
            opened := r.opened.filter (fun k => !decide (k.tag = tag ∧ k.instant = t)) ++ [iv1] })
          let x2 := x1.logInput tag source t sharded msg
          if !event && !sharded && decide (e.inCount ≤ iv1.seen.length) then x2.closeInterval tag t else x2

/-- The deadline of an interval arrives (R308). Instants closed early whose deadline has passed are forgotten. -/
def Shopostra.atDeadline (tag : Nat) (t : Ticks) (x : Shopostra) : Shopostra :=
  let x1 := (x.onC (fun c => c.arrive (x.deadline tag t))).closeInterval tag t
  x1.onRed (fun r => { r with closed := r.closed.filter (fun q => decide (x1.c.now ≤ x1.deadline q.1 q.2)) })

/-- INTERVAL_DEADLINE (R308): `instant` is the interval instant as a total nanosecond count of the part. -/
def execIntervalDeadline (tag instant : Nat) (s : State) : Res := onX (Shopostra.atDeadline tag (instant * ns)) s

/-! ## Read-out (R322, R627) -/

/-- What a read of RED_READOUT or RED_QUANTILE finds: the run and the element of the last output, or the refusal. -/
def Shopostra.readElemOf (x : Shopostra) (idx : Nat) (lattice : Bool) : Except Abort (Run × RedElem) :=
  let tag := x.c.reg idx 1
  let e := x.entry tag
  let rs := (x.redDesc e.redDesc).runs
  let k := x.c.reg idx 2
  let i := x.c.reg idx 3
  let st := decide (e.state = 0) || (x.red.last.find? (fun q => decide (q.1 = tag))).isNone
  match rs[k]? with
  | none => .error (if decide (e.state ≠ 0) || !st then .value else .state)
  | some r =>
    if e.state ≠ 0 ∧ (e.redDesc = 0xFFFF ∨ r.count ≤ i ∨ (lattice ∧ r.op ≠ 8)) then .error .value
    else if st then .error .state
    else match x.red.last.find? (fun q => decide (q.1 = tag)) with
      | none => .error .state
      | some q => match q.2.runs[k]? with
        | none => .error .value
        | some l => match l[i]? with
          | none => .error .value
          | some el => .ok (r, el)

/-- The bytes of RED_READOUT subindex 05. -/
def Shopostra.readoutBytes (x : Shopostra) : Except Abort (List Nat) :=
  match x.readElemOf 0x5031 false with
  | .error a => .error a
  | .ok (r, el) =>
    let q := readout r (bitOf (x.c.reg 0x5031 4) 0) el
    .ok (q.1 ++ [b2n q.2.1 + 2 * b2n q.2.2.1 + 4 * b2n q.2.2.2])

/-- RED_QUANTILE subindices 05 to 07. -/
def Shopostra.quantileOf (x : Shopostra) (sub : Nat) : Except Abort Nat :=
  match x.readElemOf 0x5030 true with
  | .error a => .error a
  | .ok (_, .lattice _ _ _ l) =>
    let q := quantile (x.c.reg 0x5030 4) l
    .ok (if sub = 5 then q.1 else if sub = 6 then q.2.1 else q.2.2)
  | .ok _ => .error .value

/-- A BLOCK_READ of RED_READOUT from its start. -/
def Shopostra.readoutRead (r : Req) (x : Shopostra) : Shopostra :=
  match x.c.gate r 0x5031 5 false true with
  | some a => x.onC (fun c => c.answer r .blockRead 0x5031 5 (some a) 0 0 false)
  | none => match x.readoutBytes with
    | .error a => x.onC (fun c => c.answer r .blockRead 0x5031 5 (some a) 0 0 false)
    | .ok b => x.onC (fun c => c.answer r .blockRead 0x5031 5 none (fromLE (b.take 192)) (min 192 b.length) (decide (192 < b.length)))

/-- RED_READOUT_READ (R627). -/
def execRedReadoutRead (r : Req) (s : State) : Res := onX (Shopostra.readoutRead r) s

/-- A read of RED_QUANTILE subindex 05, 06 or 07. -/
def Shopostra.quantileRead (r : Req) (sub : Nat) (x : Shopostra) : Shopostra :=
  match x.c.gate r 0x5030 sub false true with
  | some a => x.onC (fun c => c.answer r .read 0x5030 sub (some a) 0 0 false)
  | none => match x.quantileOf sub with
    | .error a => x.onC (fun c => c.answer r .read 0x5030 sub (some a) 0 0 false)
    | .ok n => x.onC (fun c => c.answer r .read 0x5030 sub none n 8 false)

/-- RED_QUANTILE_READ (R322). -/
def execRedQuantileRead (r : Req) (sub : Nat) (s : State) : Res :=
  if 5 ≤ sub ∧ sub ≤ 7 then onX (Shopostra.quantileRead r sub) s else .next s

/-! ## Replay (R333) -/

/-- A write of the last instant of RED_REPLAY: `reachable` says that a Table 9-6 link to a holder of the failed part's log
is up. -/
def ruleReplay (v : Nat) (reachable : Bool) (x : Shopostra) : Shopostra × Option Abort :=
  let refuse := fun (a : Abort) => (x.onC (fun c => c.setReg 0x5041 5 3), some a)
  if x.c.timeOf (x.c.reg 0x5041 3) + secT 2 < x.c.now then refuse .value
  else if !reachable then refuse .state
  else (x.onC (fun c => (((c.setReg 0x5041 4 (storedForm .time v)).setReg 0x5041 5 1).setReg 0x5041 6 0).message (.port c.mirrorPort)
    "REPLAY_FETCH" [c.reg 0x5041 1, c.reg 0x5041 2, c.reg 0x5041 3, v]), none)

/-- RED_REPLAY_SUBMIT (R333). -/
def execRedReplaySubmit (r : Req) (v : Nat) (reachable : Bool) (s : State) : Res :=
  onX (fun x => x.ruled r 0x5041 4 v (ruleReplay v reachable)) s

/-- Folds the fetched inputs of one interval and writes its output of TYPE 0x11 to history. -/
def Shopostra.replayInterval (tag : Nat) (recs : List (Nat × Nat × List Nat)) (x : Shopostra) (t : Ticks) : Shopostra :=
  let e := x.entry tag
  let d := x.redDesc e.redDesc
  let rs := d.runs
  let hits := recs.filter (fun r => decide (x.c.extend r.2.1 = t))
  let iv := hits.foldl (fun (a : Interval) r =>
    if e.kind ≠ 1 && a.seen.any (fun q => decide (q.1 = r.1)) then a
    else (a.take rs e d.shardOff (x.sharded e) 0 r.1 (x.c.stamp40 t) r.2.2).getD a) (intervalNew tag t rs)
  let shards := (iv.cands.map (fun c => c.shard)).foldl (fun a n => insertUp n a) []
  let q := shards.foldl (Shopostra.resolveShard rs e.session) (x, iv)
  let o : RedOutput := { tag := tag, instant := t, closedAt := x.c.now, cls := q.2.cls, present := q.2.present,
                         expected := q.2.present, flags := q.2.flags, runs := q.2.runs }
  (match q.1.ringOf tag with
   | some k => q.1.ringAppend k true tag e.session (totalNs x.c.mode x.c.epoch t) (x.c.outputBytes 0x11 e.session rs o [])
   | none => q.1).onC (fun c => c.bump 0x5041 6)

/-- The log records of a replay have been fetched: source, interval stamp and message of each; `lost` says that some
record was lost. -/
def Shopostra.replayDone (recs : List (Nat × Nat × List Nat)) (lost : Bool) (x : Shopostra) : Shopostra :=
  if x.c.reg 0x5041 5 ≠ 1 then x
  else
    let tag := x.c.reg 0x5041 1
    let a := x.c.timeOf (x.c.reg 0x5041 3)
    let b := x.c.timeOf (x.c.reg 0x5041 4)
    let ts := (recs.map (fun r => x.c.extend r.2.1)).foldl (fun l t => insertUp t l) []
    ((ts.filter (fun t => decide (a ≤ t ∧ t ≤ b))).foldl (Shopostra.replayInterval tag recs) x).onC (fun c =>
      c.setReg 0x5041 5 (if lost then 4 else 2))

/-- REPLAY_RECORDS_DONE (R333). -/
def execReplayRecordsDone (records : List (Nat × Nat × List Nat)) (lost : Bool) (s : State) : Res :=
  onX (Shopostra.replayDone records lost) s

/-! ## Faults (R335) -/

/-- Reduction cells in service, and the weight units they merge per second (R301). -/
def Common.countCells (c : Common kd) : Common kd :=
  let n := ((List.range 64).filter (fun k => decide (c.reg 0x5001 (k + 1) = 0))).length
  (c.setReg 0x5000 1 n).setReg 0x5000 2 (n * 1600000000)

/-- An uncorrectable word or a residue failure: the intervals that the cell holds close with CELL_FAULT, and it is mapped
out. Which intervals those are is the array's placement, which nothing states (R300). -/
def Shopostra.cellFault (cell : Nat) (hit : List (Nat × Nat)) (x : Shopostra) : Shopostra :=
  let x1 := hit.foldl (fun a h =>
    (a.onRed (fun r => { r with opened := r.opened.map (fun iv =>
      if iv.tag = h.1 ∧ iv.instant = h.2 * ns then { iv with flags := Nat.lor iv.flags 2 } else iv) })).closeInterval h.1 (h.2 * ns)) x
  x1.onC (fun c => ((((c.bump 0x5020 6).setReg 0x5001 (cell % 64 + 1) 2).countCells).reportUnstated cell).onBist (fun b =>
    { b with faults := b.faults ++ [(64 + cell % 64, c.now)] }))

/-- REDUCTION_CELL_FAULT (R335): `hit` lists the intervals that the cell holds, by tag and instant in ns. -/
def execReductionCellFault (cell : Nat) (hit : List (Nat × Nat)) (s : State) : Res := onX (Shopostra.cellFault cell hit) s

/-- LOG_CRC_FAILURE (R335): the record is freed and reported. -/
def execLogCrcFailure (stream source instant : Nat) (s : State) : Res :=
  onX (fun x => (x.onRed (fun q => { q with log := q.log.filter (fun r =>
    !decide (r.stream = stream ∧ r.source = source ∧ r.instant = x.c.extend instant)) })).onC (fun c => c.reportUnstated stream)) s

end Sys2Proof.Machine
end

