-- ==== Sys2Proof/Machine/Tile.lean ====
section
/-! DEFINITION. A logical tile of the detector array (R337 to R343): its region of SRAM in canonical form, its registers,
and the arithmetic of the MAC grid and of the vector unit. -/

namespace Sys2Proof.Machine

/-! ## The region: addresses strictly rising, no byte equal to 0, which an unlisted address reads (R358, R374) -/

/-- What an unlisted address of a region reads. -/
def memDefault : BitVec 8 := 0

/-- The byte at an address. -/
def memRead : List Host.Cell → Nat → BitVec 8
  | [], _ => memDefault
  | (a, b) :: m, k => if a = k then b else memRead m k

/-- The memory without an address. -/
def memErase : List Host.Cell → Nat → List Host.Cell
  | [], _ => []
  | (a, b) :: m, k => if a = k then m else (a, b) :: memErase m k

/-- The memory with an address listed. -/
def memInsert : List Host.Cell → Nat → BitVec 8 → List Host.Cell
  | [], k, v => [(k, v)]
  | (a, b) :: m, k, v =>
    if k < a then (k, v) :: (a, b) :: m
    else if a = k then (k, v) :: m
    else (a, b) :: memInsert m k v

/-- Writes a byte. -/
def memWrite (m : List Host.Cell) (k : Nat) (v : BitVec 8) : List Host.Cell :=
  if v = memDefault then memErase m k else memInsert m k v

/-- Reads n bytes from an address. -/
def memReadN (m : List Host.Cell) (k : Nat) : Nat → List Nat
  | 0 => []
  | n + 1 => (memRead m k).toNat :: memReadN m (k + 1) n

/-- Writes bytes from an address on. -/
def memWriteN (m : List Host.Cell) (k : Nat) : List Nat → List Host.Cell
  | [] => m
  | b :: l => memWriteN (memWrite m k (BitVec.ofNat 8 b)) (k + 1) l

/-- The canonical form. -/
def memWf : List Host.Cell → Bool
  | [] => true
  | (a, b) :: m => decide (b ≠ memDefault) && (match m with | [] => true | (c, _) :: _ => decide (a < c)) && memWf m

/-! ## Registers -/

/-- A register that holds zero in every lane. -/
def zeroLanes (n : Nat) : List Nat := List.replicate n 0

/-- Weights all zero. -/
def weightsZero : Weights := { chunks := [], scales := [] }

/-- A tile before its first run. -/
def tileNew : Tile :=
  { region := [], v := [], msk := [], s := [], acc := [], sat := [], active := weightsZero, shadow := weightsZero, exch := [],
    exchOld := [], out := [], pending := [], addrFault := false, notices := [], series := [] }

/-- V register: 64 lanes. -/
def Tile.vreg (t : Tile) (n : Nat) : List Nat := lookupD (zeroLanes 64) t.v n

/-- Mask register: MK0 reads all ones (Table 10-1). -/
def Tile.mask (t : Tile) (n : Nat) : Nat := if n = 0 then 2 ^ 64 - 1 else lookupD 0 t.msk n

/-- Scalar register: S0 reads 0. -/
def Tile.sreg (t : Tile) (n : Nat) : Nat := if n = 0 then 0 else lookupD 0 t.s n

/-- Accumulator row of a bank: 32 columns. -/
def Tile.accRow (t : Tile) (bank row : Nat) : List Nat := lookupD (zeroLanes 32) t.acc (bank, row)

/-- Chunk of a weight buffer. -/
def Weights.chunk (w : Weights) (c : Nat) : List Nat := lookupD (zeroLanes 256) w.chunks c

/-- Byte of a weight buffer. -/
def Weights.byte (w : Weights) (i : Nat) : Nat := nth 0 (w.chunk (i / 256)) (i % 256)

/-- Block scale of column n. -/
def Weights.scale (w : Weights) (block n : Nat) : Nat := nth 0 w.scales (32 * block + n)

/-- Writes a scalar register: S0 and S24 to S31 discard writes (R352). -/
def Tile.writeS (t : Tile) (n v : Nat) : Tile :=
  if n = 0 ∨ 24 ≤ n then t else { t with s := putKey t.s n v }

/-- Writes lanes of a V register; the others keep their values (R349). -/
def Tile.writeV (t : Tile) (n : Nat) (lanes : List (Nat × Nat)) : Tile :=
  { t with v := putKey t.v n (lanes.foldl (fun a e => a.set e.1 e.2) (t.vreg n)) }

/-- The bits of a 64-bit mask where `en` is 1 taken from v, the others from old. -/
def blend (old en v : Nat) : Nat := Nat.lor (Nat.land v en) (Nat.land old (Nat.xor en (2 ^ 64 - 1)))

/-- A result reaches its destination. -/
def Tile.land (t : Tile) : Landing → Tile
  | .vreg v lanes => t.writeV v lanes
  | .mask k en v => if k = 0 then t else { t with msk := putKey t.msk k (blend (t.mask k) en v) }
  | .sreg s v => t.writeS s v
  | .accRow bank row v sat clr =>
    { t with acc := putKey t.acc (bank, row) v,
             sat := if sat then (if bank ∈ t.sat then t.sat else t.sat ++ [bank])
                    else if clr then t.sat.filter (fun b => decide (b ≠ bank)) else t.sat }
  | .accZero bank =>
    { t with acc := t.acc.filter (fun e => decide (e.1.1 ≠ bank)), sat := t.sat.filter (fun b => decide (b ≠ bank)) }
  | .swap => { t with active := t.shadow, shadow := t.active }
  | .chunk c b => { t with shadow := { t.shadow with chunks := putKey t.shadow.chunks c b } }
  | .scales b => { t with shadow := { t.shadow with scales := b } }
  | .store a b => { t with region := memWriteN t.region a b }
  | .out line v => { t with out := putKey t.out line v }
  | .exch line v => { t with exch := putKey t.exch line v }

/-- Every result due by a cycle lands, in the order of issue (R346). -/
def Tile.landAt (t : Tile) (cycle : Nat) : Tile :=
  let due := t.pending.filter (fun p => decide (p.at_ ≤ cycle))
  due.foldl (fun a p => a.land p.what) { t with pending := t.pending.filter (fun p => !decide (p.at_ ≤ cycle)) }

/-- Everything in flight lands, cycle by cycle: no latency exceeds 12. -/
def Tile.drain (t : Tile) (cycle : Nat) : Tile := (List.range 13).foldl (fun a i => a.landAt (cycle + i)) t

/-- A result is on its way. -/
def Tile.issue (t : Tile) (at_ : Nat) (w : Landing) : Tile := { t with pending := t.pending ++ [{ at_ := at_, what := w }] }

/-! ## The MAC grid (R338 to R342) -/

/-- The fixed binary tree over a list: neighbouring pairs, level by level (R341). -/
def pairUp (f : Nat → Nat → Nat) : List Nat → List Nat
  | a :: b :: l => f a b :: pairUp f l
  | l => l

/-- The tree's root; `n` levels. -/
def treeSum (f : Nat → Nat → Nat) : Nat → List Nat → List Nat
  | 0, l => l
  | n + 1, l => treeSum f n (pairUp f l)

/-- An exact sum. -/
def exactSum : List Fp → Fp
  | [] => .fin false 0 0
  | a :: l => l.foldl Fp.add a

/-- Whether a format has scales on its activation, and on its weight (Table 10-2). -/
def fmtScaleA (fmt : Nat) : Bool := decide (6 ≤ fmt ∧ fmt ≤ 9)
def fmtScaleW (fmt : Nat) : Bool := decide (5 ≤ fmt ∧ fmt ≤ 9)

/-- Bytes of an activation row, and the multiple that its address must be of (R338). -/
def fmtRow (fmt : Nat) : Nat := if fmt = 10 then 128 else if fmtScaleA fmt then 66 else 64
def fmtAlign (fmt : Nat) : Nat := if fmtScaleA fmt then 128 else 64

/-- An activation element of a floating-point format. -/
def fmtAct (fmt b : Nat) : Fp :=
  match fmt with
  | 3 => e5m2 b
  | 7 => e5m2 b
  | 8 => fpInt 8 (-6) b
  | _ => e4m3 b

/-- Weight element (k, n) of a floating-point format. Two E2M1 weights share a byte, the lower K in bits [3:0]. -/
def fmtWeight (fmt : Nat) (w : Weights) (k n : Nat) : Fp :=
  let b := w.byte (32 * k + n)
  let nib := w.byte (32 * (k / 2) + n) / (if k % 2 = 1 then 16 else 1) % 16
  match fmt with
  | 3 => e5m2 b
  | 4 => e5m2 b
  | 5 => e2m1 nib
  | 7 => e5m2 b
  | 8 => fpInt 8 (-6) b
  | 9 => e2m1 nib
  | _ => e4m3 b

/-- Weight element (k, n) of an integer format. -/
def intWeight (fmt : Nat) (w : Weights) (k n : Nat) : Int :=
  if fmt = 1 then ofTwos 4 (w.byte (32 * (k / 2) + n) / (if k % 2 = 1 then 16 else 1))
  else ofTwos 8 (w.byte (32 * k + n))

/-- One block of one column: the exact sum of its 32 products, scaled exactly, rounded once (R340). -/
def blockSum (fmt : Nat) (row : List Nat) (w : Weights) (block n : Nat) : Nat :=
  let xa := if fmtScaleA fmt then nth 0 row (64 + block) else 127
  let xb := if fmtScaleW fmt then w.scale block n else 127
  if xa = 0xFF ∨ xb = 0xFF then nan32
  else
    let p := (List.range 32).map (fun i => (fmtAct fmt (nth 0 row (32 * block + i))).mul (fmtWeight fmt w (32 * block + i) n))
    ((exactSum p).scale (((xa : Nat) : Int) - 127 + (((xb : Nat) : Int) - 127))).to32

/-- One column of an MMA: the new accumulator, and whether it saturated. -/
def mmaColumn (fmt : Nat) (row : List Nat) (w : Weights) (n acc : Nat) : Nat × Bool :=
  if fmt ≤ 1 then
    let sum := ((List.range 64).map (fun k => ofTwos 8 (nth 0 row k) * intWeight fmt w k n)).sum + ofTwos 32 acc
    let hi : Int := 2 ^ 31 - 1
    let lo : Int := -(2 ^ 31)
    (toTwos 32 (max lo (min hi sum)), decide (sum < lo ∨ hi < sum))
  else if fmt = 10 then
    let p := (List.range 64).map (fun k =>
      ((bf16 (leAt row (2 * k) 2)).mul (bf16 (w.byte (64 * k + 2 * n) + 256 * w.byte (64 * k + 2 * n + 1)))).to32)
    (add32 acc ((treeSum add32 6 p).headD 0), false)
  else (add32 (add32 acc (blockSum fmt row w 0 n)) (blockSum fmt row w 1 n), false)

/-- Latency of an MMA (Table 10-4). -/
def mmaLatency (fmt : Nat) : Nat := if fmt ≤ 1 then 6 else if fmt = 10 then 12 else 8

/-! ## The vector unit (R343, R344, Table 10-7) -/

/-- Binary32 minimum and maximum: -0 below +0, and the other operand when one is NaN. -/
def fmin32 (a b : Nat) : Nat :=
  if (fp32 a).isNan then (if (fp32 b).isNan then nan32 else b)
  else if (fp32 b).isNan then a
  else if ieeeOrder 32 a ≤ ieeeOrder 32 b then a else b
def fmax32 (a b : Nat) : Nat :=
  if (fp32 a).isNan then (if (fp32 b).isNan then nan32 else b)
  else if (fp32 b).isNan then a
  else if ieeeOrder 32 a ≤ ieeeOrder 32 b then b else a

/-- Whether a binary32 is below another; a NaN compares false, and -0 equals +0. -/
def flt32 (a b : Nat) : Bool :=
  !(fp32 a).isNan && !(fp32 b).isNan && !decide (a % 2 ^ 31 = 0 ∧ b % 2 ^ 31 = 0) && decide (ieeeOrder 32 a < ieeeOrder 32 b)
def feq32 (a b : Nat) : Bool :=
  !(fp32 a).isNan && !(fp32 b).isNan && (decide (a = b) || decide (a % 2 ^ 31 = 0 ∧ b % 2 ^ 31 = 0))

/-- The order of a TYPE: less, and equal. -/
def laneLt (ty a b : Nat) : Bool :=
  match ty with | 0 => flt32 a b | 1 => decide (ofTwos 32 a < ofTwos 32 b) | _ => decide (a < b)
def laneEq (ty a b : Nat) : Bool := match ty with | 0 => feq32 a b | _ => decide (a = b)

/-- Minimum and maximum of a TYPE. -/
def laneMin (ty a b : Nat) : Nat := match ty with | 0 => fmin32 a b | _ => if laneLt ty b a then b else a
def laneMax (ty a b : Nat) : Nat := match ty with | 0 => fmax32 a b | _ => if laneLt ty a b then b else a

/-- Sum of a TYPE. -/
def laneAdd (ty a b : Nat) : Nat := match ty with | 0 => add32 a b | _ => (a + b) % 2 ^ 32

/-- The negation of a binary32; a NaN gives the canonical one. -/
def neg32 (a : Nat) : Nat := if (fp32 a).isNan then nan32 else Nat.xor a (2 ^ 31)

/-- Difference of binary32 values. -/
def sub32 (a b : Nat) : Nat := add32 a (neg32 b)

/-- EXP2, LOG2, RCP or RSQRT of a binary32 (R344); a NaN result is the canonical one (R343). -/
def fn32 (op a : Nat) : Nat :=
  let r := Config.fnResult op a % 2 ^ 32
  if (fp32 r).isNan then nan32 else r

/-- Division as R386 states it: x × RCP(y). -/
def div32 (a b : Nat) : Nat := mul32 a (fn32 0x18 b)

/-- A lane-wise operation of Table 10-7 on lanes a, b and c; `imm` is the immediate and `sel` the bit that SEL looks at. -/
def laneOp (op ty a b c imm : Nat) (sel : Bool) : Nat :=
  let w := 2 ^ 32
  match op with
  | 0x01 => laneAdd ty a b
  | 0x02 => if ty = 0 then sub32 a b else (a + w - b) % w
  | 0x03 => if ty = 0 then mul32 a b else a * b % w
  | 0x04 => if ty = 0 then fma32 a b c else (a * b + c) % w
  | 0x05 => laneMin ty a b
  | 0x06 => laneMax ty a b
  | 0x07 => if ty = 0 then (if (fp32 a).isNan then nan32 else a % 2 ^ 31)
            else if ty = 1 ∧ 2 ^ 31 ≤ a then (w - a) % w else a
  | 0x08 => if ty = 0 then neg32 a else (w - a) % w
  | 0x09 => Nat.land a b
  | 0x0A => Nat.lor a b
  | 0x0B => Nat.xor a b
  | 0x0C => a * 2 ^ (b % 32) % w
  | 0x0D => if ty = 1 then toTwos 32 (ofTwos 32 a / (2 ^ (b % 32) : Nat)) else if ty = 2 then a / 2 ^ (b % 32)
            else Config.freeLane op ty [a, b] % w
  | 0x0E => if imm % 2 = 0 then int32 (ofTwos 32 a) else toInt32 a
  | 0x0F => if sel then a else b
  | 0x1A => sqrt32 a
  | 0x1B => toTwos 32 (max (-(2 ^ 31)) (min (2 ^ 31 - 1) (ofTwos 32 a + ofTwos 32 b)))
  | _ => fn32 op a

/-- The tree over the enabled lanes: a node with one enabled side takes that side. -/
def pairLanes (f : Nat → Nat → Nat) : List (Option Nat) → List (Option Nat)
  | some a :: some b :: l => some (f a b) :: pairLanes f l
  | some a :: none :: l => some a :: pairLanes f l
  | none :: x :: l => x :: pairLanes f l
  | l => l

/-- Its root. -/
def treeLanes (f : Nat → Nat → Nat) : Nat → List (Option Nat) → Option Nat
  | 0, l => l.headD none
  | n + 1, l => treeLanes f n (pairLanes f l)

/-- RSUM, RMAX and RMIN over the enabled lanes. With none enabled the sum is 0, and no rule states the others. -/
def laneReduce (op ty en : Nat) (a : List Nat) : Nat :=
  let l := (a.zip (List.range 64)).map (fun e => if bitOf en e.2 then some e.1 else none)
  match treeLanes (if op = 0x1D then laneAdd ty else if op = 0x1E then laneMax ty else laneMin ty) 6 l with
  | some v => v
  | none => if op = 0x1D then 0 else Config.freeLane op ty [] % 2 ^ 32

/-- Latency of a VECTOR operation (Table 10-4). -/
def vectorLatency (op : Nat) : Nat :=
  if op = 0x03 ∨ op = 0x04 ∨ op = 0x1B then 4
  else if (0x16 ≤ op ∧ op ≤ 0x1A) ∨ (0x1D ≤ op ∧ op ≤ 0x1F) then 8 else 2

end Sys2Proof.Machine
end

