-- ==== Sys2Proof/Machine/Bundle.lean ====
section
/-! DEFINITION. Bundles and their execution on a logical tile (R345 to R356). -/

namespace Sys2Proof.Machine

/-- The MATRIX slot (Table 10-5). -/
structure MatrixSlot where
  op : Nat
  fmt : Nat
  clr : Bool
  bank : Nat
  rowS : Nat
  addrS : Nat
  offset : Int
  reserved : Nat

/-- The VECTOR slot (Table 10-6). -/
structure VectorSlot where
  op : Nat
  ty : Nat
  mask : Nat
  dst : Nat
  a : Nat
  b : Nat
  c : Nat
  imm : Nat
  bImm : Bool
  mdst : Nat
  reserved : Nat

/-- The MOVE slot (Table 10-8). -/
structure MoveSlot where
  op : Nat
  addrS : Nat
  offset : Int
  line : Nat
  vreg : Nat
  sdst : Nat
  sel : Nat
  reserved : Nat

/-- The CONTROL slot (Table 10-10). -/
structure ControlSlot where
  op : Nat
  dst : Nat
  a : Nat
  b : Nat
  bImm : Bool
  imm : Nat

/-- Slots of a bundle (Table 10-3). -/
def matrixSlot (v : Nat) : MatrixSlot :=
  let w := bits v 255 192
  { op := bits w 63 56, fmt := bits w 55 52, clr := bitOf w 51, bank := bits w 50 49, rowS := bits w 48 44,
    addrS := bits w 43 39, offset := ofTwos 16 (bits w 38 23), reserved := bits w 22 0 }
def vectorSlot (v : Nat) : VectorSlot :=
  let w := bits v 191 112
  { op := bits w 79 72, ty := bits w 71 70, mask := bits w 69 67, dst := bits w 66 61, a := bits w 60 55, b := bits w 54 49,
    c := bits w 48 43, imm := bits w 42 11, bImm := bitOf w 10, mdst := bits w 9 7, reserved := bits w 6 0 }
def moveSlot (v : Nat) : MoveSlot :=
  let w := bits v 111 48
  { op := bits w 63 56, addrS := bits w 55 51, offset := ofTwos 16 (bits w 50 35), line := bits w 40 35, vreg := bits w 34 29,
    sdst := bits w 28 24, sel := bits w 23 18, reserved := bits w 17 0 }
def controlSlot (v : Nat) : ControlSlot :=
  let w := bits v 47 0
  { op := bits w 47 40, dst := bits w 39 35, a := bits w 34 30, b := bits w 29 25, bImm := bitOf w 24, imm := bits w 23 0 }

/-- What a tile runs in: FOOTPRINT, and the exchange lines of every tile of the slot as they stood when the phase began. -/
structure TileEnv where
  footprint : Nat
  exch : List (List (Nat × List Nat))

/-- A byte address: S + offset, modulo 2^32. -/
def addr32 (s : Nat) (off : Int) : Nat := toTwos 32 ((s : Int) + off)

/-- Bytes of a read: zeros where it is misaligned or reaches outside the region, with ADDR_FAULT (R354). -/
def Tile.load (t : Tile) (env : TileEnv) (addr n align : Nat) : Tile × List Nat :=
  if addr % align = 0 ∧ addr + n ≤ env.footprint then (t, memReadN t.region addr n)
  else ({ t with addrFault := true }, zeroLanes n)

/-- A store, discarded where it is misaligned or reaches outside the region. -/
def Tile.storeAt (t : Tile) (env : TileEnv) (cycle addr align : Nat) (b : List Nat) : Tile :=
  if addr % align = 0 ∧ addr + b.length ≤ env.footprint then t.issue (cycle + 1) (.store addr b) else { t with addrFault := true }

/-- Lanes of bytes. -/
def lanesOf (b : List Nat) : List Nat := (List.range (b.length / 4)).map (fun i => leAt b (4 * i) 4)

/-- Every lane of a V register. -/
def allLanes (l : List Nat) : List (Nat × Nat) := (List.range 64).zip l

/-- The bytes of 64 lanes. -/
def laneBytes (l : List Nat) : List Nat := l.flatMap (bytesLE 4)

/-- The MATRIX slot issues (R348). `t0` is the tile at issue. -/
def Tile.issueMatrix (t0 t : Tile) (env : TileEnv) (cycle : Nat) (m : MatrixSlot) : Tile :=
  match m.op with
  | 0x01 =>
    (let row := t0.sreg m.rowS % 64
     let q := t.load env (addr32 (t0.sreg m.addrS) (m.offset * 64)) (fmtRow m.fmt) (fmtAlign m.fmt)
     let old := if m.clr then zeroLanes 32 else t0.accRow m.bank row
     let cols := (old.zip (List.range 32)).map (fun e => mmaColumn m.fmt q.2 t0.active e.2 e.1)
     q.1.issue (cycle + mmaLatency m.fmt) (.accRow m.bank row (cols.map Prod.fst) (cols.any Prod.snd) m.clr))
  | 0x02 => t.issue (cycle + 1) .swap
  | 0x03 => t.issue (cycle + 1) (.accZero m.bank)
  | _ => t

/-- The MOVE slot issues (R350). -/
def Tile.issueMove (t0 t : Tile) (env : TileEnv) (cycle : Nat) (m : MoveSlot) : Tile :=
  let addr := addr32 (t0.sreg m.addrS) (m.offset * 32)
  match m.op with
  | 0x01 =>
    (let q := t.load env addr 256 32
     q.1.issue (cycle + 6) (.vreg m.vreg (allLanes (lanesOf q.2))))
  | 0x02 => t.storeAt env cycle addr 32 (laneBytes (t0.vreg m.vreg))
  | 0x03 =>
    (let q := t.load env addr 4 4
     q.1.issue (cycle + 6) (.vreg m.vreg (allLanes (List.replicate 64 (fromLE q.2)))))
  | 0x04 =>
    (let q := t.load env addr 256 32
     q.1.issue (cycle + 1) (.chunk (m.sel % 16) q.2))
  | 0x05 =>
    (let q := t.load env addr 64 32
     q.1.issue (cycle + 1) (.scales q.2))
  | 0x06 =>
    (let r := t0.sreg m.addrS % 64
     t.issue (cycle + 6) (.vreg m.vreg (allLanes (t0.accRow (m.sel % 4) r ++ t0.accRow (m.sel % 4) ((r + 1) % 64)))))
  | 0x07 => t.issue (cycle + 1) (.out m.line (t0.vreg m.vreg))
  | 0x08 => t.issue (cycle + 1) (.exch m.line (t0.vreg m.vreg))
  | 0x09 =>
    t.issue (cycle + 6) (.vreg m.vreg (allLanes (match env.exch[m.sel]? with
      | some l => lookupD (zeroLanes 64) l m.line
      | none => (List.range 64).map (fun i => Config.freeLane 0x109 m.sel [m.line, i] % 2 ^ 32))))
  | 0x0A =>
    (let q := t.load env addr 4 4
     q.1.issue (cycle + 6) (.sreg m.sdst (fromLE q.2)))
  | 0x0B => t.storeAt env cycle addr 4 (bytesLE 4 (t0.sreg m.sdst))
  | 0x0C => t.issue (cycle + 6) (.sreg m.sdst (nth 0 (t0.vreg m.vreg) m.sel))
  | _ => t

/-- The bits of a compare, or of a mask operation, by lane. -/
def laneBits (f : Nat → Bool) : Nat := ((List.range 64).map (fun i => if f i then 2 ^ i else 0)).sum

/-- The VECTOR slot issues (R349). -/
def Tile.issueVector (t0 t : Tile) (cycle : Nat) (m : VectorSlot) : Tile :=
  let en := t0.mask m.mask
  let a := t0.vreg m.a
  let b := if m.bImm then List.replicate 64 m.imm else t0.vreg m.b
  let c := t0.vreg m.c
  let at_ := cycle + vectorLatency m.op
  let enabled := (List.range 64).filter (fun i => bitOf en i)
  let toV := fun (f : Nat → Nat) => t.issue at_ (.vreg m.dst (enabled.map (fun i => (i, f i))))
  let toM := fun (f : Nat → Bool) => t.issue at_ (.mask m.mdst en (laneBits f))
  let ma := t0.mask (m.a % 8)
  let mb := t0.mask (m.b % 8)
  if m.op = 0 ∨ 0x1F < m.op then t
  else if m.op = 0x10 then toM (fun i => laneLt m.ty (nth 0 a i) (nth 0 b i))
  else if m.op = 0x11 then toM (fun i => laneLt m.ty (nth 0 a i) (nth 0 b i) || laneEq m.ty (nth 0 a i) (nth 0 b i))
  else if m.op = 0x12 then toM (fun i => laneEq m.ty (nth 0 a i) (nth 0 b i))
  else if m.op = 0x13 then toM (fun i => bitOf ma i && bitOf mb i)
  else if m.op = 0x14 then toM (fun i => bitOf ma i || bitOf mb i)
  else if m.op = 0x15 then toM (fun i => !bitOf ma i)
  else if m.op = 0x1C then toV (fun i => nth 0 a ((i + m.imm) % 64))
  else if 0x1D ≤ m.op then toV (fun i => if i = 0 then laneReduce m.op m.ty en a else 0)
  else toV (fun i => laneOp m.op m.ty (nth 0 a i) (nth 0 b i) (nth 0 c i) m.imm (bitOf (t0.mask (m.imm % 8)) i))

/-- A scalar operation of Table 10-11 (codes 0x10 to 0x1F). -/
def scalarOp (op a b : Nat) (sel : Bool) (imm : Nat) : Nat :=
  let w := 2 ^ 32
  match op with
  | 0x10 => (a + b) % w
  | 0x11 => (a + w - b) % w
  | 0x12 => a * b % w
  | 0x13 => Nat.land a b
  | 0x14 => Nat.lor a b
  | 0x15 => Nat.xor a b
  | 0x16 => a * 2 ^ (b % 32) % w
  | 0x17 => a / 2 ^ (b % 32)
  | 0x18 => toTwos 32 (ofTwos 32 a / (2 ^ (b % 32) : Nat))
  | 0x19 => if ofTwos 32 b < ofTwos 32 a then b else a
  | 0x1A => if ofTwos 32 a < ofTwos 32 b then b else a
  | 0x1B => b2n (decide (ofTwos 32 a < ofTwos 32 b))
  | 0x1C => b2n (decide (a < b))
  | 0x1D => b2n (decide (a = b))
  | 0x1E => if sel then a else b
  | _ => toTwos 32 (ofTwos 24 imm)

/-- Source B of the CONTROL slot. -/
def ControlSlot.srcB (m : ControlSlot) (t : Tile) : Nat := if m.bImm then toTwos 32 (ofTwos 24 m.imm) else t.sreg m.b

/-- The CONTROL slot issues, but for loops and the ends of phases. -/
def Tile.issueControl (t0 t : Tile) (cycle : Nat) (m : ControlSlot) : Tile :=
  if m.op = 0x05 then
    (if m.srcB t0 = 0 then t else { t with notices := (m.imm % 256, t0.sreg m.a) :: t.notices })
  else if 0x10 ≤ m.op ∧ m.op ≤ 0x1F then
    t.issue (cycle + 1) (.sreg m.dst (scalarOp m.op (t0.sreg m.a) (m.srcB t0) (decide (t0.sreg (m.imm % 32) ≠ 0)) m.imm))
  else t

/-- One bundle: every slot reads at issue, and MOVE's result lands before VECTOR's (R346). -/
def Tile.issueBundle (t : Tile) (env : TileEnv) (cycle v : Nat) : Tile :=
  let t1 := t.issueMatrix t env cycle (matrixSlot v)
  let t2 := Tile.issueMove t t1 env cycle (moveSlot v)
  Tile.issueControl t (Tile.issueVector t t2 cycle (vectorSlot v)) cycle (controlSlot v)

/-- Where a tile stands: bundle, cycle, and its open loops, innermost first: first bundle of the body, iterations left,
and iterations left within the count (R353). -/
structure Seq where
  pc : Nat
  cycle : Nat
  loops : List (Nat × Nat × Nat)
  ended : Bool

/-- Iterations that a LOOP always issues. -/
def ControlSlot.span (m : ControlSlot) : Nat := m.imm % 2 ^ 16 + 1

/-- The count of a LOOP. -/
def ControlSlot.count (m : ControlSlot) (t : Tile) : Nat := if m.bImm then m.span else min (t.sreg m.a) m.span

/-- The next bundle. -/
def Seq.advance (q : Seq) (t : Tile) (v : Nat) : Seq :=
  let m := controlSlot v
  let q1 := { q with cycle := q.cycle + 1, pc := q.pc + 1 }
  match m.op with
  | 0x01 => { q1 with loops := (q.pc + 1, m.span, m.count t) :: q.loops }
  | 0x02 =>
    (match q.loops with
     | [] => q1
     | (b, n, k) :: l => if n ≤ 1 then { q1 with loops := l } else { q1 with pc := b, loops := (b, n - 1, k - 1) :: l })
  | 0x03 => { q1 with ended := true }
  | 0x04 => { q1 with ended := true }
  | _ => q1

/-- Runs bundles until the phase ends; the fuel is the phase's cost, which no run exceeds. -/
def runBundles (env : TileEnv) (code : List Nat) : Nat → Tile → Seq → Tile × Seq
  | 0, t, q => (t, q)
  | fuel + 1, t, q =>
    if q.ended then (t, q)
    else
      let t0 := t.landAt q.cycle
      let v := nth 0 code q.pc
      let live := q.loops.all (fun l => decide (l.2.2 ≠ 0))
      let t1 := if live then t0.issueBundle env q.cycle v else t0
      runBundles env code fuel t1 (q.advance t0 v)

/-- The first bundle of a phase: the one after its k-th SYNC (R374). -/
def phaseStart : Nat → Nat → List Nat → Nat
  | _, pc, [] => pc
  | k, pc, v :: l => if k = 0 then pc else phaseStart (if (controlSlot v).op = 0x03 then k - 1 else k) (pc + 1) l

/-- A phase on one logical tile: its bundles, and every result landed (R355). -/
def Tile.runPhase (t : Tile) (env : TileEnv) (code : List Nat) (k cost : Nat) : Tile :=
  let q := runBundles env code cost t { pc := phaseStart k 0 code, cycle := 0, loops := [], ended := false }
  q.1.drain q.2.cycle

/-- The start of a run (R352, R356): every register zero, then S24 to S31, and the exchange and output regions cleared. -/
def Tile.beginRun (t : Tile) (special : List Nat) : Tile :=
  { t with v := [], msk := [], s := (List.range 8).map (fun i => (24 + i, nth 0 special i)), acc := [], sat := [],
           active := weightsZero, shadow := weightsZero, exch := [], exchOld := [], out := [], pending := [],
           addrFault := false, notices := [] }

end Sys2Proof.Machine
end

