-- ==== Sys2Proof/Machine/Loader.lean ====
section
/-! DEFINITION. Program containers and the loader (R373 to R381), the ROM library's headers (R384), and the mapping and
schedule of the array (R364 to R367). -/

namespace Sys2Proof.Machine

variable {kd : Part}

/-- A change of the detector array. -/
def Shopostra.onTan (x : Shopostra) (f : Tangent → Tangent) : Shopostra := { x with tan := f x.tan }

/-- A slot with no program. -/
def slotNew : TanSlot :=
  { prog := none, tiles := [], running := false, done := 0, runAt := 0, staged := [], runs := 0, tileFault := false,
    restarted := false, stageDrop := false, class3 := false, skipped := false }

/-- What no object shows of a slot. -/
def Shopostra.slot (x : Shopostra) (n : Nat) : TanSlot := lookupD slotNew x.tan.slots n

/-- Writes it. -/
def Shopostra.setSlot (x : Shopostra) (n : Nat) (q : TanSlot) : Shopostra :=
  x.onTan (fun t => { t with slots := putKey t.slots n q })

/-- TAN_SLOT_STATE (R357). -/
def Shopostra.slotState (x : Shopostra) (n : Nat) : Nat := x.c.reg (0x6100 + n) 1

/-- Whether a slot is BOUND, ACTIVE or DRAINING. -/
def Shopostra.slotBusy (x : Shopostra) (n : Nat) : Bool := decide (2 ≤ x.slotState n)

/-- Sets bits of TAN_SLOT_FAULTS. -/
def Shopostra.slotFault (x : Shopostra) (n bit : Nat) : Shopostra :=
  x.onC (fun c => c.setReg (0x6100 + n) 0x0E (withBit (c.reg (0x6100 + n) 0x0E) bit true))

/-! ## Containers -/

/-- The header of a container (Table 11-1). -/
structure Header where
  b : List Nat

/-- A field of a header. -/
def Header.f (h : Header) (off n : Nat) : Nat := leAt h.b off n
def Header.isData (h : Header) : Bool := bitOf (h.f 5 1) 1
def Header.tiles (h : Header) : Nat := h.f 6 1
def Header.phases (h : Header) : Nat := h.f 7 1
def Header.ident (h : Header) : Nat := h.f 8 4
def Header.footprint (h : Header) : Nat := h.f 12 4
def Header.codeLen (h : Header) : Nat := h.f 16 4
def Header.imageLen (h : Header) : Nat := h.f 20 4
def Header.windowLen (h : Header) : Nat := h.f 24 4
def Header.codeOff (h : Header) : Nat := h.f 28 4
def Header.imageOff (h : Header) : Nat := h.f 32 4
def Header.dataOff (h : Header) : Nat := h.f 36 4
def Header.dataLen (h : Header) : Nat := h.f 40 4
def Header.seedOff (h : Header) : Nat := h.f 44 4
def Header.outLines (h : Header) : Nat := h.f 48 1
def Header.inputs (h : Header) : Nat := h.f 49 1
def Header.costs (h : Header) : List Nat := (List.range 8).map (fun k => h.f (64 + 4 * k) 4)

/-- Check 2 of Table 11-2: whether form and length are right. -/
def Header.formOk (h : Header) (len : Nat) : Bool :=
  let zero := fun (lo n : Nat) => decide (h.f lo n = 0)
  decide (h.b.length = 128) && decide (h.f 0 4 = 0x474E5054) && decide (h.f 4 1 = 1) && decide (h.f 5 1 < 4) && zero 50 14 &&
    zero 96 32 && decide (h.ident ≠ 0) && decide (h.codeLen % 32 = 0) && decide (128 + h.codeLen + h.imageLen + 192 = len) &&
    (if h.isData then decide (h.tiles = 0 ∧ h.phases = 0 ∧ h.codeLen = 0)
     else decide (1 ≤ h.tiles ∧ h.tiles ≤ 48 ∧ 1 ≤ h.phases ∧ h.phases ≤ 8))

/-- Whether two areas overlap; an empty area overlaps nothing. -/
def overlap (a n b m : Nat) : Bool := decide (n ≠ 0 ∧ m ≠ 0 ∧ a < b + m ∧ b < a + n)

/-- Check 8: the layout of R374, OUT_LINES and INPUTS. -/
def Header.layoutOk (h : Header) : Bool :=
  let within := fun (a n : Nat) => decide (n = 0 ∨ a + n ≤ h.footprint)
  decide (h.footprint % 65536 = 0) && decide (64 ≤ h.windowLen) && decide (h.codeOff % 32 = 0) &&
    within 0 h.windowLen && within h.codeOff h.codeLen && within h.imageOff h.imageLen && within h.dataOff h.dataLen &&
    !overlap 0 h.windowLen h.codeOff h.codeLen && !overlap 0 h.windowLen h.imageOff h.imageLen &&
    !overlap 0 h.windowLen h.dataOff h.dataLen && !overlap h.codeOff h.codeLen h.imageOff h.imageLen &&
    !overlap h.codeOff h.codeLen h.dataOff h.dataLen && !overlap h.imageOff h.imageLen h.dataOff h.dataLen &&
    (decide (h.seedOff = 0xFFFFFFFF) || decide (h.seedOff % 8 = 0 ∧ h.seedOff + 8 ≤ h.footprint)) &&
    decide (h.outLines ≤ 64) && bitOf h.inputs 0

/-! ## Encoding and cost (R347, R353, R377) -/

/-- Whether a bundle holds no reserved opcode, field value or register number. -/
def bundleOk (v : Nat) : Bool :=
  let m := matrixSlot v
  let w := vectorSlot v
  let o := moveSlot v
  let k := controlSlot v
  decide (m.op ≤ 3 ∧ m.fmt ≤ 10 ∧ m.reserved = 0) && decide (w.op ≤ 0x1F ∧ w.ty ≠ 3 ∧ w.reserved = 0) &&
    decide (o.op ≤ 0x0C ∧ o.reserved = 0) && !decide (o.op = 0x04 ∧ 15 < o.sel) && decide (k.op ≤ 5 ∨ (0x10 ≤ k.op ∧ k.op ≤ 0x1F)) &&
    !decide (k.op = 0x01 ∧ k.bImm = false ∧ k.a < 28)

/-- Whether the loops of the bundles nest as R353 states: `open_` lists the open loops. None spans a SYNC, each closes. -/
def loopsOk : Nat → List Nat → Bool
  | open_, [] => decide (open_ = 0)
  | open_, v :: l =>
    match (controlSlot v).op with
    | 0x01 => decide (open_ < 4) && loopsOk (open_ + 1) l
    | 0x02 => decide (open_ ≠ 0) && loopsOk (open_ - 1) l
    | 0x03 => decide (open_ = 0) && loopsOk open_ l
    | 0x04 => decide (open_ = 0) && loopsOk open_ l
    | _ => loopsOk open_ l

/-- The first bundles of loop bodies that close at each LEND, by its position. -/
def loopBacks : Nat → List Nat → List Nat → List (Nat × Nat)
  | _, _, [] => []
  | pc, open_, v :: l =>
    match (controlSlot v).op, open_ with
    | 0x01, _ => loopBacks (pc + 1) ((pc + 1) :: open_) l
    | 0x02, b :: rest => (pc, b) :: loopBacks (pc + 1) rest l
    | _, _ => loopBacks (pc + 1) open_ l

/-- Whether the MATRIX slots of the next n bundles are NOP, along every order of issue (R347). -/
def matrixIdle (code : List Nat) (backs : List (Nat × Nat)) : Nat → Nat → Bool
  | 0, _ => true
  | n + 1, pc =>
    let next := if pc < code.length then [pc] else []
    let ok := fun p => decide ((matrixSlot (nth 0 code p)).op = 0)
    next.all (fun p => ok p && matrixIdle code backs n (p + 1) &&
      (match backs.find? (fun b => decide (b.1 = p)) with | some b => matrixIdle code backs n b.2 | none => true))

/-- Check 5 of Table 11-2. -/
def codeOk (code : List Nat) (phases : Nat) : Bool :=
  let ops := code.map (fun v => (controlSlot v).op)
  let backs := loopBacks 0 [] code
  code.all bundleOk && loopsOk 0 code && decide (ops.count 0x03 = phases - 1) && decide (ops.count 0x04 = 1) &&
    decide (ops.getLast? = some 0x04) &&
    (List.range code.length).all (fun pc =>
      let m := matrixSlot (nth 0 code pc)
      !decide (m.op = 1 ∧ m.fmt = 10) || (matrixIdle code backs 3 (pc + 1) &&
        (match backs.find? (fun b => decide (b.1 = pc)) with | some b => matrixIdle code backs 3 b.2 | none => true)))

/-- The costs of the phases (R377): each bundle once, times the span of every loop that encloses it. A LOOP bundle is issued
once, outside its body, and a LEND in each iteration. -/
def costFrom : Nat → List Nat → List Nat → List Nat
  | acc, _, [] => [acc]
  | acc, loops, v :: l =>
    let mult := loops.foldl (fun a b => a * b) 1
    let m := controlSlot v
    match m.op with
    | 0x01 => costFrom (acc + mult) (m.span :: loops) l
    | 0x02 => costFrom (acc + mult) (loops.drop 1) l
    | 0x03 => (acc + mult) :: costFrom 0 loops l
    | _ => costFrom (acc + mult) loops l

/-- Eight costs; a phase that the program does not have costs 0. -/
def phaseCosts (code : List Nat) : List Nat := ((costFrom 0 [] code) ++ List.replicate 8 0).take 8

/-- The time of a slot's phases with a fold factor (R367). -/
def durationOf (j phases : Nat) (costs : List Nat) : Nat :=
  ((costs.take phases).map (fun k => j * k + 64 * (j - 1) + 32)).sum

/-- Cycle budget of a board cycle. -/
def tanBudget : Nat := 185600

/-- D_w of a program (R378). -/
def worstOf (tiles phases : Nat) (costs : List Nat) : Nat := durationOf (if tiles ≤ 24 then 1 else 2) phases costs

/-! ## The ROM library (R384) -/

/-- PROGRAM, inputs, c_0 and FOOTPRINT in KiB of library program n (Table 11-4). -/
def romEntry (n : Nat) : Nat × Nat × Nat × Nat :=
  let e := match n with
    | 1 => (1, 7936, 640)
    | 2 => (1, 9984, 640)
    | 3 => (1, 9472, 640)
    | 4 => (3, 31744, 768)
    | 5 => (3, 3584, 576)
    | 6 => (3, 8448, 640)
    | 7 => (1, 12800, 768)
    | _ => (1, 28160, 704)
  (0x10000 + n, e.1, e.2.1, e.2.2)

/-- The 128 header bytes of library program n: what Table 11-4 states, and the fields that it does not. -/
def romHeaderBytes (n : Nat) : List Nat :=
  let e := romEntry n
  let free := fun (off bytes : Nat) => bytesLE bytes (Config.romHeader n off)
  bytesLE 4 0x474E5054 ++ [1, 1, 1, 1] ++ bytesLE 4 e.1 ++ bytesLE 4 (e.2.2.2 * 1024) ++ free 16 4 ++ free 20 4 ++ free 24 4 ++
    free 28 4 ++ free 32 4 ++ free 36 4 ++ free 40 4 ++ free 44 4 ++ [Config.romHeader n 48 % 65, e.2.1] ++ List.replicate 14 0 ++
    bytesLE 4 e.2.2.1 ++ List.replicate 60 0

/-- The bytes of the ROM library's container n. -/
def romContainer (n : Nat) : List Nat :=
  let h : Header := { b := romHeaderBytes n }
  h.b ++ (List.range (h.codeLen + h.imageLen + 192)).map (fun i => Config.romByte n (128 + i) % 256)

/-! ## Loading -/

/-- The staged container. -/
def Shopostra.stagedBytes (x : Shopostra) : List Nat :=
  let len := x.c.reg 0x6400 3
  ((List.range ((len + 7) / 8)).flatMap (fun i => bytesLE 8 (lookupD 0 x.tan.staged i))).take len

/-- The program that a container's header and bytes spell. -/
def programOf (h : Header) (b : List Nat) (rom : Nat) : Program :=
  { ident := h.ident, tiles := h.tiles, phases := h.phases, footprint := h.footprint, windowLen := h.windowLen,
    codeOff := h.codeOff, imageOff := h.imageOff, dataOff := h.dataOff, dataLen := h.dataLen, seedOff := h.seedOff,
    outLines := h.outLines, inputs := h.inputs, costs := h.costs,
    code := (List.range (h.codeLen / 32)).map (fun i => leAt b (128 + 32 * i) 32),
    image := (b.drop (128 + h.codeLen)).take h.imageLen, data := [], rom := rom }

/-- Whether a key is trusted: its hash is one of TAN_PROGRAM_KEYS (R375). -/
def Common.keyTrusted (c : Common kd) (keyBytes : List Nat) : Bool :=
  let d := Config.sha384 keyBytes
  (List.range 4).any (fun i => decide (c.reg 0x6401 (i + 1) ≠ 0 ∧ c.reg 0x6401 (i + 1) = d))

/-- The checks of Table 11-2 on a staged container, in order: the first that fails; none when the slot may hold it. -/
def Shopostra.loadCheck (x : Shopostra) (slot : Nat) (b : List Nat) : Option Nat :=
  let len := x.c.reg 0x6400 3
  let h : Header := { b := b.take 128 }
  let sig := b.drop (len - 192)
  let keyB := sig.take 96
  let p := programOf h b 0
  if !(decide (320 ≤ len) && h.formOk len) then some 2
  else if bitOf (h.f 5 1) 0 || !x.c.keyTrusted keyB then some 3
  else if !Config.ecdsaVerifies (fromLE keyB) (Config.sha384 (b.take (len - 192))) (fromLE (sig.drop 96)) then some 4
  else if h.isData then
    (match (x.slot slot).prog with
     | some q => if q.ident = h.ident ∧ h.imageLen ≤ q.dataLen then none else some 11
     | none => some 11)
  else if !codeOk p.code h.phases then some 5
  else if phaseCosts p.code ≠ h.costs then some 6
  else if tanBudget < worstOf h.tiles h.phases h.costs ∨ 2097152 < (if h.tiles ≤ 24 then 1 else 2) * h.footprint then some 7
  else if !h.layoutOk then some 8
  else if 0x10000 ≤ h.ident ∧ h.ident ≤ 0x1FFFF then some 9
  else none

/-- A successful program load (R380). -/
def Shopostra.holdProgram (x : Shopostra) (slot : Nat) (p : Program) : Shopostra :=
  (x.setSlot slot { slotNew with prog := some p }).onC (fun c =>
    let i := 0x6100 + slot
    (((((((((c.setReg i 1 1).setReg i 2 p.ident).setReg i 4 p.tiles).setReg i 5 p.footprint).setReg i 6 p.phases).setReg i 9
      p.outLines).setReg i 0x0A 0).setReg i 0x0B 0).setReg 0x6020 (slot + 1) 0))

/-! ## Mapping and schedule (R364, R367) -/

/-- Physical tiles in service, rising. -/
def Common.tilesInService (c : Common kd) : List Nat := (List.range 48).filter (fun t => decide (c.reg 0x6001 (t + 1) = 0))

/-- The physical tile of a logical tile. -/
def Common.physTile (c : Common kd) (l : Nat) : Nat :=
  let p := c.tilesInService
  if p.length = 0 then 0 else nth 0 p (l % p.length)

/-- Logical tiles of a slot. -/
def Shopostra.logicalTiles (x : Shopostra) (s : Nat) : List Nat :=
  (List.range (x.c.reg (0x6100 + s) 4)).map (fun i => x.c.reg (0x6100 + s) 3 + i)

/-- The largest number of a slot's logical tiles that one physical tile carries (R367). -/
def Shopostra.foldOf (x : Shopostra) (s : Nat) : Nat :=
  let ps := (x.logicalTiles s).map x.c.physTile
  (ps.map (fun p => ps.count p)).foldl max 1

/-- D_s on the current mapping. -/
def Shopostra.duration (x : Shopostra) (s : Nat) : Nat :=
  match (x.slot s).prog with
  | some p => durationOf (x.foldOf s) p.phases p.costs
  | none => 0

/-- The schedule of a list of slots: slot, START and end, and when each physical tile is free. -/
def Shopostra.scheduleFrom (x : Shopostra) : List (Nat × Nat) → List Nat → List (Nat × Nat × Nat)
  | _, [] => []
  | free, s :: l =>
    let ps := (x.logicalTiles s).map x.c.physTile
    let start := (ps.map (fun p => lookupD 0 free p)).foldl max 0
    let fin := start + x.duration s
    (s, start, fin) :: x.scheduleFrom (ps.foldl (fun a p => putKey a p fin) free) l

/-- Slots that are BOUND, ACTIVE or DRAINING. -/
def Shopostra.busySlots (x : Shopostra) : List Nat := (List.range 64).filter x.slotBusy

/-- Whether a schedule fits the budget. -/
def scheduleFits (l : List (Nat × Nat × Nat)) : Bool := l.all (fun e => decide (e.2.2 ≤ tanBudget))

/-- Whether the regions of a list of slots fit the SRAM of every tile in service (R365). -/
def Shopostra.footprintFits (x : Shopostra) (l : List Nat) : Bool :=
  x.c.tilesInService.all (fun p => decide ((l.map (fun s =>
    ((x.logicalTiles s).map x.c.physTile).count p * x.c.reg (0x6100 + s) 5)).sum ≤ 2097152))

/-- The slots that run: all of them, or fewer, the highest-numbered left out until the schedule and the regions fit (R364,
R369). -/
def Shopostra.runnable (x : Shopostra) : Nat → List Nat → List Nat
  | 0, _ => []
  | n + 1, l =>
    if l = [] then []
    else if decide (24 ≤ x.c.tilesInService.length) && scheduleFits (x.scheduleFrom [] l) && x.footprintFits l then l
    else x.runnable n l.dropLast

/-- Recomputes the mapping and the schedule, and publishes them. -/
def Shopostra.reschedule (x : Shopostra) : Shopostra :=
  let busy := x.busySlots
  let run := x.runnable 65 busy
  let sch := x.scheduleFrom [] run
  let n := x.c.tilesInService.length
  let c0 := (((x.c.setReg 0x6000 1 n).setReg 0x6000 3 (if n = 48 then 1 else 2)).setReg 0x6000 4 (b2n (decide (24 ≤ n)))).setReg 0x6003 0
    ((sch.map (fun e => e.2.2)).foldl max 0)
  let c1 := (List.range 48).foldl (fun c l => c.setReg 0x6002 (l + 1) (x.c.physTile l)) c0
  let c2 := (List.range 64).foldl (fun c s =>
    (c.setReg (0x6100 + s) 7 (x.duration s)).setReg (0x6100 + s) 8
      (match sch.find? (fun e => decide (e.1 = s)) with | some e => e.2.1 | none => 0)) c1
  let x1 := busy.foldl (fun (a : Shopostra) s => a.setSlot s { a.slot s with skipped := !decide (s ∈ run) }) x
  { x1 with c := c2 }

/-! ## Commits (R376, R377) -/

/-- A write of TAN_LOAD_COMMIT. -/
def ruleTanCommit (v : Nat) (x : Shopostra) : Shopostra × Option Abort :=
  let s := x.c.reg 0x6400 4
  let status := fun (y : Shopostra) (n : Nat) => y.onC (fun c => c.setReg 0x6400 7 n)
  if v ≠ 1 ∧ v ≠ 2 then (x, some .value)
  else if x.slotBusy s then (status x 10, some .state)
  else if v = 2 then
    (((x.setSlot s slotNew).onC (fun c => [1, 2, 4, 5, 6, 9].foldl (fun a k => a.setReg (0x6100 + s) k 0) c)).reschedule, none)
  else
    let rom := x.c.reg 0x6400 5
    if rom ≠ 0 then
      (let b := romContainer rom
       let p := programOf { b := b.take 128 } b rom
       (status (((x.holdProgram s p).reschedule).onC (fun c => c.setReg 0x6400 8 (worstOf p.tiles p.phases p.costs))) 1, none))
    else
      let b := x.stagedBytes
      let h : Header := { b := b.take 128 }
      let p := programOf h b 0
      match x.loadCheck s b with
      | some n =>
        let x1 := if 7 ≤ n ∧ n ≤ 9 then x.onC (fun c => c.setReg 0x6400 8 (worstOf h.tiles h.phases h.costs % 2 ^ 32)) else x
        (status x1 n, none)
      | none =>
        if h.isData then
          (match (x.slot s).prog with
           | some q => (status (x.setSlot s { x.slot s with prog := some { q with data := p.image } }) 1, none)
           | none => (status x 11, none))
        else (status (((x.holdProgram s p).reschedule).onC (fun c => c.setReg 0x6400 8 (worstOf p.tiles p.phases p.costs))) 1, none)

/-- PROGRAM_LOAD (R377). -/
def execProgramLoad (r : Req) (s : State) : Res := onX (fun x => x.ruled r 0x6400 6 1 (ruleTanCommit 1)) s

/-- PROGRAM_UNLOAD (R376). -/
def execProgramUnload (r : Req) (s : State) : Res := onX (fun x => x.ruled r 0x6400 6 2 (ruleTanCommit 2)) s

/-- A write of TAN_LOAD_DATA or of its cursor. -/
def ruleTanLoad (sub v : Nat) (x : Shopostra) : Shopostra × Option Abort :=
  let cur := x.c.reg 0x6400 2
  match sub with
  | 1 =>
    (if 4194304 ≤ cur then (x, some .state)
     else ((x.onTan (fun t => { t with staged := putKey t.staged (cur / 8) v })).onC (fun c => c.setReg 0x6400 2 (cur + 8)), none))
  | _ => if v % 8 ≠ 0 ∨ 4194304 ≤ v then (x, some .value) else (x.onC (fun c => c.setReg 0x6400 2 v), none)

/-- TAN_LOAD_DATA_WRITE (R376). -/
def execTanLoadDataWrite (r : Req) (v : Nat) (s : State) : Res := onX (fun x => x.ruled r 0x6400 1 v (ruleTanLoad 1 v)) s

/-- A write of TAN_SLOT_SEED. -/
def ruleTanSeed (slot v : Nat) (x : Shopostra) : Shopostra × Option Abort :=
  if x.slotBusy slot then (x, some .state) else (x.onC (fun c => c.setReg 0x6020 (slot + 1) v), none)

/-- TAN_SLOT_SEED_WRITE (R381). -/
def execTanSlotSeedWrite (r : Req) (slot v : Nat) (s : State) : Res :=
  onX (fun x => x.ruled r 0x6020 (slot + 1) v (ruleTanSeed slot v)) s

/-- A write of a slot's BASE (03) or parameters (0A, 0B), or of an input's settings: none while the slot is bound (R370). -/
def ruleTanSlot (idx sub v : Nat) (x : Shopostra) : Shopostra × Option Abort :=
  let s := if idx < 0x6200 then idx - 0x6100 else (idx - 0x6200) / 8
  if idx < 0x6200 ∧ sub = 3 ∧ 47 < v then (x, some .value)
  else if x.slotBusy s then (x, some .state)
  else
    let x1 := x.onC (fun c => c.setReg idx sub v)
    (if idx < 0x6200 ∧ sub = 3 then x1.reschedule else x1, none)

/-! ## Entry to BOUND (R358, R379, R381) -/

/-- The seed mixer of R381. -/
def mix (z0 : Nat) : Nat :=
  let m := 2 ^ 64
  let z1 := z0 * 0x9E3779B97F4A7C15 % m
  let z2 := Nat.xor z1 (z1 / 2 ^ 30) * 0xBF58476D1CE4E5B9 % m
  let z3 := Nat.xor z2 (z2 / 2 ^ 27) * 0x94D049BB133111EB % m
  Nat.xor z3 (z3 / 2 ^ 31)

/-- The region of logical tile l: bundles, initial image, data and seed; every other byte zero. -/
def Program.region (p : Program) (seed l : Nat) : List Host.Cell :=
  let m1 := memWriteN [] p.codeOff (p.code.flatMap (bytesLE 32))
  let m2 := memWriteN m1 p.imageOff p.image
  let m3 := memWriteN m2 p.dataOff p.data
  if p.seedOff = 0xFFFFFFFF then m3 else memWriteN m3 p.seedOff (bytesLE 8 (mix (seed + l + 1)))

/-- Loads every logical tile of a slot from its program. -/
def Shopostra.loadTiles (x : Shopostra) (s : Nat) : Shopostra :=
  match (x.slot s).prog with
  | none => x
  | some p => x.setSlot s { x.slot s with
      tiles := (List.range p.tiles).map (fun l => { tileNew with region := p.region (x.c.reg 0x6020 (s + 1)) l }) }

end Sys2Proof.Machine
end

