-- ==== Sys2Proof/Machine/Library.lean ====
section
/-! DEFINITION. The eight detectors of the ROM library, by what they compute (R385 to R390). Their bundles are not stated by
the spec; a run of such a slot computes what these rules say. -/

namespace Sys2Proof.Machine

/-- Element e of a staged interval: VALUE and AUX; none where the interval stages no such element. -/
def StagedInterval.elem (v : StagedInterval) (e : Nat) : Option (Nat × Nat) :=
  if 8 * e + 8 ≤ v.bytes.length then some (leAt v.bytes (8 * e) 4, leAt v.bytes (8 * e + 4) 4) else none

/-- What a detector reads: its inputs, which elements are LATTICE forms, its parameter words, and the data of R379. -/
structure DetIn where
  in0 : List StagedInterval
  in1 : List StagedInterval
  lattice : List Bool
  word : List Nat
  data : List Nat

/-- A parameter word. -/
def DetIn.w (d : DetIn) (i : Nat) : Nat := nth 0 d.word i
def DetIn.first (d : DetIn) : Nat := d.w 0 % 2 ^ 16
def DetIn.count (d : DetIn) : Nat := min 2048 (d.w 0 / 2 ^ 16)

/-- The value of a series in an interval; none where the series skips its update (R385). -/
def DetIn.value (d : DetIn) (v : StagedInterval) (e : Nat) : Option Nat :=
  if bitOf v.flags 2 then none
  else match v.elem e with
    | none => none
    | some q =>
      let empty := if (d.lattice[e]?).getD false then bitOf q.2 31 else bitOf q.2 0
      if empty || (fp32 q.1).isNan then none else some q.1

/-- An update of a series: its registers, the score, ALARM and WARM. -/
structure SeriesStep where
  regs : List Nat
  score : Nat
  alarm : Bool
  warm : Bool

/-- A series in a run: its registers, its last score, ALARM raised, some update made, WARM. -/
structure SeriesRun where
  regs : List Nat
  score : Nat
  alarm : Bool
  updated : Bool
  warm : Bool

/-- What a detector leaves: output lines, notices (code and argument, newest first) and states. -/
structure DetOut where
  lines : List (Nat × List Nat)
  notices : List (Nat × Nat)
  series : List (Nat × SeriesState)

/-- Binary32 one and two. -/
def one32 : Nat := 0x3F800000
def two32 : Nat := 0x40000000

/-- Absolute value of a binary32. -/
def abs32 (a : Nat) : Nat := if (fp32 a).isNan then nan32 else a % 2 ^ 31

/-- CUSUM (R386): registers sp, sn. -/
def cusumStep (d : DetIn) (r : List Nat) (x : Nat) : SeriesStep :=
  let dv := sub32 x (d.w 1)
  let sp := fmax32 0 (sub32 (add32 (nth 0 r 0) dv) (d.w 2))
  let sn := fmax32 0 (sub32 (sub32 (nth 0 r 1) dv) (d.w 2))
  let score := fmax32 sp sn
  let alarm := flt32 (d.w 3) score
  { regs := if alarm then [0, 0] else [sp, sn], score := score, alarm := alarm, warm := false }

/-- EWMA with control limits (R386): registers count, mu, m2, sigma, z. -/
def ewmaStep (d : DetIn) (r : List Nat) (x : Nat) : SeriesStep :=
  let n := d.w 3
  let count := nth 0 r 0
  let mu := nth 0 r 1
  let m2 := nth 0 r 2
  let sigma := nth 0 r 3
  if count < n then
    let c := count + 1
    let dv := sub32 x mu
    let mu1 := add32 mu (div32 dv (int32 c))
    let m21 := add32 m2 (mul32 dv (sub32 x mu1))
    let s1 := if c = n then sqrt32 (div32 m21 (int32 ((n : Int) - 1))) else sigma
    { regs := [c, mu1, m21, s1, mu1], score := 0, alarm := false, warm := decide (c < n) }
  else
    let lam := d.w 1
    let z := add32 (mul32 lam x) (mul32 (sub32 one32 lam) (nth 0 r 4))
    let score := if sigma % 2 ^ 31 = 0 then (if feq32 z mu then 0 else 0x7F800000)
      else div32 (abs32 (sub32 z mu)) (mul32 sigma (sqrt32 (div32 lam (sub32 two32 lam))))
    { regs := [count, mu, m2, sigma, z], score := score, alarm := flt32 (d.w 2) score, warm := false }

/-- Page-Hinkley drift (R386): registers count, mean, m, mmin. -/
def pageStep (d : DetIn) (r : List Nat) (x0 : Nat) : SeriesStep :=
  let x := if d.w 3 = 1 then neg32 x0 else x0
  let c := nth 0 r 0 + 1
  let mean := add32 (nth 0 r 1) (div32 (sub32 x (nth 0 r 1)) (int32 c))
  let m := add32 (nth 0 r 2) (sub32 (sub32 x mean) (d.w 1))
  let mmin := fmin32 (nth 0 r 3) m
  let score := sub32 m mmin
  let alarm := flt32 (d.w 2) score
  { regs := if alarm then [0, 0, 0, 0] else [c, mean, m, mmin], score := score, alarm := alarm, warm := false }

/-- m(b) of a LATTICE bucket, as binary32 (R387). -/
def bucketMid (b : Nat) : Nat := (fpRound 8 23 (-149) false (2 * (bucketEdge b).1 + (bucketEdge b).2) (-1)).1

/-- The value at which a weighted list, taken in rising order of its values, reaches a rank. -/
def weightedAt (rank : Nat) (l : List (Nat × Nat)) : Nat :=
  let sorted := l.mergeSort (fun a b => decide (ieeeOrder 32 a.1 ≤ ieeeOrder 32 b.1))
  let rec go : Nat → List (Nat × Nat) → Nat
    | _, [] => 0
    | n, (v, k) :: rest => if n ≤ k then v else go (n - k) rest
  go rank sorted

/-- Median and MAD of a dense LATTICE interval; none when N is 0 (R387). -/
def medianMad (v : StagedInterval) : Option (Nat × Nat) :=
  let l := ((List.range 2048).map (fun b => (b, ((v.elem b).map Prod.fst).getD 0))).filter (fun q => decide (q.2 ≠ 0))
  let n := (l.map Prod.snd).sum
  if n = 0 then none
  else
    let m := bucketMid (bucketAt ((n + 1) / 2) l)
    some (m, weightedAt ((n + 1) / 2) (l.map (fun q => (abs32 (sub32 (bucketMid q.1) m), q.2))))

/-- Robust z-score (R387) with the median and MAD of the interval. -/
def robustStep (d : DetIn) (m mad x : Nat) : SeriesStep :=
  let z := div32 (mul32 0x3F2CAC08 (sub32 x (mul32 m (d.w 2)))) (fmax32 (mul32 mad (d.w 2)) (d.w 3))
  let score := abs32 z
  { regs := [], score := score, alarm := flt32 (d.w 1) score, warm := false }

/-- A binary32 of the data image. -/
def DetIn.f32 (d : DetIn) (off : Nat) : Nat := leAt d.data off 4

/-- Temporal convolution scorer (R390): registers: number of values seen, then the last 16 normalised values, oldest first. -/
def convStep (d : DetIn) (r : List Nat) (x : Nat) : SeriesStep :=
  let u := mul32 (sub32 x (d.f32 0)) (d.f32 4)
  let seen := min 16 (nth 0 r 0 + 1)
  let vals := (((r.drop 1) ++ [u]).reverse.take 16).reverse
  if d.data = [] then { regs := seen :: vals, score := 0, alarm := false, warm := decide (seen < 16) }
  else
    let h := (List.range 8).map (fun c => fmax32 0 ((List.range 16).foldl (fun a t =>
      fma32 (d.f32 (8 + 64 * c + 4 * t)) (nth 0 vals t) a) (d.f32 (520 + 4 * c))))
    let full := (List.range 8).foldl (fun a c => fma32 (d.f32 (552 + 4 * c)) (nth 0 h c) a) (d.f32 584)
    let score := if seen < 16 then Config.freeLane 0x208 0 vals % 2 ^ 32 else full
    { regs := seen :: vals, score := score, alarm := flt32 (d.w 1) score, warm := decide (seen < 16) }

/-- Runs one series through the intervals of a run; `warm` is WARM where none of them updates it. -/
def runSeries (d : DetIn) (step : StagedInterval × Option StagedInterval → List Nat → Nat → Option SeriesStep) (s : Nat)
    (regs : List Nat) (warm : Bool) : SeriesRun :=
  ((d.in0.take 16).zip (List.range 16)).foldl (fun (a : SeriesRun) q =>
    match d.value q.1 (d.first + s) with
    | none => a
    | some x =>
      match step (q.1, d.in1[q.2]?) a.regs x with
      | none => a
      | some t => { regs := t.regs, score := t.score, alarm := a.alarm || t.alarm, updated := true, warm := t.warm })
    { regs := regs, score := 0, alarm := false, updated := false, warm := warm }

/-- The 64 lanes of output line n: entry i of a list is lane i mod 64 of line i div 64. -/
def linesFrom (base : Nat) (l : List Nat) : List (Nat × List Nat) :=
  (List.range ((l.length + 63) / 64)).map (fun n => (base + n, ((l.drop (64 * n)).take 64 ++ zeroLanes 64).take 64))

/-- The output of a series detector (R385): scores from line 0, flags from line 32, notices of the alarming series. No rule
states the score of a series without an update, but for a scorer without weights, whose scores are all 0 (R390). -/
def seriesOut (lib code : Nat) (weights : Bool) (runs : List (Nat × SeriesRun)) : DetOut :=
  { lines := linesFrom 0 (runs.map (fun q => if q.2.updated then q.2.score
        else if 7 ≤ lib ∧ weights = false then 0 else Config.freeLane (0x200 + lib) 0 [q.1] % 2 ^ 32)) ++
      linesFrom 32 (runs.map (fun q => b2n q.2.alarm + 2 * b2n (!q.2.updated) + 4 * b2n q.2.warm)),
    notices := ((runs.filter (fun q => q.2.alarm)).map (fun q => (code, q.1))).reverse,
    series := runs.map (fun q => (q.1, { regs := q.2.regs })) }

/-- Detectors 1 to 4 and 8. -/
def seriesDetector (lib code : Nat) (d : DetIn) (st : List (Nat × SeriesState)) : DetOut :=
  let step : StagedInterval × Option StagedInterval → List Nat → Nat → Option SeriesStep := fun iv r x =>
    match lib with
    | 1 => some (cusumStep d r x)
    | 2 => some (ewmaStep d r x)
    | 3 => some (pageStep d r x)
    | 4 =>
      (match iv.2 with
       | none => none
       | some v => (medianMad v).map (fun q => robustStep d q.1 q.2 x))
    | _ => some (convStep d r x)
  let empty := if lib = 8 then List.replicate 17 0 else [0, 0, 0, 0, 0]
  seriesOut lib code (decide (d.data ≠ [])) ((List.range d.count).map (fun s =>
    let r := (lookupD { regs := empty } st s).regs
    let warm := decide (lib = 2 ∧ nth 0 r 0 < d.w 3) || decide (lib = 8 ∧ nth 0 r 0 < 16)
    (s, runSeries d step s r warm)))

/-! ## Straggler lag (R388) -/

/-- The table: 32 addresses and their counts. An address takes its entry, or the entry with the lowest count, ties to the
lowest address. -/
def tableSlot (t : List (Nat × Nat)) (a : Nat) : Nat :=
  match (List.range 32).find? (fun i => decide (((t[i]?).getD (0, 0)).1 = a)) with
  | some i => i
  | none => (List.range 32).foldl (fun m i =>
      let x := (t[i]?).getD (0, 0)
      let y := (t[m]?).getD (0, 0)
      if x.2 < y.2 ∨ (x.2 = y.2 ∧ x.1 < y.1) then i else m) 0

/-- One interval: the table and the notices, newest first. -/
def stragglerInterval (d : DetIn) (q : List (Nat × Nat) × List (Nat × Nat)) (v : StagedInterval) (m : Nat) :
    List (Nat × Nat) × List (Nat × Nat) :=
  let entries := (List.range (v.bytes.length / 8)).filterMap v.elem
  let hits := entries.filter (fun e =>
    let lag := sub32 e.1 m
    decide (e.2 ≠ 0xFFFFFFFF) && flt32 (d.w 0) lag && (decide (d.w 1 % 2 ^ 31 = 0) || flt32 (mul32 (d.w 1) m) lag))
  let persist := d.w 2 % 256
  let q1 := hits.foldl (fun (a : List (Nat × Nat) × List (Nat × Nat)) e =>
    let i := tableSlot a.1 e.2
    let old := (a.1[i]?).getD (0, 0)
    let n := if old.1 = e.2 then old.2 + 1 else 1
    (a.1.set i (e.2, n), if persist ≠ 0 ∧ n % persist = 0 then (0x40, e.2) :: a.2 else a.2)) q
  (q1.1.map (fun e => if hits.any (fun h => decide (h.2 = e.1)) then e else (e.1, 0)), q1.2)

/-- Detector 5. -/
def stragglerDetector (d : DetIn) (st : List (Nat × SeriesState)) : DetOut :=
  let r := (lookupD { regs := zeroLanes 64 } st 0).regs
  let t0 := (List.range 32).map (fun i => (nth 0 r i, nth 0 r (32 + i)))
  let med := fun (i : Nat) => (((d.in1[i]?).bind (fun v => v.elem 0)).map Prod.fst).getD 0
  let ivs := (d.in0.take 16).zip (List.range 16)
  let q := ivs.foldl (fun a v => stragglerInterval d a v.1 (med v.2)) (t0, [])
  let last := match ivs.getLast? with
    | none => []
    | some v =>
      let e := fun (j : Nat) => (v.1.elem j)
      [(0, (List.range 32).map (fun j => match e j with | some x => sub32 x.1 (med v.2) | none => 0) ++
        (List.range 32).map (fun j => match e j with | some x => x.2 | none => 0xFFFFFFFF))]
  let table := q.1.map Prod.fst ++ q.1.map Prod.snd
  { lines := last ++ [(1, table)], notices := q.2, series := [(0, { regs := table })] }

/-! ## Conditional-failure correlation (R389) -/

/-- Detector 6: registers f and x of each bucket. -/
def correlationDetector (d : DetIn) (st : List (Nat × SeriesState)) : DetOut :=
  let n := d.count
  let start := (List.range n).map (fun s => (lookupD { regs := [0, 0] } st s).regs)
  let step := fun (q : List (List Nat) × List SeriesRun) (v : StagedInterval × Nat) =>
    let regs := (q.1.zip (List.range n)).map (fun e =>
      match d.value v.1 (d.first + e.2) with
      | none => (e.1, false)
      | some fail =>
        let exp := (((d.in1[v.2]?).bind (fun w => w.elem (d.first + e.2))).map Prod.fst).getD 0
        ([add32 (mul32 (d.w 3) (nth 0 e.1 0)) fail, add32 (mul32 (d.w 3) (nth 0 e.1 1)) exp], true))
    let total := fun i => (treeSum add32 11 (regs.map (fun e => nth 0 e.1 i))).headD 0
    let fT := total 0
    let xT := total 1
    let runs := (regs.zip q.2).map (fun e =>
      let f := nth 0 e.1.1 0
      let x := nth 0 e.1.1 1
      let score := if x % 2 ^ 31 = 0 ∨ fT % 2 ^ 31 = 0 then 0 else div32 (div32 f x) (div32 fT xT)
      let alarm := e.1.2 && flt32 (d.w 1) score && !flt32 f (int32 (d.w 2))
      if e.1.2 then { e.2 with score := score, alarm := e.2.alarm || alarm, updated := true } else e.2)
    (regs.map Prod.fst, runs)
  let q := ((d.in0.take 16).zip (List.range 16)).foldl step
    (start, List.replicate n { regs := [], score := 0, alarm := false, updated := false, warm := false })
  let runs := (List.range n).zip ((q.1.zip q.2).map (fun e => { e.2 with regs := e.1 }))
  let o := seriesOut 6 0x10 true runs
  { o with notices := o.notices.map (fun k => (k.1, d.first + k.2)) }

/-! ## Autoencoder (R390) -/

/-- A column of a 64 × 32 BF16 tile of the data image times a row of BF16 activations, plus a bias, by FMT 10. -/
def bf16Column (d : DetIn) (off n : Nat) (row : List Nat) (bias : Nat) : Nat :=
  let p := (List.range 64).map (fun k => ((bf16 (nth 0 row k)).mul (bf16 (leAt d.data (off + 64 * k + 2 * n) 2))).to32)
  add32 ((treeSum add32 6 p).headD 0) bias

/-- The score of one group of 64 values. -/
def autoScore (d : DetIn) (x : List Nat) : Nat :=
  let u := (List.range 64).map (fun i => mul32 (sub32 (nth 0 x i) (d.f32 (4 * i))) (d.f32 (256 + 4 * i)))
  let h := (List.range 32).map (fun n => fmax32 0 (bf16Column d 512 n (u.map (fun v => v / 2 ^ 16)) (d.f32 (4608 + 4 * n))) / 2 ^ 16)
  let y := (List.range 64).map (fun n => bf16Column d (4736 + 4096 * (n / 32)) (n % 32) (h ++ zeroLanes 32) (d.f32 (12928 + 4 * n)))
  let sq := (y.zip u).map (fun e => mul32 (sub32 e.1 e.2) (sub32 e.1 e.2))
  div32 ((treeSum add32 6 sq).headD 0) 0x42800000

/-- Detector 7. -/
def autoDetector (d : DetIn) : DetOut :=
  let groups := min 32 d.count
  let runs := (List.range groups).map (fun g =>
    (g, (d.in0.take 16).foldl (fun (a : SeriesRun) v =>
      let x := (List.range 64).map (fun i => v.elem (d.first + 64 * g + i))
      if bitOf v.flags 2 || x.any Option.isNone then a
      else
        let score := if d.data = [] then 0 else autoScore d (x.map (fun e => (e.map Prod.fst).getD 0))
        let alarm := decide (d.data ≠ []) && flt32 (d.w 1) score
        { a with score := score, alarm := a.alarm || alarm, updated := true })
      { regs := [], score := 0, alarm := false, updated := false, warm := false }))
  { seriesOut 7 0x85 (decide (d.data ≠ [])) runs with series := [] }

/-- A run of ROM library program n. -/
def runLibrary (n : Nat) (d : DetIn) (st : List (Nat × SeriesState)) : DetOut :=
  match n with
  | 5 => stragglerDetector d st
  | 6 => correlationDetector d st
  | 7 => autoDetector d
  | 8 => seriesDetector 8 0x86 d st
  | _ => seriesDetector n (0x80 + n) d st

end Sys2Proof.Machine
end

