-- ==== Sys2Proof/Machine/Array.lean ====
section
/-! DEFINITION. The detector array at work: staging, runs, outputs, and tiles in and out of service (R358 to R371). -/

namespace Sys2Proof.Machine

variable {kd : Part}

/-! ## Inputs (R357, R359 to R361) -/

/-- Index of the object of input i of slot s. -/
def inputObj (s i : Nat) : Nat := 0x6200 + 8 * s + i

/-- The tag bound to an input; 0 when unbound. -/
def Shopostra.inputTag (x : Shopostra) (s i : Nat) : Nat := x.c.reg (inputObj s i) 1

/-- The inputs of a slot that are bound. -/
def Shopostra.boundInputs (x : Shopostra) (s : Nat) : List Nat := (List.range 8).filter (fun i => decide (x.inputTag s i ≠ 0))

/-- The q values listed for an input. -/
def Common.inputQs (c : Common kd) (s i : Nat) : List Nat :=
  ((List.range 8).map (fun k => bits (c.reg (inputObj s i) (4 + k / 4)) (16 * (k % 4) + 15) (16 * (k % 4)))).filter
    (fun q => decide (q ≠ 0))

/-- Whether an input stages LATTICE runs dense. -/
def Common.inputDense (c : Common kd) (s i : Nat) : Bool := decide (c.reg (inputObj s i) 3 = 1)

/-- Staged elements of an interval in which nothing is held. -/
def Shopostra.emptyElems (x : Shopostra) (s i : Nat) (e : Entry) : List (Nat × Nat) :=
  (x.redDesc e.redDesc).runs.flatMap (fun r =>
    (List.replicate r.count (stagedEmpty r (x.c.inputDense s i) (x.c.inputQs s i))).flatten)

/-- Which staged elements are LATTICE forms. -/
def Shopostra.latticeElems (x : Shopostra) (s i : Nat) (e : Entry) : List Bool :=
  (x.redDesc e.redDesc).runs.flatMap (fun r =>
    List.replicate (r.count * (stagedEmpty r (x.c.inputDense s i) (x.c.inputQs s i)).length) (decide (r.op = 8)))

/-- Bytes of an interval slot of an entry's input (R360, R361). -/
def Shopostra.intervalBytes (x : Shopostra) (s i : Nat) (e : Entry) : Nat :=
  if e.forwards then 32 + e.inCount * (8 + x.c.reg (inputObj s i) 6) else 32 + 8 * (x.emptyElems s i e).length

/-- Bytes of the area of an input. -/
def Shopostra.areaBytes (x : Shopostra) (s i : Nat) : Nat :=
  if x.inputTag s i = 0 then 0
  else x.c.reg (inputObj s i) 2 * x.intervalBytes s i (x.entry (x.inputTag s i))

/-- AREA_OFF of an input: the areas of bound inputs follow the header in input order. -/
def Shopostra.areaOff (x : Shopostra) (s i : Nat) : Nat := 64 + ((List.range i).map (x.areaBytes s)).sum

/-- The deadline of an interval of a bound entry: R308 for a reduced one, R361 for raw inputs. -/
def Shopostra.stageDeadline (x : Shopostra) (tag : Nat) (t : Ticks) : Ticks :=
  let e := x.entry tag
  if e.forwards then t + usT e.interval + usT ((4 - x.c.depth) * 10) else x.deadline tag t

/-- The board-cycle start at which an interval is staged: its deadline lies in [T - 127 µs, T - 2 µs). -/
def stageStart (deadline : Ticks) : Ticks := cycleStart (deadline + usT 2) + cycleT

/-- T_act of a session; none where the part holds no such session. -/
def Common.actOf (c : Common kd) (n : Nat) : Option Ticks := (c.sessionSlot n).map (fun k => (c.session k).tAct)

/-- Whether an interval belongs to an entry: on its grid, at or after T_act, and before T_stop. -/
def Shopostra.intervalOf (x : Shopostra) (tag : Nat) (t : Ticks) : Bool :=
  let e := x.entry tag
  decide (gridFloor e.interval t = t) && (match x.c.actOf e.session with | some a => decide (a ≤ t) | none => false) &&
    (match x.c.stopOf e.session with | some b => decide (t < b) | none => true)

/-- The board-cycle start at which an interval of an entry is staged: a read-out held over a STOP is staged k seconds
later (R477, R479). -/
def Shopostra.stageAt (x : Shopostra) (tag : Nat) (t : Ticks) : Ticks :=
  let d := stageStart (x.stageDeadline tag t)
  match x.c.flag.span with
  | some (a, some b) => if t < a ∧ a < d then d + (b - a) else d
  | _ => d

/-- The interval instants that board cycle T stages for an entry, rising. -/
def Shopostra.stagedInstants (x : Shopostra) (tag : Nat) (tn : Ticks) : List Ticks :=
  let e := x.entry tag
  if e.interval = 0 then []
  else
    let lag := x.stageDeadline tag 0
    let near := fun (at_ : Ticks) =>
      let g := gridFloor e.interval (at_ - usT 127 - lag)
      (List.range (127 / e.interval + 3)).map (fun k => g + k * usT e.interval)
    let held := match x.c.flag.span with
      | some (a, some b) => near (tn - (b - a))
      | _ => []
    (held ++ near tn).filter (fun t => x.intervalOf tag t && !x.c.frozenAt t && decide (x.stageAt tag t = tn))

/-- An interval of a reduced entry as staged; MISSING where its read-out is not held (R359). -/
def Shopostra.stageReduced (x : Shopostra) (s i tag : Nat) (tn t : Ticks) : StagedInterval :=
  let e := x.entry tag
  let enc := fun (l : List (Nat × Nat)) => l.flatMap (fun q => bytesLE 4 q.1 ++ bytesLE 4 q.2)
  match x.red.outputs.find? (fun o => decide (o.tag = tag ∧ o.instant = t ∧ o.closedAt ≤ tn)) with
  | some o =>
    { stamp := o.cls * 2 ^ 46 + x.c.stamp40 t, present := o.present, expected := o.expected,
      flags := o.flags % 4 + (if bitOf o.flags 4 then 8 else 0),
      bytes := enc (((x.redDesc e.redDesc).runs.zip o.runs).flatMap (fun q =>
        q.2.flatMap (stagedForms q.1 (x.c.inputDense s i) (x.c.inputQs s i)))) }
  | none =>
    { stamp := x.c.stampU 128 t, present := 0, expected := (e.ports.map (fun p => x.c.diesBehind e.session p)).sum, flags := 4,
      bytes := enc (x.emptyElems s i e) }

/-- An interval of raw inputs as staged, in increasing logical address (R361). -/
def Shopostra.stageRaw (x : Shopostra) (s i tag : Nat) (t : Ticks) : StagedInterval :=
  let e := x.entry tag
  let n := x.c.reg (inputObj s i) 6
  let l := (x.tan.raws.filter (fun w => decide (w.tag = tag ∧ w.instant = t))).mergeSort (fun a b => decide (a.source ≤ b.source))
  { stamp := (l.foldl (fun m w => max m w.cls) 0) * 2 ^ 46 + x.c.stamp40 t, present := l.length, expected := e.inCount, flags := 0,
    bytes := l.flatMap (fun w => bytesLE 4 w.source ++ bytesLE 4 w.message.length ++ (w.message ++ List.replicate n 0).take n) }

/-- The 32-byte interval header and what follows it. -/
def StagedInterval.image (v : StagedInterval) : List Nat :=
  bytesLE 6 v.stamp ++ [0, 0] ++ bytesLE 4 v.present ++ bytesLE 4 v.expected ++ [v.flags] ++ List.replicate 15 0 ++ v.bytes

/-- Stages one input: its intervals, and how many were dropped beyond MAX_INTERVALS. -/
def Shopostra.stageInput (x : Shopostra) (s i : Nat) (tn : Ticks) : List StagedInterval × Nat :=
  let tag := x.inputTag s i
  let e := x.entry tag
  let ts := x.stagedInstants tag tn
  let max_ := x.c.reg (inputObj s i) 2
  ((ts.take max_).map (fun t => if e.forwards then x.stageRaw s i tag t else x.stageReduced s i tag tn t), ts.length - max_)

/-- The bytes of the input window (R360). -/
def Shopostra.windowBytes (x : Shopostra) (s : Nat) (ins : List (Nat × List StagedInterval × Nat)) : List Nat :=
  let of := fun i => lookupD ([], 0) ins i
  let bound := x.boundInputs s
  let flag := fun i => b2n (decide ((of i).2 ≠ 0)) + 2 * b2n ((of i).1.any (fun v => decide (v.stamp / 2 ^ 46 % 4 = 3)))
  bytesLE 4 (x.c.reg (0x6100 + s) 0x0D) ++ [(bound.map (fun i => 2 ^ i)).sum, 0, 0, 0] ++
    (List.range 8).map (fun i => (of i).1.length) ++ (List.range 8).map flag ++
    (List.range 8).flatMap (fun i => bytesLE 4 (if i ∈ bound then x.areaOff s i else 0)) ++ List.replicate 8 0 ++
    (List.range 8).flatMap (fun i =>
      if i ∈ bound then
        let n := x.intervalBytes s i (x.entry (x.inputTag s i))
        let full := (of i).1.flatMap (fun v => (v.image ++ List.replicate n 0).take n)
        (full ++ List.replicate (x.areaBytes s i) 0).take (x.areaBytes s i)
      else [])

/-! ## Runs (R352, R355, R358) -/

/-- A duration in cycles of the reduction-and-tile island, 1.6 GHz. -/
def tanCycles (n : Nat) : Ticks := n * (5 * 2 ^ 29)

/-- Whether an input of a slot may still stage intervals at board cycle T. -/
def Shopostra.inputOwes (x : Shopostra) (tag : Nat) (tn : Ticks) : Bool :=
  let e := x.entry tag
  match x.c.stopOf e.session with
  | none => true
  | some stop =>
    let last := gridFloor e.interval (stop - 1)
    x.intervalOf tag last && decide (tn ≤ x.stageAt tag last)

/-- Whether a slot runs in board cycle T (R358). -/
def Shopostra.slotRuns (x : Shopostra) (s : Nat) (tn : Ticks) : Bool :=
  let ins := x.boundInputs s
  decide (3 ≤ x.slotState s) &&
    (match x.c.actOf (x.c.reg (0x6100 + s) 0x0C) with | some a => decide (a ≤ tn) | none => false) &&
    (decide (x.slotState s = 3) || ins.any (fun i => x.inputOwes (x.inputTag s i) tn))

/-- The 32-byte header of a run's output (R362). -/
def Shopostra.outputHead (x : Shopostra) (s flags lines : Nat) (tn : Ticks) : List Nat :=
  let i := 0x6100 + s
  [0x20, 1, flags, s] ++ bytesLE 4 (x.c.reg i 0x0C) ++ bytesLE 6 (x.c.stamp tn) ++ bytesLE 2 lines ++ bytesLE 4 (x.c.reg i 0x0D) ++
    bytesLE 4 (x.c.reg i 2) ++ [x.c.reg i 4] ++ List.replicate 7 0

/-- A run that does not fit is skipped (R369). -/
def Shopostra.skipRun (x : Shopostra) (s : Nat) (tn : Ticks) : Shopostra :=
  let x1 := x.slotFault s 2
  ((x1.emit 1 (x1.inputTag s 0) false tn (x1.outputHead s 1 0 tn)).onC (fun c => ((c.bump 0x6004 3).nondet 7).reportUnstated s))

/-- RUN_SEQ of the run that begins: 0 for the first since ACTIVE (R362). -/
def Shopostra.nextRun (x : Shopostra) (s : Nat) : Shopostra :=
  let q := x.slot s
  (x.onC (fun c => c.setReg (0x6100 + s) 0x0D (q.runs % 2 ^ 32))).setSlot s { q with runs := q.runs + 1 }

/-- One phase on every logical tile of a slot: XGET sees the lines as they stood when it began (R356). -/
def runSlotPhase (p : Program) (k : Nat) (tiles : List Tile) : List Tile :=
  let t0 := tiles.map (fun t => { t with exchOld := t.exch })
  let env : TileEnv := { footprint := p.footprint, exch := t0.map (fun t => t.exchOld) }
  t0.map (fun t => t.runPhase env p.code k (nth 0 p.costs k))

/-- A run of a library program on its one tile. -/
def Shopostra.libraryRun (x : Shopostra) (s : Nat) (p : Program) (t : Tile) : Tile :=
  let ins := (x.slot s).staged
  let at_ := fun i => lookupD [] ins i
  let w := fun sub => x.c.reg (0x6100 + s) sub
  let o := runLibrary p.rom
    { in0 := at_ 0, in1 := at_ 1, lattice := x.latticeElems s 0 (x.entry (x.inputTag s 0)),
      word := [w 0x0A % 2 ^ 32, w 0x0A / 2 ^ 32, w 0x0B % 2 ^ 32, w 0x0B / 2 ^ 32], data := p.data } t.series
  { t with out := o.lines, notices := o.notices, series := o.series.foldl (fun a e => putKey a e.1 e.2) t.series }

/-- Phase k of a slot's run. -/
def Shopostra.runPhase (x : Shopostra) (s : Nat) : Shopostra :=
  let q := x.slot s
  match q.prog with
  | none => x
  | some p =>
    if !q.running || decide (p.phases ≤ q.done) then x
    else
      let tiles := if p.rom ≠ 0 then q.tiles.map (x.libraryRun s p) else runSlotPhase p q.done q.tiles
      x.setSlot s { q with tiles := tiles, done := q.done + 1 }

/-- A slot begins its run: windows written, registers cleared, special registers set, phase 0. -/
def Shopostra.beginSlot (x : Shopostra) (tn : Ticks) (s : Nat) : Shopostra :=
  let x0 := x.nextRun s
  let q := x0.slot s
  match q.prog with
  | none => x0
  | some p =>
    let ins := (x0.boundInputs s).map (fun i => (i, x0.stageInput s i tn))
    let drops := (ins.map (fun e => e.2.2)).sum
    let missing := (ins.map (fun e => (e.2.1.filter (fun v => bitOf v.flags 2)).length)).sum
    let w := (x0.windowBytes s ins).take p.windowLen
    let w1 := w ++ List.replicate (p.windowLen - w.length) 0
    let i := 0x6100 + s
    let word := fun sub k => x0.c.reg i sub / 2 ^ (32 * k) % 2 ^ 32
    let special := fun l => [x0.c.reg i 0x0D, cycleNo tn, l, p.tiles, word 0x0A 0, word 0x0A 1, word 0x0B 0, word 0x0B 1]
    let tiles := (q.tiles.zip (List.range q.tiles.length)).map (fun e =>
      ({ e.1 with region := memWriteN e.1.region 0 w1 }).beginRun (special e.2))
    let q1 : TanSlot := { q with
      tiles := tiles, running := true, done := 0, runAt := tn + usT 4 + tanCycles (x0.c.reg i 8),
      staged := ins.map (fun e => (e.1, e.2.1)), tileFault := false, stageDrop := decide (drops ≠ 0),
      class3 := ins.any (fun e => e.2.1.any (fun v => decide (v.stamp / 2 ^ 46 % 4 = 3))) }
    let c1 := (List.range missing).foldl (fun c _ => c.nondet 5) (x0.c.addReg 0x6004 1 drops)
    ({ x0 with c := c1 }.setSlot s q1).runPhase s

/-- T_n + 4 µs (R359): every due slot begins, or is skipped; what was staged, and raw inputs whose staging has begun, are no
longer held. -/
def Shopostra.runStart (x : Shopostra) : Shopostra :=
  let tn := cycleStart x.c.now
  let due := x.busySlots.filter (fun s => x.slotRuns s tn)
  let x1 := due.foldl (fun (a : Shopostra) s =>
    if (a.slot s).skipped then (a.nextRun s).skipRun s tn else a.beginSlot tn s) (x.onC (fun c => c.arrive (tn + usT 4)))
  { x1 with red := { x1.red with outputs := x1.red.outputs.filter (fun o => decide (x1.c.stopped ∨ tn < x1.stageAt o.tag o.instant)) },
            tan := { x1.tan with raws := x1.tan.raws.filter (fun w => decide (x1.c.stopped ∨ tn < x1.stageAt w.tag w.instant)) } }

/-- Whether slots run in a board cycle: none in one that begins after T_s, until one that begins after T_r (R477, R479). -/
def Common.slotsRun (c : Common kd) (tn : Ticks) : Bool :=
  match c.flag.span with
  | some (a, none) => decide (tn ≤ a)
  | some (a, some b) => decide (tn ≤ a ∨ b < tn)
  | none => true

/-- TANGENT_RUN_START (R359). -/
def execTangentRunStart (s : State) : Res :=
  onX (fun x => if x.c.slotsRun (cycleStart x.c.now) then x.runStart else x) s

/-- TANGENT_PHASE_START (R355): the next phase of a slot's run. -/
def execTangentPhaseStart (slot : Nat) (s : State) : Res := onX (fun x => x.runPhase slot) s

/-! ## Raw inputs (R361) -/

/-- A raw input of an entry with FORWARD and TANGENT: held for staging, or discarded when its staging has begun. -/
def Shopostra.rawInput (x : Shopostra) (tag source : Nat) (msg : List Nat) : Shopostra :=
  let e := x.entry tag
  if msg.length < 14 then x
  else
    let s := x.c.extend (leAt msg 8 6)
    let t := gridFloor e.interval s
    if x.c.frozenAt t then x.onC (fun c => c.bump 0x3405 6)
    else if x.stageAt tag t ≤ x.c.now then x.onC (fun c => (c.bump 0x6004 2).nondet 4)
    else x.onTan (fun q => { q with raws := q.raws ++
      [{ tag := tag, instant := t, source := source, cls := leAt msg 8 6 / 2 ^ 46 % 4, message := msg }] })

/-! ## Faults and tiles in service (R369, R371) -/

/-- Elements whose state changes at the next board-cycle start: tiles, and cells from number 64 on. -/
def Shopostra.changeTile (x : Shopostra) (tile state : Nat) : Shopostra :=
  x.onTan (fun q => { q with changed := putKey q.changed tile state })

/-- A fault of a physical tile; a tile that is fused off has none. -/
def Shopostra.tileFault (x : Shopostra) (tile : Nat) : Shopostra :=
  if x.c.reg 0x6001 (tile + 1) = 3 then x else
  let hit := x.busySlots.filter (fun s => (x.logicalTiles s).any (fun l => decide (x.c.physTile l = tile)))
  let x1 := hit.foldl (fun (a : Shopostra) s =>
    if (a.slot s).running then (a.setSlot s { a.slot s with tileFault := true }).slotFault s 1 else a) x
  (x1.changeTile tile 2).onC (fun c => ((c.bump 0x6004 5).reportUnstated tile).onBist (fun b => { b with faults := b.faults ++ [(tile, c.now)] }))

/-- TILE_FAULT (R371): a tile, or the quadrant that holds it. -/
def execTileFault (tile : Nat) (quadrant : Bool) (s : State) : Res :=
  onX (fun x => if quadrant then (List.range 12).foldl (fun a i => a.tileFault (tile % 48 / 12 * 12 + i)) x
    else x.tileFault (tile % 48)) s

/-- At a board-cycle start the changes take effect: tiles mapped out by a fault leave their logical tiles to be loaded anew,
and mapping and schedule are recomputed. -/
def Shopostra.remap (x : Shopostra) : Shopostra :=
  if x.tan.changed = [] then x
  else
    let lost := (x.tan.changed.filter (fun e => decide (e.2 = 2 ∧ e.1 < 64))).map Prod.fst
    let x1 := x.busySlots.foldl (fun (a : Shopostra) s =>
      let ls := x.logicalTiles s
      let gone := (List.range ls.length).filter (fun i => decide (x.c.physTile (nth 0 ls i) ∈ lost))
      match (a.slot s).prog with
      | none => a
      | some p =>
        if gone = [] then a
        else
          let q := a.slot s
          let fresh := fun i => { tileNew with region := p.region (a.c.reg 0x6020 (s + 1)) i }
          (a.setSlot s { q with
            tiles := (q.tiles.zip (List.range q.tiles.length)).map (fun e => if e.2 ∈ gone then fresh e.2 else e.1),
            restarted := true }).slotFault s 3) x
    let c := x.tan.changed.foldl (fun c e => if e.1 < 64 then c.setReg 0x6001 (e.1 + 1) e.2
      else (c.setReg 0x5001 (e.1 - 63) e.2).countCells) x1.c
    ({ x1 with c := c }.onTan (fun q => { q with changed := [] })).reschedule

end Sys2Proof.Machine
end

