-- ==== Sys2Proof/Machine/Signature.lean ====
section
/-! DEFINITION. The signature unit, the error intake and the health intake of a Vangeg (12_silent_errors.md): step
signatures, round inputs, audits, repeats, verdicts and taint at the die. -/

namespace Sys2Proof.Machine

variable {kd : Part}

/-- A change of the signature unit. -/
def Vangeg.onSig (v : Vangeg) (f : SigUnit → SigUnit) : Vangeg := { v with sig := f v.sig }

/-! ## CRC-64 (R393) -/

/-- One bit, most significant first. -/
def crc64Bit (c : Nat) : Nat :=
  if 2 ^ 63 ≤ c then Nat.xor (2 * c % 2 ^ 64) 0x42F0E1EBA9EA3693 else 2 * c % 2 ^ 64

/-- One byte. -/
def crc64Byte (c b : Nat) : Nat :=
  crc64Bit (crc64Bit (crc64Bit (crc64Bit (crc64Bit (crc64Bit (crc64Bit (crc64Bit (Nat.xor c (b % 256 * 2 ^ 56)))))))))

/-- Bytes folded into the register. -/
def crc64Fold (c : Nat) (l : List Nat) : Nat := l.foldl crc64Byte c

/-- The signature of a step: the register folded with the 8-byte count, inverted. -/
def crc64End (c count : Nat) : Nat := Nat.xor (crc64Fold c (bytesLE 8 count)) (2 ^ 64 - 1)

/-- The register's initial value. -/
def crc64Init : Nat := 2 ^ 64 - 1

/-! ## Epochs, jobs and groups -/

/-- Signed 32-bit difference a - b (R128, R396). -/
def epochDiff (a b : Nat) : Int := ofTwos 32 (a % 2 ^ 32 + 2 ^ 32 - b % 2 ^ 32)

/-- The later of two epochs. -/
def epochMax (a b : Nat) : Nat := if 0 < epochDiff b a then b else a

/-- The earlier of two epochs. -/
def epochMin (a b : Nat) : Nat := if epochDiff b a < 0 then b else a

/-- A unit before its first beat. -/
def unitNew : UnitSig :=
  { crc := crc64Init, bytes := 0, job := none, first := 0, lastEnd := none, recent := [], places := [], parityBad := false,
    audited := none, sincePass := 0 }

/-- A unit. -/
def Vangeg.unit (v : Vangeg) (u : Nat) : UnitSig := lookupD unitNew v.sig.units u

/-- Writes a unit. -/
def Vangeg.setUnit (v : Vangeg) (u : Nat) (q : UnitSig) : Vangeg := v.onSig (fun s => { s with units := putKey s.units u q })

/-- A field of SIG_GROUP: 1 MODE, 2 job, 5 K, 6 QUORUM, 7 WAIT, 8 AUDIT_PERIOD, 9 AUDIT_SEED, 10 AUDIT_HOLD. -/
def Common.group (c : Common kd) (g f : Nat) : Nat := c.reg (0x3610 + g) f

/-- The units of a group, in group order. -/
def Common.groupUnits (c : Common kd) (g : Nat) : List Nat :=
  (List.range (min 16 (c.group g 5))).map (fun k => c.group g (3 + k / 8) / 2 ^ (8 * (k % 8)) % 256)

/-- Enabled groups. -/
def Common.enabledGroups (c : Common kd) : List Nat := (List.range 16).filter (fun g => decide (c.group g 1 ≠ 0))

/-- Enabled groups that list a unit. -/
def Common.groupsOf (c : Common kd) (u : Nat) : List Nat := c.enabledGroups.filter (fun g => decide (u ∈ c.groupUnits g))

/-- The SIG_JOB entry of a job. -/
def Common.jobEntry (c : Common kd) (job : Nat) : Option Nat :=
  (List.range 16).find? (fun j => decide (c.reg (0x3630 + j) 1 = job ∧ job ≠ 0xFFFF))

/-- SIG_JOB after a group write: an entry holds the tag of its group when that is the first enabled group to name it. -/
def Vangeg.refreshJobs (v : Vangeg) : Vangeg :=
  (List.range 16).foldl (fun (a : Vangeg) g =>
    let job := a.c.group g 2
    let mine := decide (a.c.group g 1 ≠ 0) && !((List.range g).any (fun h => decide (a.c.group h 1 ≠ 0 ∧ a.c.group h 2 = job)))
    let tag := if mine then job else 0xFFFF
    if a.c.reg (0x3630 + g) 1 = tag then a
    else
      (a.onC (fun c => ((((c.setReg (0x3630 + g) 1 tag).setReg (0x3630 + g) 3 0).setReg (0x3630 + g) 4 0).setReg (0x3630 + g) 5 0).setReg
        (0x3630 + g) 6 0xFFFFFFFF)).onSig (fun s => { s with ranges := dropKey s.ranges g })) v

/-! ## Reports of a unit -/

/-- Thermal reading, voltage reading and condition bucket of a unit; the bucket of an unmapped unit is 0xFFFF (R421). -/
def Vangeg.unitPlace (v : Vangeg) (u : Nat) : Nat × Nat × Nat :=
  let m := v.c.unitMap u
  if m = 0xFFFFFFFF then (0, 0, 0xFFFF)
  else
    let b := bits m 21 16
    let prev := lookupD (0, 0) v.sig.slotsPrev b
    let last := lookupD (0, 0) v.sig.slotsLast b
    let all := last.2 - prev.2
    let l := if v.c.slotWidth b = 0 ∨ all = 0 then 0 else min 7 (8 * (last.1 - prev.1) / all)
    let tv := v.c.bands m
    (v.c.reg 0x1110 (bits m 13 8 + 1), v.c.reg 0x1111 (bits m 3 0 + 1), 256 * l + 16 * tv.1 + tv.2)

/-- The readings and the bucket at the unit's END of a step, or now for a step that is not retained (R421). -/
def Vangeg.placeAt (v : Vangeg) (u e : Nat) : Nat × Nat × Nat :=
  match (v.unit u).places.find? (fun p => decide (p.1 = e)) with
  | some p => p.2
  | none => v.unitPlace u

/-- A report about a unit (Table 12-9); of a step's fault, with the readings at the step's END. -/
def Vangeg.unitReport (v : Vangeg) (sev code u job epoch detail : Nat) : Vangeg :=
  let p := if job = 0xFFFF then v.unitPlace u else v.placeAt u epoch
  v.onC (fun c => c.report { sev := sev, code := code, temp := p.1, volt := p.2.1, unit := u, job := job, bucket := p.2.2,
                             epoch := epoch, detail := detail })

/-- The slot counts of every block at a board-cycle start (R421). -/
def Vangeg.takeSlots (v : Vangeg) : Vangeg :=
  let now := (List.range 64).map (fun b =>
    let k := fun i => v.c.reg (0x2A00 + b) i
    (b, k 1, k 1 + k 2 + k 3 + k 4))
  v.onSig (fun s => { s with slotsPrev := s.slotsLast, slotsLast := now })

/-! ## Round inputs (R397) -/

/-- Sends the round input of a round (Table 12-1), and starts the repeats that its own faults call for (R420). -/
def Vangeg.roundBytes (v : Vangeg) (r : DieRound) : List Nat × Nat :=
  let c := v.c
  let g := r.group
  let us := c.groupUnits g
  let mode := c.group g 1
  let flag := fun (bit : Nat) => v.sig.flagged.any (fun f => decide (f.unit ∈ us ∧ f.epoch = some r.epoch ∧ f.bit = bit))
  let here := fun (k : Nat) => r.sigs.any (fun q => decide (q.1 = k)) && !decide (k ∈ r.absent)
  let absent := (((List.range us.length).filter (fun k => !here k)).map (fun k => 2 ^ k)).sum
  let aud := us.map (fun u => (v.unit u).audited)
  let valid := decide (mode = 2) && aud.all Option.isSome
  let audited := match aud.filterMap id with | [] => 0 | a :: l => l.foldl epochMin a
  let fail := v.sig.auditFail.find? (fun q => decide (q.1 = g))
  let flags := b2n (flag 0) + 2 * b2n (flag 1) + 4 * b2n (decide (absent ≠ 0)) + 8 * b2n fail.isSome + 16 * b2n (flag 4) +
    32 * b2n (decide (r.stamp / 2 ^ 46 = 3)) + 64 * b2n valid
  let sigs := if mode = 1 then (List.range us.length).flatMap (fun k =>
      bytesLE 8 (if here k then lookupD 0 r.sigs k else 0)) else []
  ([0x30, 1, g, flags] ++ bytesLE 4 r.epoch ++ bytesLE 6 r.stamp ++ bytesLE 2 (c.group g 2) ++ [us.length, c.group g 7] ++
    bytesLE 2 absent ++ bytesLE 4 (c.group g 6) ++ bytesLE 4 (if valid then audited else 0) ++
    bytesLE 4 ((fail.map Prod.snd).getD 0) ++ sigs, flags)

/-- Asks the host to repeat a step on its own unit (R420); at most 16 repeats are held. -/
def Vangeg.askRepeat (v : Vangeg) (u epoch group trig ref bucket : Nat) : Vangeg :=
  let held := (v.sig.replays.filter (fun q => decide (q.trig ≠ 0))).length
  if v.sig.replays.any (fun q => decide (q.trig ≠ 0 ∧ q.unit = u ∧ q.epoch = epoch)) then v
  else if 16 ≤ held then v.unitReport 1 0x0C09 u (v.c.group group 2) epoch 0
  else
    let q : Replay := { unit := u, spare := u, epoch := epoch, group := group, began := v.c.now, crc := crc64Init, bytes := 0,
                        first := none, trig := trig, ref := ref, residue := false, bucket := bucket,
                        prior := v.c.reg (0x3622 + u / 128) (u % 128 + 1) }
    (v.onSig (fun s => { s with replays := s.replays ++ [q] })).onC (fun c =>
      ((c.bump 0x3604 4).setReg (0x3622 + u / 128) (u % 128 + 1) 1).send (.message .nowhere "AUD_REQ" [u, u, epoch]))

/-- Sends a round input under the KIND 4 binding. -/
def Vangeg.sendRound (v : Vangeg) (r : DieRound) : Vangeg :=
  let q := v.roundBytes r
  let us := v.c.groupUnits r.group
  let hit := fun (bit : Nat) => us.filter (fun u => v.sig.flagged.any (fun f => decide (f.unit = u ∧ f.epoch = some r.epoch ∧ f.bit = bit)))
  let residue := hit 0
  let bucket := fun (u : Nat) => match v.sig.flagged.find? (fun f => decide (f.unit = u ∧ f.epoch = some r.epoch ∧ f.bit = 0)) with
    | some f => f.bucket
    | none => 0xFFFF
  let v1 := match v.c.kindBinding 4 with
    | none => v.onC (fun c => c.countLoss 3)
    | some b => (v.sendData 3 4 b.1 none q.1).1
  let v2 := v1.onSig (fun s => { s with
    rounds := s.rounds.filter (fun d => !decide (d.group = r.group ∧ d.epoch = r.epoch)),
    sent := putKey s.sent r.group r.epoch,
    sentFlags := ((r.group, r.epoch, q.2) :: s.sentFlags).take 1024,
    flagged := s.flagged.filter (fun f => !decide (f.unit ∈ us ∧ f.epoch = some r.epoch)),
    auditFail := dropKey s.auditFail r.group })
  residue.foldl (fun a u => a.askRepeat u r.epoch r.group 3 0 (bucket u)) v2

/-- Whether the group has sent the round input of an epoch, or of a later one. -/
def Vangeg.roundSent (v : Vangeg) (g e : Nat) : Bool :=
  match v.sig.sent.find? (fun q => decide (q.1 = g)) with
  | none => false
  | some q => decide (epochDiff e q.2 ≤ 0)

/-- A unit of a group has ended a step: the round opens, takes its signature, and is sent when every unit has ended. -/
def Vangeg.foldEnd (v : Vangeg) (u e sig : Nat) (bad : Bool) (g : Nat) : Vangeg :=
  if v.roundSent g e then v
  else
    let us := v.c.groupUnits g
    let k := (us.findIdx? (fun x => decide (x = u))).getD 0
    let r0 := (v.sig.rounds.find? (fun d => decide (d.group = g ∧ d.epoch = e))).getD
      { group := g, epoch := e, first := v.c.now, stamp := v.c.stamp v.c.now, sigs := [], absent := [] }
    let r := { r0 with sigs := putKey r0.sigs k sig, absent := if bad then r0.absent ++ [k] else r0.absent }
    let v1 := v.onSig (fun s => { s with
      rounds := s.rounds.filter (fun d => !decide (d.group = g ∧ d.epoch = e)) ++ [r] })
    if us.length ≤ r.sigs.length then v1.sendRound r else v1

/-- ROUND_INPUT_WAIT_TIMEOUT (R397): WAIT after the first END, the round input is sent with absent units marked. -/
def execRoundInputWaitTimeout (group epoch : Nat) (s : State) : Res :=
  onV (fun v => match v.sig.rounds.find? (fun d => decide (d.group = group ∧ d.epoch = epoch)) with
    | none => v
    | some r => (v.onC (fun c => c.arrive (r.first + usT (c.group group 7)))).sendRound r) s

/-! ## Audits (R413 to R415) -/

/-- Named spare units. -/
def Common.spares (c : Common kd) : List Nat := ((List.range 8).map (fun i => c.reg 0x3602 (i + 1))).filter (fun u => decide (u ≠ 0xFF))

/-- Spares with no replay. -/
def Vangeg.freeSpares (v : Vangeg) : List Nat :=
  v.c.spares.filter (fun u => !v.sig.replays.any (fun q => decide (q.trig = 0 ∧ q.spare = u)))

/-- Issues an AUD_REQ. -/
def Vangeg.startAudit (v : Vangeg) (u spare epoch group : Nat) (first : Option (Nat × Nat)) : Vangeg :=
  let q : Replay := { unit := u, spare := spare, epoch := epoch, group := group, began := v.c.now, crc := crc64Init, bytes := 0,
                      first := first, trig := 0, ref := 0, residue := false, bucket := 0xFFFF, prior := 0 }
  (v.onSig (fun s => { s with replays := s.replays ++ [q] })).onC (fun c =>
    (c.baseline 40).send (.message .nowhere "AUD_REQ" [u, spare, epoch]))

/-- Serves due units with free spares, the oldest last audit first; a unit with a repeat pending waits. -/
def Vangeg.serveAudits : Nat → Vangeg → Vangeg
  | 0, v => v
  | n + 1, v =>
    let ready := v.sig.due.filter (fun d => !v.sig.replays.any (fun q => decide (q.unit = d.1)))
    match v.freeSpares, ready with
    | sp :: _, d0 :: l =>
      let d := l.foldl (fun m k => if (v.unit m.1).sincePass < (v.unit k.1).sincePass then k else m) d0
      Vangeg.serveAudits n ((v.onSig (fun s => { s with due := s.due.filter (fun k => decide (k.1 ≠ d.1)) })).startAudit d.1 sp d.2.1 d.2.2 none)
    | _, _ => v

/-- A unit becomes due, or stays due. -/
def Vangeg.makeDue (v : Vangeg) (u e g : Nat) : Vangeg :=
  v.onSig (fun s => { s with due := s.due.filter (fun k => decide (k.1 ≠ u)) ++ [(u, e, g)] })

/-- Audits due at a step's END, and units overdue (R413). -/
def Vangeg.auditEnd (v : Vangeg) (u e g : Nat) : Vangeg :=
  if v.c.group g 1 ≠ 2 then v
  else
    let k := ((v.c.groupUnits g).findIdx? (fun x => decide (x = u))).getD 0
    let period := v.c.group g 8
    let v1 := if (e + k + v.c.group g 9) % period = 0 then v.makeDue u e g else v
    if (v1.unit u).sincePass = period + 1 then v1.unitReport 1 0x0C05 u (v.c.group g 2) e 1 else v1

/-! ## Steps (R393, R396) -/

/-- SIG_TAP_BEAT (R393): a beat without END, its enabled bytes in increasing lane. -/
def execSigTapBeat (unit : Nat) (audit : Bool) (bytes : List Nat) (s : State) : Res :=
  onV (fun v =>
    if audit then v.onSig (fun q => { q with replays := q.replays.map (fun r =>
      if r.unit = unit then { r with crc := crc64Fold r.crc bytes, bytes := r.bytes + bytes.length } else r) })
    else
      let q := v.unit unit
      v.setUnit unit { q with crc := crc64Fold q.crc bytes, bytes := q.bytes + bytes.length }) s

/-- Whether an END epoch keeps the order of R396. -/
def Vangeg.inOrder (v : Vangeg) (q : UnitSig) (job e : Nat) : Bool :=
  let resumed := match v.c.jobEntry job with
    | none => false
    | some j => (lookupD [] v.sig.ranges j).any (fun r => decide ((r.2 + 1) % 2 ^ 32 = e))
  if q.job ≠ some job then decide (0 < epochDiff e (v.c.pin .cleanEpoch)) || decide (v.c.reg 0x3601 0 ≠ job)
  else match q.lastEnd with
    | none => true
    | some l => decide ((l + 1) % 2 ^ 32 = e) || resumed

/-- An END beat: the step's signature is closed and kept, and goes into the rounds of the groups that list the unit. -/
def Vangeg.stepEnd (unit job e : Nat) (bytes : List Nat) (v : Vangeg) : Vangeg :=
  let v := v.onC (fun c => c.baseline 39)
  let q := v.unit unit
  let n := q.bytes + bytes.length
  let sig := crc64End (crc64Fold q.crc bytes) n
  let ordered := v.inOrder q job e
  let q1 : UnitSig := { q with
    crc := crc64Init, bytes := 0, job := some job, first := if q.job = some job then q.first else e, lastEnd := some e,
    recent := ((e, sig) :: q.recent).take 64, places := ((e, v.unitPlace unit) :: q.places).take 64, parityBad := false, sincePass := q.sincePass + 1,
    audited := if q.job = some job then q.audited else none }
  let gs := v.c.groupsOf unit
  let v1 := (v.setUnit unit q1).onSig (fun s => { s with
    flagged := (s.flagged.map (fun f => if f.unit = unit ∧ f.epoch = none then { f with epoch := some e } else f)) ++
      (if ordered then [] else [Flagged.mk unit (some e) 4 (v.unitPlace unit).2.2]) })
  let fresh := !v.sig.units.any (fun u => decide (u.2.job = some job) && u.2.lastEnd.isSome)
  let v2 := gs.foldl (fun (a : Vangeg) g => match a.c.jobEntry (a.c.group g 2) with
    | none => a
    | some j => a.onC (fun c => c.setReg (0x3630 + j) 4 (if fresh then e else epochMax (c.reg (0x3630 + j) 4) e))) v1
  let v3 := gs.foldl (fun (a : Vangeg) g => (a.foldEnd unit e sig q.parityBad g).auditEnd unit e g) v2
  Vangeg.serveAudits 8 v3

/-- SIG_STEP_END (R393). -/
def execSigStepEnd (unit job epoch : Nat) (bytes : List Nat) (s : State) : Res := onV (Vangeg.stepEnd unit job epoch bytes) s

/-- Uncorrectable words in what is kept of an epoch: the unit's retained signature is unusable, so an audit of the step is
unresolved, and the peer log counts as OVERFLOW (R429). -/
def Vangeg.loseKept (unit : Nat) (v : Vangeg) (e : Nat) : Vangeg :=
  let u := v.unit unit
  (v.setUnit unit { u with recent := u.recent.filter (fun r => decide (r.1 ≠ e)) }).onSig (fun s => { s with
    peers := (((List.range 16).map (fun j => v.c.reg (0x3630 + j) 1)).filter (fun j => decide (j ≠ 0xFFFF))).foldl (fun a j =>
      let l := lookupD [] a j
      let old := (l.find? (fun p => decide (p.epoch = e))).getD { epoch := e, receivers := [], overflow := false }
      putKey a j ((({ old with overflow := true } : PeerEpoch) :: l.filter (fun p => decide (p.epoch ≠ e))).take 64)) s.peers })

/-- SIG_ACCUMULATOR_PARITY (R429): a parity error in the unit's accumulator, or, with epochs in `lost`, uncorrectable words
in the signatures and the peer log kept of those epochs. -/
def execSigAccumulatorParity (unit : Nat) (lost : List Nat) (s : State) : Res :=
  onV (fun v =>
    match lost with
    | [] => (v.setUnit unit { v.unit unit with parityBad := true }).unitReport 2 0x0C0B unit 0xFFFF 0 unit
    | _ => lost.foldl (Vangeg.loseKept unit) v) s

/-- Drops a replay. -/
def Vangeg.dropReplay (v : Vangeg) (q : Replay) : Vangeg :=
  v.onSig (fun s => { s with replays := s.replays.filter (fun r => !decide (r.unit = q.unit ∧ r.trig = q.trig ∧ r.epoch = q.epoch)) })

/-- A passing audit. -/
def Vangeg.auditPass (v : Vangeg) (q : Replay) : Vangeg :=
  let u := v.unit q.unit
  (v.setUnit q.unit { u with audited := some (match u.audited with | none => q.epoch | some a => epochMax a q.epoch), sincePass := 0 }).onC
    (fun c => c.bump 0x3604 1)

/-- A spare whose replay the second replay contradicts: reported and dropped (R415). -/
def Vangeg.dropSpare (v : Vangeg) (spare : Nat) : Vangeg :=
  let v1 := v.unitReport 1 0x0C04 spare 0xFFFF 0 spare
  v1.onC (fun c => (List.range 8).foldl (fun a i => if a.reg 0x3602 (i + 1) = spare then a.setReg 0x3602 (i + 1) 0xFF else a) c)

/-- The end of an audit replay: compared with the retained signature (R415). -/
def Vangeg.auditReplay (unit : Nat) (bytes : List Nat) (v : Vangeg) : Vangeg :=
  match v.sig.replays.find? (fun r => decide (r.unit = unit ∧ r.trig = 0)) with
  | none => v
  | some q =>
    let sig := crc64End (crc64Fold q.crc bytes) (q.bytes + bytes.length)
    let job := v.c.group q.group 2
    let v0 := (v.dropReplay q).onC (fun c => c.baseline 41)
    let orig := ((v.unit unit).recent.find? (fun r => decide (r.1 = q.epoch))).map Prod.snd
    let v1 := match orig, q.first with
      | none, _ => (v0.unitReport 1 0x0C05 unit job q.epoch 3).makeDue unit q.epoch q.group
      | some o, none =>
        (if sig = o then v0.auditPass q
         else v0.startAudit unit (((v0.freeSpares.filter (fun s => decide (s ≠ q.spare))).headD q.spare)) q.epoch q.group (some (sig, q.spare)))
      | some o, some f =>
        (if sig = f.1 then
           (let from_ := match (v.unit unit).audited with | some a => (a + 1) % 2 ^ 32 | none => (v.unit unit).first
            let low := match v0.sig.auditFail.find? (fun k => decide (k.1 = q.group)) with
              | some k => epochMin k.2 from_
              | none => from_
            let a := ((v0.onC (fun c => c.bump 0x3604 2)).onSig (fun s => { s with auditFail := putKey s.auditFail q.group low })).unitReport
              2 0x0C03 unit job q.epoch from_
            a.askRepeat unit q.epoch q.group 2 sig (a.placeAt unit q.epoch).2.2)
         else if sig = o then (v0.dropSpare f.2).makeDue unit q.epoch q.group
         else (v0.unitReport 1 0x0C05 unit job q.epoch 3).makeDue unit q.epoch q.group)
    Vangeg.serveAudits 8 v1

/-- AUDIT_REPLAY_END (R415). -/
def execAuditReplayEnd (unit : Nat) (bytes : List Nat) (s : State) : Res := onV (Vangeg.auditReplay unit bytes) s

/-- AUDIT_DEADLINE (R415): the audit is counted as timed out, and the unit stays due. -/
def execAuditDeadline (unit : Nat) (s : State) : Res :=
  onV (fun v => match v.sig.replays.find? (fun r => decide (r.unit = unit ∧ r.trig = 0)) with
    | none => v
    | some q =>
      let v1 := (v.onC (fun c => (c.arrive (q.began + usT (c.reg 0x3603 1))).bump 0x3604 3)).dropReplay q
      Vangeg.serveAudits 8 ((v1.unitReport 1 0x0C05 unit (v.c.group q.group 2) q.epoch 2).makeDue unit q.epoch q.group)) s

/-! ## Repeats (R420 to R422) -/

/-- Writes SIG_UNIT_STATE. -/
def Vangeg.unitState (v : Vangeg) (u n : Nat) : Vangeg := v.onC (fun c => c.setReg (0x3622 + u / 128) (u % 128 + 1) n)

/-- The end of a repeat: TRANSIENT or PERMANENT; three TRANSIENT faults of one bucket within 24 h are CONDITIONAL. -/
def Vangeg.repeatEnd (unit : Nat) (bytes : List Nat) (v : Vangeg) : Vangeg :=
  match v.sig.replays.find? (fun r => decide (r.unit = unit ∧ r.trig ≠ 0)) with
  | none => v
  | some q =>
    let sig := crc64End (crc64Fold q.crc bytes) (q.bytes + bytes.length)
    let job := v.c.group q.group 2
    let pass := if q.trig = 3 then !q.residue else decide (sig = q.ref)
    let v0 := v.dropReplay q
    let rep := fun (a : Vangeg) (sev code detail : Nat) =>
      let p := a.placeAt unit q.epoch
      a.onC (fun c => c.report { sev := sev, code := code, temp := p.1, volt := p.2.1, unit := unit, job := job, bucket := q.bucket,
                                 epoch := q.epoch, detail := detail })
    if !pass then rep (v0.unitState unit 2) 3 0x0C07 0
    else
      let kept := v0.sig.transients.filter (fun t => decide (v0.c.now < t.2.2 + secT 86400)) ++ [(unit, q.bucket, v0.c.now)]
      let n := (kept.filter (fun t => decide (t.1 = unit ∧ t.2.1 = q.bucket))).length
      let v1 := v0.onSig (fun s => { s with transients := kept })
      rep (v1.unitState unit (if 3 ≤ n then 3 else q.prior)) 1 0x0C06 n

/-- REPEAT_COMPLETE (R420). -/
def execRepeatComplete (unit : Nat) (bytes : List Nat) (s : State) : Res :=
  onV (fun v => Vangeg.serveAudits 8 (v.repeatEnd unit bytes)) s

/-- REPEAT_DEADLINE (R420): the fault stays UNRESOLVED. -/
def execRepeatDeadline (unit : Nat) (s : State) : Res :=
  onV (fun v => match v.sig.replays.find? (fun r => decide (r.unit = unit ∧ r.trig ≠ 0)) with
    | none => v
    | some q =>
      let v1 := ((v.onC (fun c => c.arrive (q.began + msT (c.reg 0x3603 2)))).dropReplay q).unitState unit q.prior
      Vangeg.serveAudits 8 (v1.unitReport 1 0x0C09 unit (v.c.group q.group 2) q.epoch 0)) s

/-! ## Error intake (R411, R412, R424) -/

/-- A report accepted on the error intake. -/
def Vangeg.errReport (cls unit addr job : Nat) (v : Vangeg) : Vangeg :=
  if cls = 0 ∨ cls = 63 then v.onC (fun c => c.baseline 26)
  else
    let q := v.unit unit
    let v := v.onC (fun c => c.baseline (if cls ≤ 7 then 17 + cls else 25))
    let v1 := if cls = 4 ∨ cls = 5 then
        v.onSig (fun s => { s with
          flagged := s.flagged ++ [Flagged.mk unit (q.lastEnd.map (fun l => (l + 1) % 2 ^ 32)) (if cls = 5 then 0 else 1) (v.unitPlace unit).2.2],
          replays := s.replays.map (fun r => if cls = 5 ∧ r.unit = unit ∧ r.trig = 3 then { r with residue := true } else r) })
      else v
    let p := v1.unitPlace unit
    if cls = 1 then
      match v1.sig.coalesced.find? (fun k => decide (k.unit = unit)) with
      | some _ => v1.onSig (fun s => { s with coalesced := s.coalesced.map (fun k =>
          if k.unit = unit then { k with count := k.count + 1 } else k) })
      | none => v1.onSig (fun s => { s with coalesced := s.coalesced ++
          [{ unit := unit, stamp := v1.c.stamp v1.c.now, addr := addr, job := job, count := 1, place := p }] })
    else
      (v1.onC (fun c => c.report { sev := if cls = 2 ∨ cls = 4 ∨ cls = 5 then 2 else 1, code := 0x0C00, temp := p.1, volt := p.2.1,
                                   unit := unit, cls := cls, job := job, bucket := p.2.2,
                                   epoch := match q.lastEnd with | some l => (l + 1) % 2 ^ 32 | none => 0, addr := addr }))

/-- ERR_REPORT (R424): the host holds a report until ERR_READY accepts it (R115). -/
def execErrReport (cls unit addr job : Nat) (s : State) : Res :=
  onV (fun v => if v.c.pin .errReady = 1 then v.errReport (cls % 64) unit addr job else v) s

/-- At the end of a board cycle the coalesced reports are sent. -/
def Vangeg.sendCoalesced (v : Vangeg) : Vangeg :=
  let l := v.sig.coalesced
  l.foldl (fun (a : Vangeg) k =>
    let p := k.place
    a.onC (fun c => c.report { sev := 0, code := 0x0C00, stamp := some k.stamp, temp := p.1, volt := p.2.1, unit := k.unit, cls := 1,
                               job := k.job, bucket := p.2.2,
                               epoch := match (a.unit k.unit).lastEnd with | some e => (e + 1) % 2 ^ 32 | none => 0,
                               addr := k.addr, detail := k.count }))
    (v.onSig (fun s => { s with coalesced := [] }))

/-! ## Health intake (R423) -/

/-- HEALTH_SAMPLE (R423): the readings of 64 thermal sites in 1/16 °C and of 16 voltage sites in mV after
the fuse trims, to which the tray's calibration record adds its own (R548). -/
def execHealthSample (therm : List Int) (volt : List Nat) (s : State) : Res :=
  onV (fun v => v.onC (fun c =>
    let trim := fun (i : Nat) => match v.bnd.calRecord with
      | none => 0
      | some rec => let n := fromLE ((rec.drop (2 * i)).take 2); if n = 0x8000 then (0 : Int) else ofTwos 16 n
    let temps := (List.range 64).filterMap (fun i => (therm[i]?).map (fun t => (i + 1, ofTwos 16 (toTwos 16 (t + trim i)))))
    let volts := (List.range 16).filterMap (fun i => (volt[i]?).map (fun x => (i + 1, toTwos 16 ((x : Int) + trim (64 + i)))))
    let c1 := temps.foldl (fun a t => a.setRegI 16 0x1110 t.1 t.2) c
    let c2 := volts.foldl (fun a x => a.setReg 0x1111 x.1 x.2) c1
    let warm := temps.filter (fun t => decide (c.regI 16 0x1113 0 < t.2))
    let low := volts.filter (fun x => decide (x.2 + 50 < c.reg 0x1112 x.1))
    let c3 := warm.foldl (fun a _ => a.baseline 27) c2
    low.foldl (fun a _ => a.baseline 28) c3)) s

/-! ## CLEAN_EPOCH (R127, R405) -/

/-- Drives a value on CLEAN_EPOCH: the bus, then the toggle, held for 250 ns; a value that comes meanwhile waits. -/
def Vangeg.driveClean (v : Vangeg) (n : Nat) : Vangeg :=
  if epochDiff n (v.c.pin .cleanEpoch) ≤ 0 then v
  else match v.bnd.cleanHold with
    | some t =>
      if v.c.now < t then { v with bnd := { v.bnd with cleanNext := some n } } else go v n
    | none => go v n
where
  go (v : Vangeg) (n : Nat) : Vangeg :=
    { v.onC (fun c => (c.setPin .cleanEpoch n).setPin .cleanEpochTgl (1 - c.pin .cleanEpochTgl)) with
      bnd := { v.bnd with cleanHold := some (v.c.now + nsT 250), cleanNext := none } }

/-- CLEAN_EPOCH_HOLD_END (R405). -/
def execCleanEpochHoldEnd (s : State) : Res :=
  onV (fun v => match v.bnd.cleanHold with
    | none => v
    | some t =>
      let v1 := { v.onC (fun c => c.arrive t) with bnd := { v.bnd with cleanHold := none, cleanNext := none } }
      match v.bnd.cleanNext with
      | none => v1
      | some n => v1.driveClean n) s

/-- A write of SIG_CLEAN_JOB (R405). -/
def ruleCleanJob (n : Nat) (v : Vangeg) : Vangeg × Option Abort :=
  let old := v.c.reg 0x3601 0
  let v1 := v.onC (fun c => c.setReg 0x3601 0 n)
  if n = 0xFFFF ∨ n = old then (v1, none)
  else match v1.c.jobEntry n with
    | none => (v1, none)
    | some j => (v1.driveClean (v1.c.reg (0x3630 + j) 3), none)

/-- SIG_CLEAN_JOB_WRITE (R405). -/
def execSigCleanJobWrite (r : Req) (v : Nat) (s : State) : Res := onV (fun x => x.ruled r 0x3601 0 v (ruleCleanJob v)) s

/-! ## Verdicts at the die (R405, R416, R419) -/

/-- An interrupt message for a slice, charged to a class. -/
def Vangeg.interruptAs (v : Vangeg) (cls owner : Nat) : Vangeg :=
  if owner = 0xFF then v
  else match v.intrTarget owner with
    | none => v.onC (fun c => c.bump 0x3806 0)
    | some t => v.onC (fun c => (c.submit
        { serial := 0, cls := cls, slice := some owner, source := 98, port := 0, link := 0, hmw := 0, intr := 1, iso := 0,
          queue := none, isData := false, msgs := [], host := [intrWrite cls t] }).1)

/-- Units of a group whose retained signature of an epoch differs from the majority of their element. -/
def Vangeg.minority (v : Vangeg) (g e : Nat) (refs : List Nat) : List (Nat × Nat × Nat) :=
  if v.c.group g 1 ≠ 1 then []
  else ((v.c.groupUnits g).zip (List.range 16)).filterMap (fun q =>
    match (v.unit q.1).recent.find? (fun r => decide (r.1 = e)) with
    | none => none
    | some r => match refs[q.2]? with
      | none => none
      | some m => if m ≠ 0 ∧ r.2 ≠ m then some (q.1, q.2, m) else none)

/-- The die is in a bad set by its signatures: reported, and its units repeated, but for units whose repeat is pending. -/
def Vangeg.inMinority (v : Vangeg) (g e : Nat) (refs : List Nat) : Vangeg :=
  let l := (v.minority g e refs).filter (fun q =>
    !v.sig.replays.any (fun r => decide (r.trig ≠ 0 ∧ r.unit = q.1 ∧ r.epoch = e)))
  if l = [] then v
  else
    let v1 := v.unitReport 2 0x0C01 ((l.map Prod.fst).headD 0xFF) (v.c.group g 2) e ((l.map (fun q => 2 ^ q.2.1)).sum)
    l.foldl (fun a q => a.askRepeat q.1 e g 1 q.2.2 (a.placeAt q.1 e).2.2) v1

/-- A verdict record reaches the die. `refs` are the majority signatures of the elements (Table 12-8). -/
def Vangeg.verdict (b : List Nat) (refs : List Nat) (v : Vangeg) : Vangeg :=
  let kind := nth 0 b 1
  let e := leAt b 4 4
  let last := leAt b 8 4
  let job := leAt b 12 2
  match v.c.jobEntry job with
  | none => v
  | some j =>
    let i := 0x3630 + j
    if kind = 0 then
      (let v1 := v.onC (fun c => c.setReg i 3 (epochMax (c.reg i 3) e))
       if v.c.reg 0x3601 0 = job then v1.driveClean (v1.c.reg i 3) else v1)
    else if kind = 1 then
      (let v1 := (v.onC (fun c => c.setReg i 5 e)).interruptAs 1 (v.c.reg i 2)
       let listed := (List.range (nth 0 b 15)).any (fun k => decide (leAt b (36 + 4 * k) 4 = v.c.logical))
       if nth 0 b 2 = 4 ∧ listed then
         (v1.c.enabledGroups.filter (fun g => decide (v1.c.group g 2 = job))).foldl (fun a g => a.inMinority g e refs) v1
       else v1)
    else
      (v.onSig (fun s => { s with ranges := putKey s.ranges j (((e, last) :: lookupD [] s.ranges j).take 8) })).interruptAs 1 (v.c.reg i 2)

/-- A taint notice (R419). -/
def execTaintNoticeRx (job epoch : Nat) (s : State) : Res :=
  onV (fun v => match v.c.jobEntry job with
    | none => v
    | some j => (v.onC (fun c => c.setReg (0x3630 + j) 6 epoch)).interruptAs 1 (v.c.reg (0x3630 + j) 2)) s

/-- MINORITY_QUERY_RX (R416): the die answers when its signature differs, or a fault flag stood in its own round input. -/
def execMinorityQueryRx (job group epoch : Nat) (refs : List Nat) (s : State) : Res :=
  onV (fun v =>
    let fault := v.sig.sentFlags.any (fun q => decide (q.1 = group ∧ q.2.1 = epoch) &&
      (bitOf q.2.2 0 || bitOf q.2.2 1 || bitOf q.2.2 3 || bitOf q.2.2 4))
    if v.c.group group 2 ≠ job then v
    else if v.minority group epoch refs ≠ [] ∨ fault then
      (v.onC (fun c => c.message .activeParent "MINORITY_ANSWER" [job, group, epoch, c.logical])).inMinority group epoch refs
    else v) s

/-! ## Groups (R395, R414) -/

/-- Whether some unit stands among the first K units of two enabled groups. -/
def Common.groupsOverlap (c : Common kd) : Bool :=
  let l := c.enabledGroups.flatMap (fun g => (c.groupUnits g).eraseDups)
  decide (l.eraseDups.length ≠ l.length)

/-- Spares that the enabled AUDIT groups need (R414). -/
def Common.sparesNeeded (c : Common kd) : Nat :=
  ((c.enabledGroups.filter (fun g => decide (c.group g 1 = 2))).map (fun g =>
    (c.group g 5 + c.group g 8 - 1) / (max 1 (c.group g 8)))).sum

/-- A write of SIG_GROUP; `own` says that a session's activation makes it. A write breaks R414 when it raises the need above
the spares. -/
def ruleSigGroup (g sub n : Nat) (own : Option Nat) (v : Vangeg) : Vangeg × Option Abort :=
  let held := decide (v.c.group g 1 ≠ 0) && v.sig.owners.any (fun q => decide (q.1 = g) &&
    (match v.c.sessionSlot q.2 with | some k => decide (v.c.reg (0x4100 + k) 2 = 3) | none => false))
  let c1 := v.c.setReg (0x3610 + g) sub n
  let units := decide (sub = 3 ∨ sub = 4 ∨ sub = 5) || (decide (sub = 1) && decide (n ≠ 0))
  let short := decide (c1.spares.length < c1.sparesNeeded ∧ v.c.sparesNeeded < c1.sparesNeeded)
  if (units && c1.groupsOverlap) || short then (v, some .value)
  else if held && own.isNone then (v, some .state)
  else
    let v1 := ({ v with c := c1 }).onSig (fun s => { s with
      owners := match own with | some n => putKey s.owners g n | none => s.owners })
    (v1.refreshJobs, none)

/-- SIG_GROUP_WRITE (R395). -/
def execSigGroupWrite (r : Req) (group sub v : Nat) (s : State) : Res :=
  onV (fun x => x.ruled r (0x3610 + group) sub v (ruleSigGroup group sub v none)) s

/-! ## Chord events and the peer log (R91, R417) -/

/-- Logs a tagged send under the job's last END epoch plus one. -/
def Vangeg.logPeer (v : Vangeg) (job peer : Nat) : Vangeg :=
  match v.c.jobEntry job with
  | none => v
  | some j =>
    let e := (v.c.reg (0x3630 + j) 4 + 1) % 2 ^ 32
    let l := lookupD [] v.sig.peers job
    let old := (l.find? (fun p => decide (p.epoch = e))).getD { epoch := e, receivers := [], overflow := false }
    let new := if peer ∈ old.receivers then old
      else if 64 ≤ old.receivers.length then { old with overflow := true }
      else { old with receivers := old.receivers ++ [peer] }
    let kept := l.filter (fun p => decide (p.epoch ≠ e ∧ epochDiff e p.epoch < 64))
    v.onSig (fun s => { s with peers := putKey s.peers job ((new :: kept).take 64) })

/-- CHORD_EVENT (R91): the record of Table 2-12 under the KIND 3 binding, and a send's entry in the peer log. -/
def execChordEvent (receive : Bool) (msg peer : Nat) (s : State) : Res :=
  onV (fun v =>
    let b := bytesLE 4 msg ++ bytesLE 4 peer ++ bytesLE 6 (v.c.stamp v.c.now) ++ [b2n receive, 0]
    let v1 := if receive then v else v.logPeer (msg / 2 ^ 16 % 2 ^ 16) peer
    match v1.c.kindBinding 3 with
    | none => v1.onC (fun c => c.countLoss 3)
    | some q => (v1.sendData 3 5 q.1 none b).1) s

end Sys2Proof.Machine
end

