-- ==== Sys2Proof/Machine/Verdict.lean ====
section
/-! DEFINITION. The verdict unit of a Shopostra (12_silent_errors.md): rounds, declarations, minority and taint, the class
table; and chord matching (R92 to R95). -/

namespace Sys2Proof.Machine

variable {kd : Part}

/-- A change of the verdict unit. -/
def Shopostra.onVer (x : Shopostra) (f : VerdictUnit → VerdictUnit) : Shopostra := { x with ver := f x.ver }

/-! ## Folding (R398) -/

/-- What a round's inputs come to (Table 12-2). -/
structure RoundSum where
  first : Ticks
  cls : Nat
  flags : Nat
  audited : Option Nat
  auditedDies : Nat
  badFrom : Option Nat
  present : Nat
  faulted : Nat
  faults : List Nat
  misses : List Nat
  votes : List RedElem

/-- An empty round. -/
def sumNew (now : Ticks) : RoundSum :=
  { first := now, cls := 0, flags := 0, audited := none, auditedDies := 0, badFrom := none, present := 0, faulted := 0,
    faults := [], misses := [], votes := [] }

/-- The lower of two epochs that may be absent. -/
def epochLow : Option Nat → Option Nat → Option Nat
  | none, b => b
  | a, none => a
  | some a, some b => some (epochMin a b)

/-- The lowest 16 addresses of a union. -/
def low16 (a b : List Nat) : List Nat := (b.foldl (fun l n => insertUp n l) a).take 16

/-- Reads VOTE partials of a partial's tail, one per unit. -/
def readVotes : Nat → List Nat → List RedElem
  | 0, _ => []
  | n + 1, b =>
    match readElem { offset := 0, count := 1, stride := 0, inType := 1, op := 9, param := 0, payload := 0, payloadOff := 0 } b with
    | none => []
    | some (e, k) => e :: readVotes n (b.drop k)

/-- Adds a vote element to another. -/
def addVote (a b : RedElem) : RedElem :=
  match a, b with
  | .vote t1 s1 g1, .vote t2 s2 g2 => mergeVotes t1 t2 s1 s2 g1 g2
  | e, _ => e

/-- Folds one input: a round input of a die, or a partial of a child position. -/
def RoundSum.fold (c : Common kd) (q : RoundSum) (source : Nat) (m : List Nat) : RoundSum :=
  let t := c.extend (leAt m 8 6)
  let fl := nth 0 m 3
  let k := nth 0 m 16
  let base : RoundSum := { q with
    first := if q.present = 0 then t else min q.first t, cls := max q.cls (leAt m 8 6 / 2 ^ 46 % 4),
    flags := Nat.lor q.flags (fl % 64) }
  let votes := fun (l : List RedElem) => if q.votes = [] then l else (q.votes.zip l).map (fun e => addVote e.1 e.2)
  if nth 0 m 0 = 0x30 then
    let bad := bitOf fl 0 || bitOf fl 1 || bitOf fl 3 || bitOf fl 4
    let absent := leAt m 18 2
    let es := (List.range (if 32 < m.length then k else 0)).map (fun i =>
      if bitOf absent i then RedElem.vote 0 false [] else mergeVotes 0 1 false false [] [(leAt m (32 + 8 * i) 8, 1, [source])])
    { base with
      present := q.present + 1, faulted := q.faulted + b2n bad, faults := if bad then low16 q.faults [source] else q.faults,
      audited := if bitOf fl 6 then epochLow q.audited (some (leAt m 24 4)) else q.audited,
      auditedDies := q.auditedDies + b2n (bitOf fl 6),
      badFrom := if bitOf fl 3 then epochLow q.badFrom (some (leAt m 28 4)) else q.badFrom, votes := votes es }
  else
    { base with
      present := q.present + leAt m 36 4, faulted := q.faulted + leAt m 44 4,
      faults := low16 q.faults ((List.range (nth 0 m 48)).map (fun i => leAt m (56 + 4 * i) 4)),
      misses := low16 q.misses ((List.range (nth 0 m 49)).map (fun i => leAt m (120 + 4 * i) 4)),
      audited := if leAt m 28 4 = 0 then q.audited else epochLow q.audited (some (leAt m 24 4)),
      auditedDies := q.auditedDies + leAt m 28 4,
      badFrom := if bitOf fl 3 then epochLow q.badFrom (some (leAt m 32 4)) else q.badFrom,
      votes := votes (readVotes k (m.drop 184)) }

/-- A round's sum over all its inputs. -/
def Round.sum (r : Round) (c : Common kd) : RoundSum := r.inputs.foldl (fun q i => q.fold c i.1 i.2.2) (sumNew c.now)

/-- The first input, which fixes WAIT, QUORUM and K (R399). -/
def Round.head (r : Round) : List Nat := match r.inputs with | i :: _ => i.2.2 | [] => []
def Round.k (r : Round) : Nat := nth 0 r.head 16
def Round.wait (r : Round) : Nat := nth 0 r.head 17
def Round.quorum (r : Round) : Nat := leAt r.head 20 4

/-- The deadline of a round (R399). -/
def Shopostra.roundDeadline (x : Shopostra) (r : Round) : Ticks :=
  (r.sum x.c).first + usT r.wait + usT ((4 - x.c.depth) * 20)

/-- The partial sent upward (Table 12-2). -/
def roundPartial (c : Common kd) (r : Round) (q : RoundSum) (expected : Nat) (misses : List Nat) (incomplete : Bool) : List Nat :=
  let list := fun (l : List Nat) => ((l ++ List.replicate 16 0).take 16).flatMap (bytesLE 4)
  [0x31, 1, r.group, q.flags + 64 * b2n incomplete] ++ bytesLE 4 r.epoch ++ bytesLE 6 (q.cls * 2 ^ 46 + c.stamp40 q.first) ++
    bytesLE 2 r.job ++ [r.k, r.wait, 0, 0] ++ bytesLE 4 r.quorum ++ bytesLE 4 (q.audited.getD 0) ++ bytesLE 4 q.auditedDies ++
    bytesLE 4 (q.badFrom.getD 0) ++ bytesLE 4 q.present ++ bytesLE 4 expected ++ bytesLE 4 q.faulted ++
    [q.faults.length, misses.length] ++ List.replicate 6 0 ++ list q.faults ++ list misses ++ q.votes.flatMap (RedElem.bytes 9)

/-! ## Outcomes (R400) -/

/-- The majority group of a vote element, if any. -/
def majority : RedElem → Option (Nat × Nat × List Nat)
  | .vote t _ g => g.find? (fun q => decide (t < 2 * q.2.1))
  | _ => none

/-- The outcome of a round: 1 FAULT, 2 SHORT, 3 NO_MAJORITY, 4 SPLIT, 5 AGREE (Table 12-3). -/
def RoundSum.outcome (q : RoundSum) (quorum : Nat) : Nat :=
  let total := fun (e : RedElem) => match e with | .vote t _ _ => t | _ => 0
  let none_ := fun (e : RedElem) => (match e with | .vote _ s _ => s | _ => false) || (majority e).isNone
  let many := fun (e : RedElem) => match e with | .vote _ _ g => decide (1 < g.length) | _ => false
  if 0 < q.faulted then 1
  else if decide (q.present < quorum) || q.votes.any (fun e => decide (total e < quorum)) then 2
  else if q.votes.any none_ then 3
  else if q.votes.any many then 4
  else 5

/-- The dies outside the majority group of any element: their listed addresses, and how many there are. -/
def minorityDies (votes : List RedElem) : List Nat × Nat :=
  let others := fun (e : RedElem) => match e, majority e with
    | .vote _ _ g, some m => g.filter (fun q => decide (q.1 ≠ m.1))
    | _, _ => []
  let groups := votes.flatMap others
  let listed := groups.foldl (fun l q => q.2.2.foldl (fun a n => insertUp n a) l) []
  let whole := groups.all (fun q => decide (q.2.1 = q.2.2.length))
  let most := (votes.map (fun e => ((others e).map (fun q => q.2.1)).sum)).foldl max 0
  (listed, if whole then listed.length else max most listed.length)

/-! ## Declarations (R402 to R405) -/

/-- Groups that a session's descriptor configures: group, MODE, job and AUDIT_HOLD, as its last writes leave them. -/
def descGroups (desc : List Nat) : List (Nat × Nat × Nat × Nat) :=
  let ws := (levelTemplates desc 0).flatMap (fun t => t.writes)
  (List.range 16).filterMap (fun g =>
    let last := fun (sub : Nat) => ((ws.filter (fun w => decide (w.1 = 0x3610 + g ∧ w.2.1 = sub))).getLast?).map (fun w => w.2.2.2)
    match last 1 with
    | none => none
    | some mode => if mode = 0 then none else some (g, mode, (last 2).getD 0, (last 10).getD 0))

/-- A session's descriptor. -/
def Common.descOf (c : Common kd) (n : Nat) : List Nat :=
  match c.sessionSlot n with
  | some k => (c.session k).desc
  | none => []

/-- Child ports behind which member dies of a session stand, by the acknowledgements (R291). -/
def Shopostra.verdictPorts (x : Shopostra) (n : Nat) : List Nat :=
  match x.c.sessionSlot n with
  | none => []
  | some k => ((x.c.session k).acks.filter (fun a => decide (a.2.dies ≠ 0))).map Prod.fst

/-- Sends a verdict record downward, and counts the verdict when it is late at the dies (R409). -/
def Shopostra.verdictDown (x : Shopostra) (b : List Nat) : Shopostra :=
  let late := x.ver.closed.any (fun r =>
    decide (x.c.depth = 3 ∧ r.job = leAt b 12 2 ∧ r.epoch = leAt b 4 4 ∧ r.first + usT r.wait + usT 140 < x.c.now))
  let x1 := if late then x.onC (fun c => c.bump 0x3680 6) else x
  (x1.verdictPorts (leAt b 16 4)).foldl (fun (a : Shopostra) p => a.onC (fun c => c.control (.port p) 0x38 (b.drop 1))) x1

/-- Declares: the record of Table 12-5 is logged, recorded and sent. -/
def Shopostra.declare (x : Shopostra) (verdict cause group epoch last session job : Nat) (late pending : Bool) (bad : List Nat)
    (badCount badFrom : Nat) : Shopostra :=
  let l := bad.take 16
  let b := [0x38, verdict, cause, group] ++ bytesLE 4 epoch ++ bytesLE 4 last ++ bytesLE 2 job ++ [b2n late + 2 * b2n pending, l.length] ++
    bytesLE 4 session ++ bytesLE 6 (x.c.stamp x.c.now) ++ [0, 0] ++ bytesLE 4 badCount ++ bytesLE 4 badFrom ++
    (((l ++ List.replicate 16 0).take 16).flatMap (bytesLE 4))
  let sev := if verdict = 0 then 0 else if verdict = 1 then 2 else 1
  ((x.onVer (fun v => { v with log := (b :: v.log).take 1024 })).onC (fun c => c.createRecord sev 0x06 b)).verdictDown b

/-- A job at this verdict position. -/
def Shopostra.job (x : Shopostra) (session job : Nat) : Option JobVerdict :=
  x.ver.jobs.find? (fun j => decide (j.session = session ∧ j.job = job))

/-- Writes a job. -/
def Shopostra.setJob (x : Shopostra) (j : JobVerdict) : Shopostra :=
  x.onVer (fun v => { v with jobs := v.jobs.filter (fun k => !decide (k.session = j.session ∧ k.job = j.job)) ++ [j] })

/-- Whether the next epoch of a job may be declared CLEAN (R402). -/
def Shopostra.mayClean (x : Shopostra) (j : JobVerdict) : Bool :=
  let gs := (descGroups (x.c.descOf j.session)).filter (fun g => decide (g.2.2.1 = j.job))
  let rs := x.ver.closed.filter (fun r => decide (r.job = j.job))
  let names := if gs = [] then (rs.map (fun r => r.group)).eraseDups else gs.map Prod.fst
  let open_ := match j.failed with | none => true | some f => decide (epochDiff j.next f.1 < 0)
  open_ && decide (names ≠ []) &&
    names.all (fun g => rs.any (fun r => decide (r.group = g ∧ r.epoch = j.next ∧ r.outcome = 5))) &&
    gs.all (fun g => !decide (g.2.1 = 2 ∧ g.2.2.2 = 1) ||
      rs.any (fun r => decide (r.group = g.1) && decide (0 ≤ epochDiff r.epoch j.next) && r.auditedAll &&
        decide (0 ≤ epochDiff r.audited j.next)))

/-- Declares CLEAN in epoch order as far as the rounds allow. -/
def Shopostra.declareClean (session job : Nat) : Nat → Shopostra → Shopostra
  | 0, x => x
  | n + 1, x =>
    match x.job session job with
    | none => x
    | some j =>
      if x.mayClean j then
        let x1 := x.setJob { j with clean := some j.next, next := (j.next + 1) % 2 ^ 32 }
        Shopostra.declareClean session job n (x1.declare 0 0 0xFF j.next j.next session job false false [] 0 j.next)
      else x

/-- Declares a FAILED epoch: a second failing round of the epoch joins its cause and bad set to the first (R403). -/
def Shopostra.declareFailed (x : Shopostra) (j : JobVerdict) (e cause group badFrom : Nat) (bad : List Nat) (count : Nat) : Shopostra :=
  let same := match j.failed with | some f => decide (f.1 = e) | none => false
  let old := j.failed.getD (e, 9, 0xFF, e)
  let cause1 := if same then min cause old.2.1 else cause
  let group1 := if same then (if old.2.1 < cause then old.2.2.1 else if cause < old.2.1 then group else min group old.2.2.1) else group
  let from1 := if same then epochMin badFrom old.2.2.2 else badFrom
  let bad1 := if same then bad.foldl (fun l n => insertUp n l) j.bad else bad
  let count1 := if same then max (max count j.badCount) bad1.length else count
  let pending := decide ((cause1 = 1 ∨ cause1 = 4) ∧ bad1.length < count1)
  let late := match j.clean with | some c => decide (epochDiff from1 c ≤ 0) | none => false
  let x1 := x.setJob { j with failed := some (e, cause1, group1, from1), bad := bad1, badCount := count1, minority := pending }
  let x2 := x1.declare 1 cause1 group1 e e j.session j.job late pending bad1 count1 from1
  let rep := fun (y : Shopostra) (sev code detail : Nat) =>
    y.onC (fun c => c.report { sev := sev, code := code, job := j.job, epoch := e, detail := detail })
  let x3 := rep x2 2 0x0C02 cause1
  if late then rep x3 3 0x0C0A from1 else x3

/-- Sends a MINORITY_QUERY downward: per element the majority signature, or 0 for a FAULT round (R416). -/
def Shopostra.queryMinority (x : Shopostra) (j : JobVerdict) (group e : Nat) (fault : Bool) (votes : List RedElem) (k : Nat) : Shopostra :=
  let refs := if fault then List.replicate k 0 else votes.map (fun v => ((majority v).map Prod.fst).getD 0)
  (x.verdictPorts j.session).foldl (fun (a : Shopostra) p =>
    a.onC (fun c => c.message (.port p) "MINORITY_QUERY" ([j.job, group, e] ++ refs))) (x.onC (fun c => c.bump 0x3680 7))

/-- The verdict position gives a closed round its outcome (R400 to R403). -/
def Shopostra.judge (x : Shopostra) (session : Nat) (r : Round) (q : RoundSum) (present : List Nat) : Shopostra :=
  let o := q.outcome r.quorum
  if x.c.reg 0x7001 2 ≠ 0 then x else
  let x1 := match o with
    | 4 => x.onC (fun c => c.bump 0x3680 2)
    | 3 => x.onC (fun c => c.bump 0x3680 3)
    | 2 => x.onC (fun c => c.bump 0x3680 4)
    | _ => x
  match x1.job session r.job with
  | none => x1
  | some j =>
    if o = 5 then Shopostra.declareClean session r.job (x1.ver.closed.length + 1) x1
    else if epochDiff r.epoch j.next < 0 then x1
    else if (match j.failed with | some f => decide (0 < epochDiff r.epoch f.1) | none => false) then x1
    else
      let bad := match o with
        | 1 => (q.faults, q.faulted)
        | 3 => (present, q.present)
        | 4 => minorityDies q.votes
        | _ => ([], 0)
      let x2 := x1.declareFailed j r.epoch o r.group ((if o = 1 then q.badFrom else none).getD r.epoch) bad.1 bad.2
      match x2.job session r.job with
      | some k => if k.minority then x2.queryMinority k r.group r.epoch (decide (o = 1)) q.votes r.k else x2
      | none => x2

/-- Closes a round (R399): the partial goes up, or the verdict position judges it. `hurt` says that inputs were lost. -/
def Shopostra.closeRound (x : Shopostra) (r : Round) (hurt : Bool) : Shopostra :=
  let e := x.entry r.tag
  let q := r.sum x.c
  let silent := e.ports.filter (fun p => !(r.inputs.any (fun i => decide (i.2.1 = p))))
  let misses := low16 q.misses (silent.flatMap (fun p => x.c.membersBehind e.session p))
  let expected := (e.ports.map (fun p => x.c.diesBehind e.session p)).sum
  let incomplete := hurt || decide (q.present < expected) || r.inputs.any (fun i => decide (nth 0 i.2.2 0 = 0x31) && bitOf (nth 0 i.2.2 3) 6)
  let c : RoundClosed :=
    { tag := r.tag, job := r.job, group := r.group, epoch := r.epoch, first := q.first, wait := r.wait,
      outcome := q.outcome r.quorum, auditedAll := decide (q.auditedDies = q.present), audited := q.audited.getD 0 }
  let x1 := (x.onVer (fun v => { v with
    rounds := v.rounds.filter (fun k => !decide (k.tag = r.tag ∧ k.job = r.job ∧ k.group = r.group ∧ k.epoch = r.epoch)),
    closed := v.closed ++ [c] })).onC (fun c => c.bump 0x3680 1)
  if e.toParent then x1.emit e.cls r.tag false q.first (roundPartial x1.c r q expected misses incomplete)
  else
    let present := (e.ports.flatMap (fun p => x1.c.membersBehind e.session p)).filter (fun l => !decide (l ∈ misses))
    x1.judge e.session r q present

/-- A round input or a child partial (R398, R399). -/
def Shopostra.roundInput (x : Shopostra) (tag port source : Nat) (m : List Nat) : Shopostra :=
  let e := x.entry tag
  let job := leAt m 14 2
  let g := nth 0 m 2 % 16
  let ep := leAt m 4 4
  let same := fun (a b c d : Nat) => decide (a = tag ∧ b = job ∧ c = g ∧ d = ep)
  let late := x.onC (fun c => c.bump 0x5020 1)
  let position := !e.toParent
  let jv := x.job e.session job
  if m.length < 32 then x
  else if x.ver.closed.any (fun r => same r.tag r.job r.group r.epoch) then late
  else if position && (match jv with | some j => decide (epochDiff ep j.first < 0) | none => false) then late
  else
    let x1 := if position then
        match jv with
        | none => x.setJob { session := e.session, job := job, first := ep, next := ep, clean := none, folded := ep, failed := none,
                             bad := [], badCount := 0, minority := false }
        | some j => x.setJob { j with folded := epochMax j.folded ep }
      else x
    match x1.ver.rounds.find? (fun r => same r.tag r.job r.group r.epoch) with
    | none => put x1 { tag := tag, job := job, group := g, epoch := ep, inputs := [(source, port, m)] }
    | some r =>
      if nth 0 m 16 ≠ r.k ∨ nth 0 m 17 ≠ r.wait ∨ leAt m 20 4 ≠ r.quorum then x1.onC (fun c => c.bump 0x3680 5)
      else if r.inputs.any (fun i => decide (i.1 = source)) then x1.onC (fun c => c.bump 0x5020 2)
      else put x1 { r with inputs := r.inputs ++ [(source, port, m)] }
where
  /-- Keeps a round, and closes it when every expected source has been folded. -/
  put (x : Shopostra) (r : Round) : Shopostra :=
    let e := x.entry r.tag
    let x1 := x.onVer (fun v => { v with
      rounds := v.rounds.filter (fun k => !decide (k.tag = r.tag ∧ k.job = r.job ∧ k.group = r.group ∧ k.epoch = r.epoch)) ++ [r] })
    if e.inCount ≤ r.inputs.length then x1.closeRound r false else x1

/-- ROUND_INPUT_RX (R398). -/
def execRoundInputRx (tag port source : Nat) (msg : List Nat) (s : State) : Res :=
  onX (fun x => if (x.entry tag).kind = 4 ∧ 2 ≤ (x.entry tag).state then x.roundInput tag port source msg else x) s

/-- An open round. -/
def Shopostra.roundOf (x : Shopostra) (tag job group epoch : Nat) : Option Round :=
  x.ver.rounds.find? (fun r => decide (r.tag = tag ∧ r.job = job ∧ r.group = group ∧ r.epoch = epoch))

/-- ROUND_DEADLINE (R399). -/
def execRoundDeadline (tag job group epoch : Nat) (s : State) : Res :=
  onX (fun x => match x.roundOf tag job group epoch with
    | none => x
    | some r => (x.onC (fun c => c.arrive (x.roundDeadline r))).closeRound r false) s

/-- ROUND_ECC_ERROR (R429): the round closes INCOMPLETE without the inputs of the sources lost. -/
def execRoundEccError (tag job group epoch : Nat) (lost : List Nat) (s : State) : Res :=
  onX (fun x => match x.roundOf tag job group epoch with
    | none => x
    | some r => (x.closeRound { r with inputs := r.inputs.filter (fun i => !decide (i.1 ∈ lost)) } true).onC
        (fun c => c.reportUnstated tag)) s

/-- VERDICT_RECORD_RX (R405): a Vangeg acts on the record; a Shopostra relays it toward the member dies. -/
def execVerdictRecordRx (p : Part) (record refs : List Nat) (s : State) : Res :=
  onPart p (Vangeg.verdict record refs) (fun x => x.verdictDown record) s

/-! ## Resume and abandonment (R407, R408) -/

/-- Declares a range ABANDONED. -/
def Shopostra.abandon (x : Shopostra) (j : JobVerdict) (last : Nat) : Shopostra :=
  x.declare 2 0 0xFF j.next last j.session j.job false false [] 0 j.next

/-- A write of SIG_RESUME's resume epoch. -/
def ruleSigResume (n : Nat) (x : Shopostra) : Shopostra × Option Abort :=
  let status := fun (y : Shopostra) (k : Nat) => y.onC (fun c => c.setReg 0x3681 4 k)
  match x.job (x.c.reg 0x3681 1) (x.c.reg 0x3681 2) with
  | none => (status x 2, some .state)
  | some j =>
    if epochDiff n j.folded ≤ 0 then (status x 2, some .value)
    else
      let last := (n + 2 ^ 32 - 1) % 2 ^ 32
      let x1 := (x.onC (fun c => c.setReg 0x3681 3 n)).setJob
        { j with next := n, failed := none, bad := [], badCount := 0, minority := false }
      (status (x1.abandon j last) 1, none)

/-- SIG_RESUME (R407). -/
def execSigResume (r : Req) (v : Nat) (s : State) : Res := onX (fun x => x.ruled r 0x3681 3 v (ruleSigResume v)) s

/-- When the KIND 4 entry of a session drains at its verdict position, every epoch of its jobs not yet declared is ABANDONED
(R408). -/
def Shopostra.abandonSession (x : Shopostra) (n : Nat) : Shopostra :=
  let mine := x.ver.jobs.filter (fun j => decide (j.session = n))
  let x1 := mine.foldl (fun (a : Shopostra) j => if 0 ≤ epochDiff j.folded j.next then a.abandon j j.folded else a) x
  x1.onVer (fun v => { v with jobs := v.jobs.filter (fun j => decide (j.session ≠ n)) })

/-! ## Minority and taint (R416 to R419) -/

/-- A minority answer: gathered at the verdict position, passed upward elsewhere. -/
def Shopostra.minorityAnswer (job group epoch die : Nat) (x : Shopostra) : Shopostra :=
  match x.ver.jobs.find? (fun j => decide (j.job = job) && (match j.failed with | some f => decide (f.1 = epoch) | none => false)) with
  | some j => x.setJob { j with bad := insertUp die j.bad }
  | none => x.onC (fun c => c.message .activeParent "MINORITY_ANSWER" [job, group, epoch, die])

/-- MINORITY_ANSWER_RX (R416). -/
def execMinorityAnswerRx (job group epoch die : Nat) (s : State) : Res := onX (Shopostra.minorityAnswer job group epoch die) s

/-- MINORITY_DEADLINE (R416): the second FAILED record, with the complete bad set. -/
def execMinorityDeadline (session job : Nat) (s : State) : Res :=
  onX (fun x => match x.job session job with
    | none => x
    | some j => match j.failed with
      | none => x
      | some f =>
        if !j.minority then x
        else
          let late := match j.clean with | some c => decide (epochDiff f.2.2.2 c ≤ 0) | none => false
          (x.setJob { j with minority := false, badCount := j.bad.length }).declare 1 f.2.1 f.2.2.1 f.1 f.1 session job late false j.bad
            j.bad.length f.2.2.2) s

/-- One pass of R418 at an epoch: receivers of tainted senders become tainted. -/
def taintPass (members : List Nat) (logs : List (Nat × List (Nat × List Nat × Bool))) (x : Nat) (t : List (Nat × Nat)) : List (Nat × Nat) :=
  logs.foldl (fun t l =>
    match t.find? (fun q => decide (q.1 = l.1)) with
    | none => t
    | some q =>
      if 0 < epochDiff q.2 x then t
      else match l.2.find? (fun p => decide (p.1 = x)) with
        | none => t
        | some p =>
          let add := fun (t : List (Nat × Nat)) (r : Nat) => if t.any (fun e => decide (e.1 = r)) then t else t ++ [(r, x)]
          let t1 := p.2.1.foldl add t
          if p.2.2 then members.foldl add t1 else t1) t

/-- The taint map of a bad set (R418), from e_b on for n epochs. -/
def taintMap (bad members : List Nat) (logs : List (Nat × List (Nat × List Nat × Bool))) (eb n : Nat) : List (Nat × Nat) :=
  (List.range n).foldl (fun t i =>
    (List.range (logs.length + 1)).foldl (fun t _ => taintPass members logs ((eb + i) % 2 ^ 32) t) t)
    (bad.map (fun b => (b, eb)))

/-- The taint map is computed, published and sent (R418, R419). `logs` are the peer logs collected: die, and per epoch its
receivers and OVERFLOW. -/
def Shopostra.computeTaint (session job : Nat) (logs : List (Nat × List (Nat × List Nat × Bool))) (x : Shopostra) : Shopostra :=
  match x.job session job with
  | none => x
  | some j => match j.failed with
    | none => x
    | some f =>
      if j.bad = [] then x
      else
        let eb := f.2.2.2
        let n := (epochDiff j.folded eb).toNat + 2
        let members := (x.verdictPorts session).flatMap (fun p => x.c.membersBehind session p)
        let t := (taintMap j.bad members logs eb n).mergeSort (fun a b => decide (a.1 ≤ b.1))
        let x1 := x.onVer (fun v => { v with taints := v.taints.filter (fun e => !decide (e.1 = job ∧ e.2.1 = f.1)) ++ [(job, f.1, t)] })
        t.foldl (fun (a : Shopostra) e => a.onC (fun c => c.message (.die e.1) "TAINT_NOTICE" [job, e.2])) x1

/-- TAINT_MAP_COMPUTE (R418). -/
def execTaintMapCompute (session job : Nat) (logs : List (Nat × List (Nat × List Nat × Bool))) (s : State) : Res :=
  onX (Shopostra.computeTaint session job logs) s

/-! ## Reports and the class table (R422, R427) -/

/-- A forwarded error report at a tray (R427): stored once, by PHYS and SEQ; a TRANSIENT fault enters the class table. -/
def Shopostra.reportRx (bytes : List Nat) (x : Shopostra) : Shopostra :=
  let id := (leAt bytes 8 4, leAt bytes 48 4)
  if id ∈ x.c.log.reportsSeen then x
  else
    let x1 := x.onC (fun c => ({ c with log := { c.log with reportsSeen := c.log.reportsSeen ++ [id] } }).createRecord (nth 0 bytes 1 % 4) 0x01 bytes)
    if leAt bytes 2 2 ≠ 0x0C06 then x1
    else
      let unit := nth 0 bytes 22
      let bucket := leAt bytes 26 2
      let same := fun (k : ClassEntry) => decide (k.phys = id.1 ∧ k.unit = unit ∧ k.bucket = bucket)
      let live := x1.ver.classes.filter (fun k => decide (x1.c.now < k.at_ + secT 86400))
      let n := (live.filter same).length + 1
      let cls := if 3 ≤ n then 3 else 1
      let e : ClassEntry := { phys := id.1, unit := unit, cls := cls, bucket := bucket, stamp := leAt bytes 12 6, at_ := x1.c.now }
      let x2 := x1.onVer (fun v => { v with classes := (if 3 ≤ n then live.map (fun k => if same k then { k with cls := 3 } else k) else live) ++ [e] })
      if n < 3 then x2
      else x2.onC (fun c => (c.report { sev := 2, code := 0x0C08, unit := unit, bucket := bucket, detail := n }).message
        (.die (leAt bytes 4 4)) "STRESS_REQUEST" [unit, bucket])

/-- ERROR_REPORT_RX (R427). Only a tray stores reports of its dies. -/
def execErrorReportRx (bytes : List Nat) (s : State) : Res :=
  onX (fun x => if x.c.reg 0x1012 0 = 0 then x.reportRx bytes else x) s

/-- CLASS_ENTRY_EXPIRE (R422): entries older than 24 h leave. -/
def execClassEntryExpire (s : State) : Res :=
  onX (fun x => x.onVer (fun v => { v with classes := v.classes.filter (fun k => decide (x.c.now < k.at_ + secT 86400)) })) s

/-! ## Chord matching (R92 to R95) -/

/-- A signed difference of two short stamps, in 1/256 ns. -/
def stampDiff (a b : Nat) : Int := ofTwos 40 (a % 2 ^ 40 + 2 ^ 40 - b % 2 ^ 40)

/-- Adds a matched message from a to b with its transit. -/
def addTransit (l : List ((Nat × Nat) × (Nat × Int))) (a b : Nat) (d : Int) : List ((Nat × Nat) × (Nat × Int)) :=
  match l.find? (fun q => decide (q.1 = (a, b))) with
  | none => l ++ [((a, b), (1, d))]
  | some q => putKey l (a, b) (q.2.1 + 1, min q.2.2 d)

/-- Whether this is the lowest position above both dies (R92). -/
def Common.matchesPair (c : Common kd) (a b : Nat) : Bool :=
  let port := fun l => c.bindings.find? (fun q => (childIndex q.1).isSome && decide (l ∈ q.2))
  match port a, port b with
  | some p, some q => decide (p.1 ≠ q.1)
  | _, _ => false

/-- A chord record (R92): matched with its partner, kept until the partner comes, or forwarded upward if sampled. -/
def Shopostra.chordRecord (x : Shopostra) (tag source : Nat) (m : List Nat) : Shopostra :=
  let msg := leAt m 0 4
  let peer := leAt m 4 4
  let stamp := leAt m 8 6
  let dir := nth 0 m 14 % 2
  if x.c.matchesPair source peer then
    if x.c.reg 0x1240 0 = 0 then x
    else
      let pair := if dir = 0 then (source, peer) else (peer, source)
      match x.c.tempo.chordWaiting.find? (fun w => decide (w.msgId = msg ∧ (w.a, w.b) = pair ∧ w.dir ≠ dir)) with
      | some w =>
        let d := if dir = 1 then stampDiff stamp w.stamp else stampDiff w.stamp stamp
        x.onC (fun c => { c with tempo := { c.tempo with
          chordWaiting := c.tempo.chordWaiting.erase w, chordPairs := addTransit c.tempo.chordPairs pair.1 pair.2 d } })
      | none => x.onC (fun c => { c with tempo := { c.tempo with
          chordWaiting := c.tempo.chordWaiting ++ [{ msgId := msg, a := pair.1, b := pair.2, stamp := stamp, dir := dir }] } })
  else if x.c.depth = 0 ∨ msg % 2 ^ x.c.reg 0x1242 0 ≠ 0 then x
  else x.sendUp (x.entry tag).cls tag source m

/-- CHORD_RECORD_RX (R92). -/
def execChordRecordRx (tag source : Nat) (msg : List Nat) (s : State) : Res :=
  onX (fun x => x.chordRecord tag source msg) s

/-- CHORD_RECORD_EXPIRE (R92): records whose stamp is 2 board cycles old leave, counted. -/
def execChordRecordExpire (s : State) : Res :=
  onX (fun x => x.onC (fun c =>
    let old := fun (w : ChordWait) => decide (c.extend w.stamp + 2 * cycleT ≤ c.now)
    { c with tempo := { c.tempo with
      chordWaiting := c.tempo.chordWaiting.filter (fun w => !old w),
      chordExpired := c.tempo.chordExpired + (c.tempo.chordWaiting.filter old).length } })) s

/-- The median of a list of integers; the mean of the middle two where their number is even. -/
def medianInt (l : List Int) : Int :=
  let s := l.mergeSort (fun a b => decide (a ≤ b))
  let n := s.length
  if n % 2 = 1 then s.getD (n / 2) 0 else (s.getD (n / 2 - 1) 0 + s.getD (n / 2) 0) / 2

/-- The fit of R93: theta_ab for every pair with at least 64 messages each way. -/
def chordThetas (l : List ((Nat × Nat) × (Nat × Int))) : List ((Nat × Nat) × Int) :=
  l.filterMap (fun q =>
    match l.find? (fun r => decide (r.1 = (q.1.2, q.1.1))) with
    | none => none
    | some r => if 64 ≤ q.2.1 ∧ 64 ≤ r.2.1 then some (q.1, (q.2.2 - r.2.2) / 2) else none)

/-- The end of a chord window: offsets are fitted and published, faults recorded. -/
def Common.chordFit (c : Common kd) : Common kd :=
  let th := chordThetas c.tempo.chordPairs
  let dies := (th.map (fun q => q.1.2)).eraseDups
  let res := dies.filterMap (fun d =>
    let ps := th.filter (fun q => decide (q.1.2 = d))
    if ps.length < 3 then none
    else
      let m := medianInt (ps.map Prod.snd)
      some (d, m, ps.length, decide (c.reg 0x1243 0 < m.natAbs)))
  let c1 : Common kd := { c with tempo := { c.tempo with chordPairs := [], chordResult := res } }
  (res.filter (fun r => r.2.2.2)).foldl (fun a r =>
    (a.bump 0x1245 0).report { sev := 2, code := 0x0201, detail := r.1 + toTwos 32 r.2.1 * 2 ^ 32 }) c1

/-- CHORD_FIT (R93). -/
def execChordFit (s : State) : Res :=
  onX (fun x => if x.c.reg 0x1240 0 = 0 then x else x.onC Common.chordFit) s

end Sys2Proof.Machine
end

