-- ==== Sys2Proof/Machine/Liveness.lean ====
section
/-! DEFINITION. Liveness (13_liveness_and_faults.md): heartbeats, grants and leases, SUSPECT and DEAD, fencing by command,
notices, and rehearsals. -/

namespace Sys2Proof.Machine

variable {kd : Part}

/-- A neighbour of which nothing is held. -/
def peerNew : Peer :=
  { known := none, own := none, granted := none, epoch := none, fenced := false, active := false, logical := 0xFFFFFFFF,
    sent := 0, revoke := false, revoked := false, pRevoked := false, pSeen := false, pLast := none, bridge := false, g := none,
    blocked := false, holdUntil := none, commanded := false, lapsed := false }

/-- What the part holds of the neighbour on a port. -/
def Common.peer (c : Common kd) (p : Nat) : Peer := lookupD peerNew c.live.peers p

/-- A change of the liveness unit. -/
def Common.onLive (c : Common kd) (f : Live → Live) : Common kd := { c with live := f c.live }

/-- Writes what the part holds of a neighbour; LIVE_LAST_HB shows its last known heartbeat. -/
def Common.setPeer (c : Common kd) (p : Nat) (q : Peer) : Common kd :=
  let c1 := c.onLive (fun l => { l with peers := putKey l.peers p q })
  match q.known with
  | none => c1
  | some t => c1.setReg 0x7003 (p + 1) (c.stamp t)

/-- The liveness state of a neighbour (Table 13-3). -/
def Common.liveState (c : Common kd) (p : Nat) : Nat := c.reg 0x7002 (p + 1)

/-- Writes the liveness state of a neighbour. -/
def Common.setLive (c : Common kd) (p n : Nat) : Common kd := c.setReg 0x7002 (p + 1) n

/-- The later of two instants that may be absent. -/
def later : Option Ticks → Option Ticks → Option Ticks
  | none, b => b
  | a, none => a
  | some a, some b => some (max a b)

/-- Whether an instant is later than one that may be absent. -/
def after (a b : Option Ticks) : Bool :=
  match a, b with
  | some a, some b => decide (b < a)
  | some _, none => true
  | none, _ => false

/-- Whether the part is fenced (LIVE_FENCED). -/
def Common.isFenced (c : Common kd) : Bool := c.reg 0x7001 2 ≠ 0

/-- Whether the part holds a lease at this instant. -/
def Common.leased (c : Common kd) : Bool := match c.live.lease with | some e => decide (c.now < e) | none => false

/-! ## Neighbours -/

/-- Answers the requests relayed to the neighbour on a port with the target-reset code and the epoch held (R455). -/
def Common.abortNeighbour (c : Common kd) (p : Nat) : Common kd :=
  c.abortRelayed (fun r => decide (r.out = p) && r.last) .targetReset

/-- Whether this member judges the part on a port: a child, or at a zone the apex members (Table 13-2, R445). -/
def Shopostra.judges (x : Shopostra) (p : Nat) : Bool :=
  (childIndex p).isSome || (decide (x.c.reg 0x1012 0 = 2) && isParentPort p)

/-- Whether this member is the declaring member of the part on a port. -/
def Shopostra.declares (x : Shopostra) (p : Nat) : Bool := x.judges p && x.fleet.active && !x.c.isFenced

/-- Whether the position has a partner: a tray in redundant mode, and every position above (R28, R31). -/
def Common.paired (c : Common kd) : Bool := decide (c.reg 0x1012 0 ≠ 0) || decide (c.reg 0x1014 0 = 1)

/-- The child port of the neighbour that holds a logical address. -/
def Common.childOf (c : Common kd) (l : Nat) : Option Nat :=
  ((List.range 32).map childPort).find? (fun p => decide ((c.peer p).logical = l))

/-- Where a notice goes: the active parent; from the mirror apex, its partner. -/
def Common.upward (c : Common kd) : Dest := if c.reg 0x1012 0 = 3 then .partner else .activeParent

/-! ## Notices (R451, R452) -/

/-- The 64 bytes of a liveness notice (Table 13-4). -/
def noticeBytes (c : Common kd) (kind : Nat) (gambit : Bool) (code subject phys : Nat) (t : Ticks) (last session arg tag : Nat) : List Nat :=
  [0x51, kind, b2n gambit, code] ++ bytesLE 4 subject ++ bytesLE 4 phys ++ bytesLE 6 (c.stamp t) ++ bytesLE 6 last ++
    bytesLE 4 session ++ bytesLE 4 arg ++ bytesLE 4 c.logical ++ bytesLE 2 tag ++ List.replicate 26 0

/-- Child ports on which member dies stand of the ACTIVE sessions that include a part: as a member, or, for an
aggregator, with members behind the port that leads to it; at an intermediate position every ACTIVE session counts. -/
def Common.noticePorts (c : Common kd) (subject : Nat) (apex : Bool) : List Nat :=
  let active := ((List.range 256).filter (fun k => decide (c.sessionState k = 3))).map (fun k => c.reg (0x4100 + k) 1)
  let includes := fun n =>
    if tierOf subject = 0 then c.isMember n subject
    else !apex || c.bindings.any (fun b => decide (subject ∈ b.2) && !(c.membersBehind n b.1).isEmpty)
  ((List.range 32).map childPort).filter (fun p => active.any (fun n => includes n && !(c.membersBehind n p).isEmpty))

/-- The apex takes a notice: DEAD and FENCED parts are kept for R42 and R447, a spare that turns SUSPECT or DEAD ends its
Castle (R46), and the notice goes down to member dies. -/
def Shopostra.apexNotice (x : Shopostra) (b : List Nat) : Shopostra :=
  let kind := nth 0 b 1
  let subject := leAt b 4 4
  let x1 := if kind = 3 ∨ kind = 4 then
      x.onC (fun c =>
        let c1 := c.onLive (fun l => { l with
          down := putKey l.down subject (kind, leAt b 18 6), commands := l.commands.filter (fun k => decide (k.1 ≠ subject)) })
        if c.live.commands.any (fun k => decide (k.1 = subject)) then c1.setReg 0x7005 3 (if kind = 4 then 2 else 3) else c1)
    else x
  let spare := if kind = 1 ∨ kind = 3 then x1.fleet.castles.filter (fun k => decide (k.s = leAt b 8 4 ∧ x.c.now < k.at_)) else []
  let x1 := spare.foldl (fun a k => a.cancelCastle k.l) x1
  if (1 ≤ kind ∧ kind ≤ 4) ∨ kind = 8 then
    x1.onC (fun c => (c.noticePorts subject true).foldl (fun a p => a.control (.port p) 0x51 (b.drop 1)) c)
  else x1

/-- Sends a notice: stored by the management subsystem, and upward to the apex (R452). -/
def Shopostra.notice (x : Shopostra) (kind p : Nat) (t : Ticks) : Shopostra :=
  let q := x.c.peer p
  let b := noticeBytes x.c kind false 0 q.logical (x.c.reg 0x1312 (p + 1)) t (match q.known with | some k => x.c.stamp k | none => 0) 0 0 0
  let x1 := x.onC (fun c => c.createRecord (if kind = 3 ∨ kind = 4 then 2 else 1) 0x02 b)
  if x1.fleet.actingApex then x1.apexNotice b else x1.onC (fun c => c.control c.upward 0x51 (b.drop 1))

/-! ## Declarations (R443 to R448) -/

/-- Declares the part on a port DEAD (3) or FENCED (4) at an instant (R446). -/
def Shopostra.declarePart (x : Shopostra) (p st : Nat) (t : Ticks) : Shopostra :=
  let q := x.c.peer p
  ((x.onC (fun c => ((c.setLive p st).bump 0x7004 2).setPeer p { q with revoke := false, blocked := false, g := none })).onC
    (fun c => c.abortNeighbour p)).notice st p t

/-- The partner condition of R443 at D: no partner, the partner revoked the part, or R444 has passed. -/
def Common.partnerAllows (c : Common kd) (q : Peer) (g : Ticks) : Bool :=
  !c.paired ||
  (q.pRevoked && !q.pSeen && (match q.pLast with | some t => decide (t ≤ g) | none => true)) ||
  (match c.live.partnerDead with | some s => decide (s + usT 4500 ≤ c.now) | none => false)

/-- Whether no heartbeat later than G is known. -/
def Peer.nothingLater (q : Peer) (g : Ticks) : Bool := match q.known with | some k => decide (k ≤ g) | none => true

/-- D of the part on a port (R443): a SUSPECT part is declared, at a zone its LAPSED bit is set for an apex member; where
only the partner condition fails the declaration is blocked. Where a later heartbeat than the member's own grant is known,
that grant has lapsed by now, and G becomes the last known heartbeat. -/
def Shopostra.tryDeclare (p : Nat) (x : Shopostra) : Shopostra :=
  let q := x.c.peer p
  match q.g with
  | none => x
  | some g =>
    let held : Bool := match q.holdUntil with | some h => decide (x.c.now < h) | none => false
    if x.c.liveState p ≠ 2 ∨ !x.declares p ∨ held ∨ x.c.now < g + usT 2500 then x
    else if !q.nothingLater g then x.onC (fun c => c.setPeer p { q with g := q.known })
    else if x.c.partnerAllows q g then
      (if isParentPort p then x.onC (fun c => c.setPeer p { q with lapsed := true })
       else x.declarePart p (if q.commanded then 4 else 3) (if q.blocked then x.c.now else g + usT 2500))
    else if q.blocked then x
    else
      let x1 := x.onC (fun c => (c.setPeer p { q with blocked := true }).bump 0x7004 3)
      if isParentPort p then x1 else x1.notice 5 p x.c.now

/-- DEAD_DECLARATION (R443): D arrives for the part on a port. -/
def execDeadDeclaration (port : Nat) (s : State) : Res :=
  onX (fun x => match (x.c.peer port).g with
    | none => x
    | some g => (x.onC (fun c => c.arrive (g + usT 2500))).tryDeclare port) s

/-- Tries every blocked declaration again. -/
def Shopostra.retryBlocked (x : Shopostra) : Shopostra :=
  (x.c.live.peers.filter (fun q => q.2.blocked)).foldl (fun a q => a.tryDeclare q.1) x

/-- PARTNER_DEAD_WAIT_END (R444): S + 4.5 ms arrives. -/
def execPartnerDeadWaitEnd (s : State) : Res :=
  onX (fun x => match x.c.live.partnerDead with
    | none => x
    | some t => (x.onC (fun c => c.arrive (t + usT 4500))).retryBlocked) s

/-- A member learns that its partner is DEAD (R444): S is the next board-cycle start. -/
def Shopostra.partnerIsDead (x : Shopostra) : Shopostra :=
  x.onC (fun c => c.onLive (fun l => { l with partnerDead := some (cycleStart c.now + cycleT) }))

/-- A later heartbeat of a part is known (R435): a SUSPECT part is ALIVE again (Table 13-3). -/
def Shopostra.heard (p : Nat) (t : Ticks) (x : Shopostra) : Shopostra :=
  let q := x.c.peer p
  if !after (some t) q.known then x
  else
    let x1 := x.onC (fun c => c.setPeer p { q with known := some t })
    if x.c.liveState p = 2 then
      let x2 := x1.onC (fun c => (c.setLive p 1).setPeer p
        { q with known := some t, revoke := false, blocked := false, g := none, lapsed := false })
      if x.declares p && !isParentPort p then x2.notice 2 p x.c.now else x2
    else x1

/-- The check of R435 at a board-cycle start S: missed heartbeats are counted, and a part silent since S − 500 µs is
SUSPECT. G is the latest grant of this member that still holds, or the last known heartbeat (R443). -/
def Shopostra.suspectCheck (x : Shopostra) : Shopostra :=
  x.c.live.peers.foldl (fun a e =>
    let p := e.1
    let q := a.c.peer p
    let s := a.c.now
    let a1 := if (a.c.liveState p = 1 ∨ a.c.liveState p = 2) ∧ !after q.own (some (s - cycleT - 1)) then a.onC (fun c => c.bump 0x7004 1) else a
    match q.known with
    | none => a1
    | some k =>
      if a.c.liveState p = 1 ∧ k < s - usT 500 then
        let g := match q.granted with | some t => if s < t + msT 2 then t else k | none => k
        let a2 := a1.onC (fun c => (c.setLive p 2).setPeer p { q with revoke := a.declares p && c.paired, g := some g })
        if a.declares p && !isParentPort p then a2.notice 1 p s else a2
      else a1) x

/-! ## Fences (R439, R440, R447) -/

/-- A Vangeg fences with a cause: 2 its lease lapsed, 3 by command. A part fences once (R447). -/
def Vangeg.fence (cause : Nat) (v : Vangeg) : Vangeg :=
  if 2 ≤ v.c.reg 0x7001 2 then v
  else v.onC (fun c => (c.setReg 0x7001 2 cause).baseline 38)

/-- A Shopostra fences: it ceases to be an active parent and takes no decision. -/
def Shopostra.fence (cause : Nat) (x : Shopostra) : Shopostra :=
  if 2 ≤ x.c.reg 0x7001 2 then x
  else
    { x with c := x.c.setReg 0x7001 2 cause, fleet := { x.fleet with active := false, actingApex := false } }

/-- Whether the lease has run out. -/
def Common.lapsed (c : Common kd) : Bool := match c.live.lease with | some e => decide (e ≤ c.now) | none => false

/-- The lease's expiry arrives. -/
def Common.leaseEnd (c : Common kd) : Common kd := match c.live.lease with | some e => c.arrive e | none => c

/-- LEASE_EXPIRY (R439). -/
def execLeaseExpiry (p : Part) (s : State) : Res :=
  onPart p (fun v => let v1 := v.onC Common.leaseEnd; if v1.c.lapsed then v1.fence 2 else v1)
    (fun x => let x1 := x.onC Common.leaseEnd; if x1.c.lapsed then x1.fence 2 else x1) s

/-- LEASE_PARITY_ERROR (R460): the die fences at once. -/
def execLeaseParityError (s : State) : Res := onV (Vangeg.fence 2) s

/-- Whether a part leaves the fence it holds from cold reset at a board-cycle start (R440). -/
def Common.mayUnfence (c : Common kd) : Bool :=
  !c.isSpare && decide (c.reg 0x7001 2 = 1) && decide (c.tempoState = 2) &&
    (match c.live.lease with | some e => decide (c.now + msT 1 ≤ e) | none => false)

/-- R440 at a Vangeg. -/
def Vangeg.unfence (v : Vangeg) : Vangeg :=
  if v.c.mayUnfence then v.onC (fun c => c.setReg 0x7001 2 0) else v

/-- R440 at a Shopostra. -/
def Shopostra.unfence (x : Shopostra) : Shopostra := if x.c.mayUnfence then x.onC (fun c => c.setReg 0x7001 2 0) else x

/-- A grant: GRANT_FOR + 2 ms extends the lease when later; each extension counts in baseline counter 37 (R437). -/
def Common.extendLease (c : Common kd) (e : Ticks) : Common kd :=
  if after (some e) c.live.lease then (c.onLive (fun l => { l with lease := some e })).baseline 37 else c

/-! ## Heartbeats as sent (R432, R434, R437, R438) -/

/-- The 240 bytes of a heartbeat: `tail` is bytes 32 to 235. -/
def Common.heartbeatBytes (c : Common kd) (p flags peerEpoch : Nat) (grantFor : Option Ticks) (tail : List Nat) : List Nat :=
  [0x50, flags] ++ bytesLE 2 (cycleNo c.now) ++ bytesLE 4 (c.peer p).sent ++ bytesLE 6 (c.stamp c.now) ++ [0, 0] ++
    bytesLE 6 (match grantFor with | some t => c.stamp t | none => 0) ++ [0, 0] ++ bytesLE 4 (c.reg 0x7001 3) ++
    bytesLE 4 peerEpoch ++ tail

/-- Sends a heartbeat or parent-revoke record: charged to nothing, never relayed (R432, R626). -/
def Common.sendHeartbeat (c : Common kd) (p type : Nat) (b : List Nat) : Common kd :=
  c.send (.record (.port p) type (b.drop 1))

/-- Whether this member grants its children (R438). -/
def Shopostra.granting (x : Shopostra) : Bool :=
  !x.c.paired || x.c.leased || (match x.c.live.partnerHb with | some t => decide (x.c.now < t + msT 2) | none => false)

/-- Whether this member grants the part on a port (R437). -/
def Shopostra.grants (x : Shopostra) (p : Nat) : Bool :=
  let q := x.c.peer p
  x.judges p && decide (x.c.liveState p < 3) && !q.revoked && !q.commanded && x.granting && q.own.isSome

/-- Bit c of a mask over the 32 children. -/
def Shopostra.childMask (x : Shopostra) (f : Peer → Bool) : Nat :=
  ((List.range 32).map (fun i => if f (x.c.peer (childPort i)) then 2 ^ i else 0)).sum

/-- SEEN (R442): a heartbeat of a revoked part later than the last one granted has arrived. -/
def Peer.seen (q : Peer) : Bool := q.revoked && after q.own q.granted

/-- The stamp that CHILD_LAST or LAST_A carries: the last granted of a revoked part, else the latest held. -/
def Peer.last (c : Common kd) (q : Peer) : Nat :=
  match (if q.revoked then q.granted else q.own) with
  | some t => c.stamp t
  | none => 0

/-- Bytes 32 to 235 on a partner port (Table 13-1). -/
def Shopostra.partnerBytes (x : Shopostra) : List Nat :=
  bytesLE 4 (x.childMask (fun q => q.revoke)) ++ bytesLE 4 (x.childMask (fun q => q.revoked)) ++
    (List.range 32).flatMap (fun i => bytesLE 6 ((x.c.peer (childPort i)).last x.c)) ++ bytesLE 4 (x.childMask Peer.seen)

/-- The reset epoch held for the receiver: the kept count for a die, else the epoch of its heartbeats. -/
def Shopostra.epochFor (x : Shopostra) (p : Nat) : Nat :=
  if x.c.reg 0x1012 0 = 0 ∧ (childIndex p).isSome then
    (match x.dieEntry (lookupD (0, false) x.mgt.portDie p).1 with | some d => d.2.1 | none => (x.c.peer p).epoch.getD 0)
  else (x.c.peer p).epoch.getD 0

/-- Whether a running rehearsal names the neighbour on a port. -/
def Common.rehearses (c : Common kd) (p : Nat) : Bool :=
  c.live.rehearsing.any (fun r => decide (r.1 = (c.peer p).logical ∧ c.now < r.2))

/-- A Shopostra's heartbeat on one port; a zone member adds the parent-revoke record on its partner ports (R626). None
goes to a partner that has been declared DEAD (R444). -/
def Shopostra.heartbeat (x : Shopostra) (p : Nat) : Shopostra :=
  let c := x.c
  if !c.portUp p || (isPartnerPort p && c.live.partnerDead.isSome) then x
  else
    let q := c.peer p
    let grant := x.grants p
    let zone := decide (c.reg 0x1012 0 = 2)
    let lapse := fun k => zone && isParentPort p && x.fleet.active && (c.peer k).lapsed
    let flags := b2n c.isFenced + 2 * b2n grant + 4 * b2n x.fleet.active + 8 * b2n q.commanded + 16 * b2n (lapse 8) +
      32 * b2n (lapse 20) + 64 * b2n (c.rehearses p)
    let tail := if isPartnerPort p then x.partnerBytes else List.replicate 204 0
    let c1 := (c.sendHeartbeat p 0x50 (c.heartbeatBytes p flags (x.epochFor p) q.own tail)).setPeer p
      { q with sent := (q.sent + 1) % 2 ^ 32, granted := if grant then later q.granted q.own else q.granted }
    let a := c.peer 8
    let b := c.peer 20
    let rec_ := [0x53, b2n a.revoke + 2 * b2n b.revoke + 4 * b2n a.revoked + 8 * b2n b.revoked + 16 * b2n a.seen + 32 * b2n b.seen] ++
      List.replicate 6 0 ++ bytesLE 6 (a.last c) ++ [0, 0] ++ bytesLE 6 (b.last c) ++ List.replicate 214 0
    { x with c := if zone && isPartnerPort p then c1.sendHeartbeat p 0x53 rec_ else c1 }

/-- A Shopostra's heartbeats of a board cycle. -/
def Shopostra.heartbeats (x : Shopostra) : Shopostra := (List.range x.c.portCount).foldl Shopostra.heartbeat x

/-- A Vangeg's heartbeats of a board cycle: it judges no part and grants nothing. -/
def Vangeg.heartbeats (v : Vangeg) : Vangeg :=
  v.onC (fun c => (List.range c.portCount).foldl (fun (a : Common _) p =>
    if a.portUp p then
      let q := a.peer p
      (a.sendHeartbeat p 0x50 (a.heartbeatBytes p (b2n a.isFenced) (q.epoch.getD 0) q.own (List.replicate 204 0))).setPeer p
        { q with sent := (q.sent + 1) % 2 ^ 32 }
    else a) c)

/-! ## Heartbeats as received -/

/-- The allowance of two heartbeats per port and board cycle (R432). -/
def Common.hbAllow (c : Common kd) (p : Nat) : Common kd × Bool :=
  let q := c.port p
  if 2 ≤ q.heartbeats then (c.violation p 0 0x0606, false)
  else (c.setPort p { q with heartbeats := q.heartbeats + 1 }, true)

/-- A stamp field: none when it is zero. -/
def Common.stampIn (c : Common kd) (s : Nat) : Option Ticks := if s = 0 then none else some (c.extend s)

/-- The active tray counts a die's reset (R502): a new count by serial, sent with a record of TYPE 0x72. -/
def Shopostra.countDie (x : Shopostra) (p : Nat) : Shopostra × Nat :=
  let serial := (lookupD (0, false) x.mgt.portDie p).1
  let now := totalNs x.c.mode x.c.epoch x.c.now
  let d : DieEntry := match x.dieEntry serial with
    | some d => (serial, (d.2.1 + 1) % 2 ^ 32, d.2.2.1, now, d.2.2.2.2)
    | none => (serial, 1, 0, now, true)
  let x1 := if x.fleet.active then (x.putDie d).writeJournal else x
  let n := match x1.dieEntry serial with | some d => d.2.1 | none => 0
  let h := match x1.dieEntry serial with | some d => d.2.2.1 | none => 0
  ({ x1 with mgt := { x1.mgt with portDie := putKey x1.mgt.portDie p (serial, true) }, c := x1.c.control (.port p) 0x72 (bytesLE 4 n ++ bytesLE 4 h) }, n)

/-- The reset epoch of a heartbeat (R448, R455): whether it shows a cold reset, and the epoch now held. -/
def Shopostra.hbEpoch (x : Shopostra) (p e : Nat) : Shopostra × Bool :=
  let q := x.c.peer p
  let hold := fun (y : Shopostra) n => y.onC (fun c =>
    let c1 := c.setPeer p { c.peer p with epoch := some n }
    if q.epoch.isSome ∧ q.epoch ≠ some n then c1.abortNeighbour p else c1)
  let changed := decide (q.epoch.isSome ∧ q.epoch ≠ some e)
  if x.c.reg 0x1012 0 = 0 ∧ (childIndex p).isSome then
    let d := lookupD (0, false) x.mgt.portDie p
    if e = 0 then
      (if d.2 then (x, false)
       else
         let r := x.countDie p
         (hold r.1 r.2, q.epoch.isSome))
    else
      let known := x.dieEntry d.1
      let x1 := match known with
        | some k => x.putDie (k.1, k.2.1, k.2.2.1, totalNs x.c.mode x.c.epoch x.c.now, k.2.2.2.2)
        | none => x.putDie (d.1, e, 0, totalNs x.c.mode x.c.epoch x.c.now, true)
      (hold { x1 with mgt := { x1.mgt with portDie := putKey x1.mgt.portDie p (d.1, false) } } e, changed)
  else (hold x e, changed)

/-- The state of the part on a port as its heartbeat leaves it (Table 13-3, R448). -/
def Shopostra.hbState (x : Shopostra) (p source : Nat) (flags : Nat) (reset : Bool) (t : Ticks) : Shopostra :=
  let q := x.c.peer p
  let down := decide (3 ≤ x.c.liveState p)
  let note := fun (y : Shopostra) (r : Peer) => y.onC (fun c => c.setPeer p
    { r with fenced := bitOf flags 0, active := bitOf flags 2, logical := source })
  if reset then
    let x1 := if !down && x.declares p && !isParentPort p then x.declarePart p 4 x.c.now else x
    note (x1.onC (fun c => c.setLive p 0)) { peerNew with epoch := q.epoch, sent := q.sent, own := some t, known := some t, revoked := q.revoked }
  else
    let report := bitOf flags 0 && !q.fenced && q.own.isSome && decide (source ≠ 0xFFFFFFFF)
    let ordered := bitOf flags 0 && q.commanded
    let x1 := (x.onC (fun c => c.setPeer p { q with own := later q.own (some t) })).heard p t
    let x2 := if x1.c.liveState p = 0 then x1.onC (fun c => c.setLive p 1) else x1
    let x3 := note x2 (x2.c.peer p)
    if !down && x3.declares p && !isParentPort p && (report || ordered) then
      x3.declarePart p (if q.commanded then 4 else 3) x3.c.now
    else x3

/-- One part's fields of a partner's heartbeat (R442). -/
def Shopostra.hbPartnerOne (x : Shopostra) (p : Nat) (t : Ticks) (revoke revoked seen : Bool) (last : Nat) : Shopostra :=
  let q := x.c.peer p
  let l := x.c.stampIn last
  let bridge := (q.bridge || seen) && revoked
  let x1 := x.onC (fun c => c.setPeer p { q with revoked := revoke, pRevoked := revoked, pSeen := seen, pLast := l, bridge := bridge })
  let x2 := match l with | some k => x1.heard p k | none => x1
  if bridge then x2.heard p (t - cycleT) else x2

/-- The partner's fields of a heartbeat (R442, R444): its bits and stamps for each child. -/
def Shopostra.hbPartner (x : Shopostra) (b : List Nat) (t : Ticks) (epochChanged : Bool) : Shopostra :=
  let x1 := x.onC (fun c => c.onLive (fun l => { l with
    partnerHb := later l.partnerHb (some t), partnerDead := if epochChanged then none else l.partnerDead }))
  let x2 := (List.range 32).foldl (fun (a : Shopostra) i =>
    a.hbPartnerOne (childPort i) t (bitOf (leAt b 32 4) i) (bitOf (leAt b 36 4) i) (bitOf (leAt b 232 4) i) (leAt b (40 + 6 * i) 6)) x1
  x2.retryBlocked

/-- The bound zone positions (R436). -/
def Shopostra.zones (x : Shopostra) : List Nat := (x.fleet.map.filter (fun e => decide (tierOf e.1 = 3))).map Prod.fst

/-- An apex member holds its lease while grants from more than half of the bound zone positions hold (R445). -/
def Shopostra.apexLease (x : Shopostra) : Shopostra :=
  let es := (x.zones.filterMap (fun z => (x.c.live.zoneGrants.find? (fun g => decide (g.1 = z))).map Prod.snd)).mergeSort (fun a b => decide (b ≤ a))
  match es[x.zones.length / 2]? with
  | some e => x.onC (fun c => c.extendLease e)
  | none => x

/-- A zone member's heartbeat at an apex member: its grant, and the LAPSED bits of an active one (R445). -/
def Shopostra.hbZone (x : Shopostra) (source flags : Nat) (grant : Option Ticks) : Shopostra :=
  let x1 := match grant with
    | some t => (x.onC (fun c => c.onLive (fun l => { l with
        zoneGrants := putKey l.zoneGrants source (max (t + msT 2) (lookupD 0 l.zoneGrants source)) }))).apexLease
    | none => x
  if !bitOf flags 2 then x1
  else
    let x2 := x1.onC (fun c => c.onLive (fun l => { l with lapses := putKey l.lapses source (bitOf flags 4, bitOf flags 5) }))
    let other := fun (e : Bool × Bool) => if x.c.reg 0x1013 0 = 1 then e.1 else e.2
    let votes := (x2.zones.filter (fun z => other (lookupD (false, false) x2.c.live.lapses z))).length
    let pp := x2.c.partnerPort
    if x2.zones.length < 2 * votes ∧ x2.c.liveState pp < 3 ∧ !x2.c.isFenced then
      let x3 := (x2.declarePart pp 3 x2.c.now).partnerIsDead
      x3.onC (fun c => c.onLive (fun l => { l with takeover := !x3.fleet.actingApex }))
    else x2

/-- A heartbeat at a Shopostra (R435, R437, R442, R447, R448). -/
def Shopostra.hbRx (port source : Nat) (b : List Nat) (x : Shopostra) : Shopostra :=
  if !x.c.portUp port then x
  else
    let r := x.c.hbAllow port
    let x0 := { x with c := r.1 }
    if !r.2 then x0
    else
      let flags := nth 0 b 1
      let t := x.c.extend (leAt b 8 6)
      let e := x0.hbEpoch port (leAt b 24 4)
      let x1 := e.1.hbState port source flags e.2 t
      let grant := if bitOf flags 1 then x.c.stampIn (leAt b 16 6) else none
      if isPartnerPort port then x1.hbPartner b t e.2
      else if isParentPort port ∧ x.c.reg 0x1012 0 < 3 then
        let x2 := match grant with | some g => x1.onC (fun c => c.extendLease (g + msT 2)) | none => x1
        if bitOf flags 3 then x2.fence 3 else x2
      else if x.c.reg 0x1012 0 = 3 ∧ (childIndex port).isSome then x1.hbZone source flags grant
      else x1

/-- A heartbeat at a Vangeg (R437, R447, R454). -/
def Vangeg.hbRx (port source : Nat) (b : List Nat) (v : Vangeg) : Vangeg :=
  if !v.c.portUp port then v
  else
    let r := v.c.hbAllow port
    let v0 := { v with c := r.1 }
    if !r.2 then v0
    else
      let flags := nth 0 b 1
      let t := v.c.extend (leAt b 8 6)
      let v1 := v0.onC (fun c =>
        let q := c.peer port
        let c1 := (c.setPeer port { q with
          known := later q.known (some t), own := later q.own (some t), epoch := some (leAt b 24 4), fenced := bitOf flags 0,
          active := bitOf flags 2, logical := source }).setReg 0x7001 3 (max (c.reg 0x7001 3) (leAt b 28 4))
        let c2 := if q.epoch.isSome ∧ q.epoch ≠ some (leAt b 24 4) then c1.setLive port 0
          else if c1.liveState port < 3 then c1.setLive port 1 else c1
        match (if bitOf flags 1 then c2.stampIn (leAt b 16 6) else none) with
        | some g => c2.extendLease (g + msT 2)
        | none => c2)
      if bitOf flags 3 then v1.fence 3 else v1

/-- A Vangeg's view of its tray at a board-cycle start (R435). -/
def Vangeg.suspectCheck (v : Vangeg) : Vangeg :=
  v.onC (fun c => c.live.peers.foldl (fun (a : Common _) e =>
    let q := a.peer e.1
    let a1 := if (a.liveState e.1 = 1 ∨ a.liveState e.1 = 2) ∧ !after q.own (some (a.now - cycleT - 1)) then a.bump 0x7004 1 else a
    match q.known with
    | some k => if a.liveState e.1 = 1 ∧ k < a.now - usT 500 then a1.setLive e.1 2 else a1
    | none => a1) c)

/-- HEARTBEAT_RX (R437): a valid heartbeat (Table 13-1) and the SOURCE of its frame. -/
def execHeartbeatRx (p : Part) (port source : Nat) (bytes : List Nat) (s : State) : Res :=
  onPart p (Vangeg.hbRx port source bytes) (Shopostra.hbRx port source bytes) s

/-- PARENT_REVOKE_RX (R626): between zone partners, for the apex members on parent ports A and B. -/
def execParentRevokeRx (port : Nat) (bytes : List Nat) (s : State) : Res :=
  onX (fun x =>
    if x.c.reg 0x1012 0 ≠ 2 ∨ !isPartnerPort port ∨ !x.c.portUp port then x
    else
      let r := x.c.hbAllow port
      let x0 := { x with c := r.1 }
      if !r.2 then x0
      else
        let f := nth 0 bytes 1
        let t := ((x.c.peer port).own).getD x.c.now
        ((x0.hbPartnerOne 8 t (bitOf f 0) (bitOf f 2) (bitOf f 4) (leAt bytes 8 6)).hbPartnerOne 20 t (bitOf f 1) (bitOf f 3) (bitOf f 5)
          (leAt bytes 16 6)).retryBlocked) s

/-! ## Fencing by command (R447) -/

/-- The logical address of the apex position. -/
def Shopostra.apexAddress (x : Shopostra) (l : Nat) : Bool := decide (tierOf l = 4) || decide (l = x.c.logical)

/-- A write of T*. -/
def ruleFenceCmd (v : Nat) (x : Shopostra) : Shopostra × Option Abort :=
  let l := x.c.reg 0x7005 1
  let t := x.c.timeOf v
  if !isCycleStart t ∨ t < x.c.now + msT 1 ∨ (x.holder l).isNone ∨ x.apexAddress l then
    (x.onC (fun c => c.setReg 0x7005 3 4), some .value)
  else if !x.fleet.actingApex then (x, some .state)
  else if x.c.nearSwitch t then (x.onC (fun c => c.setReg 0x7005 3 4), some .state)
  else
    let x1 := x.onC (fun c => c.setReg 0x7005 2 (storedForm .time v))
    if x.c.live.down.any (fun d => decide (d.1 = l)) then (x1.onC (fun c => c.setReg 0x7005 3 3), none)
    else
      (x1.onC (fun c =>
        let c1 := (c.setReg 0x7005 3 1).onLive (fun n => { n with commands := putKey n.commands l t })
        match c.childOf l with
        | some _ => c1.message .partner "FENCE_COMMAND" [l, t]
        | none => c1.message (.die l) "FENCE_COMMAND" [l, t]), none)

/-- LIVE_FENCE_CMD (R447). -/
def execLiveFenceCmd (r : Req) (v : Nat) (s : State) : Res := onX (fun x => x.ruled r 0x7005 2 v (ruleFenceCmd v)) s

/-- FENCE_COMMAND_INSTANT (R447): from T* a judging member sets FENCE_NOW and stops granting the part. -/
def execFenceCommandInstant (l at_ : Nat) (s : State) : Res :=
  onX (fun x => x.onC (fun c =>
    let c1 := c.arrive at_
    match c1.childOf l with
    | none => c1
    | some p => if 3 ≤ c1.liveState p then c1 else c1.setPeer p { c1.peer p with commanded := true })) s

/-! ## Notices as received (R452, R453) -/

/-- A notice at a Shopostra: one from below goes up, and at the apex down to member dies; one from above goes down. A
notice of its partner's death starts R444; a notice about a neighbour it does not judge shows in LIVE_STATE. -/
def Shopostra.noticeRx (down : Bool) (b : List Nat) (x : Shopostra) : Shopostra :=
  let kind := nth 0 b 1
  let phys := leAt b 8 4
  let near := (List.range 48).filter (fun p => !x.declares p && decide (x.c.reg 0x1312 (p + 1) = phys ∧ phys ≠ 0))
  let x1 := if kind = 3 ∨ kind = 4 then near.foldl (fun (a : Shopostra) p => a.onC (fun c => c.setLive p kind)) x else x
  let x2 := if kind = 3 ∧ near.any isPartnerPort ∧ x1.c.live.partnerDead.isNone then x1.partnerIsDead else x1
  if down then x2.onC (fun c => (c.noticePorts (leAt b 4 4) false).foldl (fun a p => a.control (.port p) 0x51 (b.drop 1)) c)
  else if x2.fleet.actingApex then x2.apexNotice b
  else x2.onC (fun c => c.control c.upward 0x51 (b.drop 1))

/-- A notice at a Vangeg: kept, and one interrupt for the slice in LIVE_NOTICE_SLICE, under the DUMP class. -/
def Vangeg.noticeRx (b : List Nat) (v : Vangeg) : Vangeg :=
  let kind := nth 0 b 1
  let near := (List.range v.c.portCount).filter (fun p => decide (v.c.reg 0x1312 (p + 1) = leAt b 8 4))
  (v.onC (fun c =>
    let c1 := c.onLive (fun l => { l with notices := (b :: l.notices).take 32 })
    if kind = 3 ∨ kind = 4 then near.foldl (fun a p => a.setLive p kind) c1 else c1)).interruptAs 1 (v.c.reg 0x7021 0)

/-- LIVENESS_NOTICE_RX (R452): `down` says that the notice comes from above. -/
def execLivenessNoticeRx (p : Part) (down : Bool) (bytes : List Nat) (s : State) : Res :=
  onPart p (Vangeg.noticeRx bytes) (Shopostra.noticeRx down bytes) s

/-- A detector notice of code 0x40 to 0x7F (R453): its argument names the subject. -/
def Shopostra.detNotice (code arg session : Nat) (x : Shopostra) : Shopostra :=
  let c := x.c
  let bound := (c.childOf arg).isSome || c.bindings.any (fun b => decide (arg ∈ b.2))
  let gone := c.live.down.any (fun d => decide (d.1 = arg)) || (match c.childOf arg with | some p => decide (3 ≤ c.liveState p) | none => false)
  let recent := match c.live.detSent.find? (fun d => decide (d.1 = (arg, code))) with
    | some d => decide (c.now < d.2 + 8 * cycleT)
    | none => false
  if !bound || gone || recent then x.onC (fun c => c.bump 0x7004 6)
  else
    let last := match c.childOf arg with | some p => ((c.peer p).known.map c.stamp).getD 0 | none => 0
    let phys := match c.childOf arg with | some p => c.reg 0x1312 (p + 1) | none => 0xFFFFFFFF
    let b := noticeBytes c (if code = 0x40 then 6 else 7) false code arg phys c.now last session arg 0
    let x1 := x.onC (fun c => ((c.onLive (fun l => { l with detSent := putKey l.detSent (arg, code) c.now })).createRecord 1 0x02 b).control
      (.die arg) 0x51 (b.drop 1))
    if x1.fleet.actingApex then x1 else x1.onC (fun c => c.control c.upward 0x51 (b.drop 1))

/-! ## Rehearsals (R456 to R458) -/

/-- A write of the start instant of a rehearsal. -/
def ruleGambit (v : Nat) (x : Shopostra) : Shopostra × Option Abort :=
  let c := x.c
  let t := c.timeOf v
  let l := c.reg 0x7030 2
  let ends := fun (g : Gambit) => g.start + (g.reps - 1) * secT g.period + g.dur * cycleT
  let refuse := fun a => (x.onC (fun c => c.setReg 0x7030 8 4), some a)
  if !isCycleStart t ∨ t < c.now + msT 4 ∨ (x.holder l).isNone ∨ c.reg 0x7030 1 = 0 ∨ c.reg 0x7030 3 = 0 then refuse .value
  else if c.nearSwitch t then refuse .state
  else if c.live.gambits.any (fun g => decide (g.target = l ∧ (g.reps = 0 ∨ c.now < ends g))) then refuse .state
  else
    let g : Gambit :=
      { kind := c.reg 0x7030 1, target := l, tag := c.reg 0x7030 3, dur := c.reg 0x7030 4, period := c.reg 0x7030 5,
        reps := c.reg 0x7030 6, start := t, runs := 0 }
    (x.onC (fun c => ((c.setReg 0x7030 7 (storedForm .time v)).setReg 0x7030 8 1).onLive (fun n => { n with gambits := n.gambits ++ [g] })), none)

/-- LIVE_GAMBIT (R456). -/
def execLiveGambit (r : Req) (v : Nat) (s : State) : Res := onX (fun x => x.ruled r 0x7030 7 v (ruleGambit v)) s

/-- A rehearsal record: a 16-byte header and the synthetic record (R457). -/
def rehearsalBytes (c : Common kd) (kind tag rep : Nat) (start : Ticks) (b : List Nat) : List Nat :=
  [0x5F, kind] ++ bytesLE 2 tag ++ bytesLE 4 rep ++ bytesLE 6 (c.stamp start) ++ [0, 0] ++ b

/-- Sends a rehearsal record on ports: a unit of the REHEARSAL class (R458). -/
def Common.rehearse (c : Common kd) (ports : List Nat) (b : List Nat) : Common kd :=
  ports.foldl (fun a p => (a.submit (linkUnit 7 p 1 2 false [.record (.port p) 0x5F (b.drop 1)])).1) c

/-- Passes a rehearsal record on: up toward the apex, and from the apex down to the member dies. A verdict record goes
down the ports of its session. -/
def Shopostra.routeRehearsal (x : Shopostra) (b : List Nat) : Shopostra :=
  if x.fleet.actingApex then x.onC (fun c => c.rehearse (c.noticePorts (leAt b 20 4) true) b)
  else x.onC (fun c => c.rehearse (c.destPorts c.upward) b)

/-- One notice of the shadow of Table 13-3. -/
def Shopostra.shadow (x : Shopostra) (kind gk target tag rep p : Nat) (start t : Ticks) : Shopostra :=
  let n := noticeBytes x.c kind true 0 target (x.c.reg 0x1312 (p + 1)) t (x.c.stamp (start - cycleT)) 0 0 tag
  let b := rehearsalBytes x.c gk tag rep start n
  (x.onC (fun c => c.createRecord 0 0x07 b)).routeRehearsal b

/-- The shadow of a loss of `dur` heartbeats from the start (R457): SUSPECT after 4 missed, DEAD at 2.5 ms after the last
heartbeat, ALIVE when they return before. -/
def Shopostra.shadowRun (x : Shopostra) (gk target tag dur rep p : Nat) (start : Ticks) : Shopostra :=
  if dur < 4 then x
  else
    let x1 := x.shadow 1 gk target tag rep p start (start + usT 500)
    if 19 ≤ dur then x1.shadow 3 gk target tag rep p start (start + usT 2375)
    else x1.shadow 2 gk target tag rep p start (start + dur * cycleT)

/-- A false verdict (R457): a FAILED record of cause 4 for the next epoch of each job of an ACTIVE session that includes
the target; no verdict state changes. -/
def Shopostra.falseVerdict (x : Shopostra) (gk target tag rep : Nat) (start : Ticks) : Shopostra :=
  (x.ver.jobs.filter (fun j => x.c.isMember j.session target && (match x.c.sessionSlot j.session with
    | some k => decide (x.c.sessionState k = 3)
    | none => false))).foldl (fun (a : Shopostra) j =>
    let e := j.next
    let v := [0x38, 1, 4, 0xFF] ++ bytesLE 4 e ++ bytesLE 4 e ++ bytesLE 2 j.job ++ [0, 1] ++ bytesLE 4 j.session ++
      bytesLE 6 (a.c.stamp a.c.now) ++ [0, 0] ++ bytesLE 4 1 ++ bytesLE 4 e ++ bytesLE 4 target ++ List.replicate 60 0
    let b := rehearsalBytes a.c gk tag rep start v
    let ports := a.verdictPorts j.session
    a.onC (fun c => (c.createRecord 0 0x07 b).rehearse ports b)) x

/-- One run of a rehearsal (R456, R457). -/
def Shopostra.gambitRun (kind target tag dur rep start : Nat) (x : Shopostra) : Shopostra :=
  let x1 := x.onC (fun c =>
    let c1 := (c.arrive start).onLive (fun l => { l with rehearsing := putKey l.rehearsing target (start + dur * cycleT) })
    match c1.live.gambits.find? (fun g => decide (g.tag = tag ∧ g.target = target)) with
    | none => c1
    | some g =>
      let n := g.runs + 1
      let last := decide (g.reps ≠ 0 ∧ g.reps ≤ n)
      (c1.onLive (fun l => { l with gambits := l.gambits.map (fun k => if k.tag = tag ∧ k.target = target then { k with runs := n } else k) })).setReg
        0x7030 8 (if last then 3 else 2))
  if kind = 2 then x1.falseVerdict kind target tag rep start
  else match x1.c.childOf target with
    | some p => if x1.declares p then x1.shadowRun kind target tag dur rep p start else x1
    | none => x1

/-- GAMBIT_RUN (R457). -/
def execGambitRun (kind target tag dur rep start : Nat) (s : State) : Res :=
  onX (Shopostra.gambitRun kind target tag dur rep start) s

/-- A rehearsal record at a Vangeg (R457, R458): withheld for a CRITICAL slice without GAMBIT_OPT_IN. -/
def Vangeg.rehearsalRx (b : List Nat) (v : Vangeg) : Vangeg :=
  let slice := if nth 0 b 1 = 2 then
      (match v.c.jobEntry (leAt b 28 2) with | some j => v.c.reg (0x3630 + j) 2 | none => 0xFF)
    else v.c.reg 0x7021 0
  let attr := if slice = 0xFF then 0 else v.c.sliceAttr slice
  if bitOf attr 7 && !bitOf attr 6 then v.onC (fun c => c.bump 0x7004 7)
  else (v.onC (fun c => c.onLive (fun l => { l with rehearsals := b :: l.rehearsals }))).interruptAs 1 slice

/-- A rehearsal record at a Shopostra: passed on toward the apex, or down. -/
def Shopostra.rehearsalRx (down : Bool) (b : List Nat) (x : Shopostra) : Shopostra :=
  if nth 0 b 1 = 2 then x.onC (fun c => c.rehearse (x.verdictPorts (leAt b 32 4)) b)
  else if down then x.onC (fun c => c.rehearse (c.noticePorts (leAt b 20 4) false) b)
  else x.routeRehearsal b

/-- REHEARSAL_RECORD_RX (R458): `down` says that the record comes from above. -/
def execRehearsalRecordRx (p : Part) (down : Bool) (bytes : List Nat) (s : State) : Res :=
  onPart p (Vangeg.rehearsalRx bytes) (Shopostra.rehearsalRx down bytes) s

/-! ## Faults (R460) -/

/-- LIVENESS_STATE_PARITY (R460): the last known heartbeat is the partner's, or the error instant, and declaration waits
2.5 ms. -/
def execLivenessStateParity (port : Nat) (s : State) : Res :=
  onX (fun x => x.onC (fun c =>
    let q := c.peer port
    let k := if c.paired then later q.pLast none else some c.now
    (c.setPeer port { q with known := k, holdUntil := some (c.now + usT 2500) }).reportUnstated port)) s

/-! ## Castle at T* (R44, R45, R452) -/

/-- The apex sends the CASTLED notice: LAST_HB is that of X. -/
def Shopostra.castled (l : Nat) (x : Shopostra) : Shopostra :=
  if !x.fleet.actingApex then x
  else
    let last := match x.c.live.down.find? (fun d => decide (d.1 = l)) with | some d => d.2.2 | none => 0
    let phys := match x.holder l with | some h => h.1 | none => 0xFFFFFFFF
    let b := noticeBytes x.c 8 false 0 l phys x.c.now last 0 0 0
    (x.onC (fun c => (c.createRecord 1 0x02 b).onLive (fun n => { n with down := n.down.filter (fun d => decide (d.1 ≠ l)) }))).apexNotice b

/-- CASTLE_INSTANT (R44): at a Shopostra, `port` leads to S; a Vangeg that is S begins sending under L. -/
def execCastleInstant (p : Part) (l port : Nat) (s : State) : Res :=
  onPart p (fun v => if v.c.isSpare then v.onC (fun c => c.setReg 0x1011 0 l) else v)
    (fun x => if x.fleet.castles.any (fun k => decide (k.l = l)) then (x.castleInstant l port).castled l else x) s

end Sys2Proof.Machine
end

