-- ==== Sys2Proof/Machine/Flag.lean ====
section
/-! DEFINITION. Flag triggers, snapshots, and stop and resume (14_flag_and_cut.md). -/

namespace Sys2Proof.Machine

variable {kd : Part}

/-- A change of the flag unit; FLAG_PENDING shows how many triggers are held. -/
def Common.onFlag (c : Common kd) (f : FlagUnit → FlagUnit) : Common kd :=
  let c1 : Common kd := { c with flag := f c.flag }
  if c1.flag.held.length = c.flag.held.length then c1 else c1.setReg 0x3404 0 c1.flag.held.length

/-- A held trigger. -/
def Common.trigger (c : Common kd) (id : Nat) : Option Trigger := c.flag.held.find? (fun k => decide (k.id = id))

/-- FLAG_MIN_LEAD. -/
def minLead : Ticks := nsT 20000

/-! ## Symbols (R462 to R465) -/

/-- ARG of an instant: bits [25:2] of its total nanosecond count. -/
def Common.flagArg (c : Common kd) (t : Ticks) : Nat := totalNs c.mode c.epoch t / 4 % 2 ^ 24

/-- Sends a FLAG word on every usable lane of the ports listed (R237). -/
def Common.sendFlag (c : Common kd) (ports : List Nat) (kind hops id : Nat) (t : Ticks) : Common kd :=
  ports.foldl (fun a p => if a.portUp p then
      ((a.lanesOf p).filter (fun l => a.laneUsable p l)).foldl (fun b l =>
        b.send (.word (.lane p l) 0x4B (kind * 2 ^ 52 + hops * 2 ^ 48 + id * 2 ^ 32 + c.flagArg t * 2 ^ 8))) a
    else a) c

/-- Every child port of a Shopostra. -/
def childPorts : List Nat := (List.range 32).map childPort

/-- T* of a copy (R463): the first instant after now, a multiple of 4 ns, whose bits [25:2] are ARG. -/
def Common.extendArg (c : Common kd) (arg : Nat) : Ticks :=
  let n := totalNs c.mode c.epoch c.now
  let base := n / 2 ^ 26 * 2 ^ 26 + arg % 2 ^ 24 * 4
  let t := if n < base then base else base + 2 ^ 26
  (c.now / ns + (t - n)) * ns

/-- Holds a trigger. -/
def Common.holdTrigger (c : Common kd) (k : Trigger) : Common kd := c.onFlag (fun f => { f with held := f.held ++ [k] })

/-- Drops a trigger. -/
def Common.dropTrigger (c : Common kd) (id : Nat) : Common kd :=
  c.onFlag (fun f => { f with held := f.held.filter (fun k => decide (k.id ≠ id)) })

/-- A FLAG word on lane l of a port (R237, R462 to R467, Table 6-8). -/
def Common.flagWord (port lane kind hops id arg : Nat) (crcOk : Bool) (c : Common kd) : Common kd :=
  let q := c.port port
  let x := q.lane lane
  if !c.portUp port then c
  else if 200 ≤ x.flagWords then c.violation port lane 0x060A
  else
    let c0 := c.setPort port (q.setLane lane { x with flagWords := x.flagWords + 1 })
    let bad := c0.bump 0x3405 3
    let forward := fun (a : Common _) (t : Ticks) =>
      if a.kind = .shopostra ∧ (isParentPort port ∨ isPartnerPort port) then a.sendFlag childPorts kind (hops + 1) id t else a
    if !crcOk then c0.violation port lane 0x0609
    else if kind = 0 ∨ 4 < kind ∨ 8 ≤ hops then bad
    else
      let t := c0.extendArg arg
      if kind ≠ 4 ∧ c0.now + usT 1100 < t then (c0.bump 0x3405 2).reportCode 1 0x0E01 id
      else if kind = 4 then
        forward (match c0.trigger id with
          | some k => if k.t = t then c0.dropTrigger id else c0
          | none => c0) t
      else match c0.trigger id with
        | some k => if k.t = t then c0.bump 0x3405 1 else bad
        | none =>
          if 64 ≤ c0.flag.held.length then bad
          else forward (c0.holdTrigger { id := id, kind := kind, hops := hops, t := t }) t

/-- FLAG_WORD_RX (R464). -/
def execFlagWordRx (p : Part) (port lane kind hops id arg : Nat) (crcOk : Bool) (s : State) : Res :=
  onC p (Common.flagWord port lane kind hops id arg crcOk) s

/-! ## Submission (R466, R467, R480) -/

/-- The ports on which an origin sends. -/
def originPorts : List Nat := childPorts ++ [32, 44]

/-- Sends the symbol of a submission. -/
def Common.sendSymbol (c : Common kd) (k : Submission) : Common kd :=
  let c1 := (c.sendFlag originPorts k.kind 0 k.id k.t).onFlag (fun f => { f with
    subs := f.subs.map (fun q => if q.id = k.id ∧ q.kind = k.kind then { q with sent := true } else q) })
  if c.reg 0x3400 4 = k.id ∧ k.kind ≠ 4 then c1.setReg 0x3400 5 2 else c1

/-- The apex copies a trigger or a cancellation to its mirror (R480). -/
def Shopostra.copyTrigger (x : Shopostra) (id kind : Nat) (t : Ticks) : Shopostra :=
  if x.fleet.actingApex then x.onC (fun c => c.message .partner "TRIGGER_COPY" [id, kind, t]) else x

/-- The STOP in force at the apex members (FLAG_STOP_INFO). -/
def Common.stopInfo (c : Common kd) (v id : Nat) : Common kd := (c.setReg 0x3403 1 v).setReg 0x3403 2 id

/-- Whether a STOP is in force. -/
def Common.stopInForce (c : Common kd) : Bool := decide (c.reg 0x3403 1 ≠ 0)

/-- Symbols of this origin that fall due in the board cycle of an instant. -/
def Common.dueSymbols (c : Common kd) (t : Ticks) : Nat :=
  (c.flag.subs.filter (fun k => decide (cycleStart k.sendAt = cycleStart t))).length

/-- A CANCEL: a trigger whose symbol has not been sent is withdrawn, else the CANCEL goes out at once (R467). The symbol sent
and the CANCEL both stay in the count of R468. -/
def Shopostra.cancelTrigger (x : Shopostra) : Shopostra × Option Abort :=
  let c := x.c
  let id := c.reg 0x3400 2
  let refuse := fun (a : Abort) => (x.onC (fun c => c.setReg 0x3400 5 4), some a)
  match c.flag.subs.find? (fun k => decide (k.id = id ∧ k.kind ≠ 4)) with
  | none => refuse .value
  | some k =>
    if k.t < c.now + minLead then refuse .value
    else if k.sent ∧ 16 ≤ c.dueSymbols c.now then refuse .state
    else
      let cancel : Submission := { id := id, kind := 4, t := k.t, sendAt := c.now, sent := true }
      let rest := c.flag.subs.filter (fun q => decide (q.id ≠ id))
      let x1 := (x.copyTrigger id 4 k.t).onC (fun c =>
        let c1 := ((c.dropTrigger id).onFlag (fun f => { f with
          subs := if k.sent then rest ++ [{ k with kind := 4 }, cancel] else rest })).setReg 0x3400 5 3
        if k.kind = 2 then c1.stopInfo 0 0 else c1)
      if k.sent then (x1.onC (fun c => c.sendSymbol cancel), none) else (x1, none)

/-- A write of T* of FLAG_TRIG. -/
def ruleTrig (v : Nat) (x : Shopostra) : Shopostra × Option Abort :=
  let c := x.c
  let kind := c.reg 0x3400 1
  let t := c.timeOf v
  let refuse := fun (a : Abort) => (x.onC (fun c => c.setReg 0x3400 5 4), some a)
  if kind = 0 ∨ 4 < kind then refuse .value
  else if kind = 4 then x.cancelTrigger
  else
    let ts := c.timeOf (c.reg 0x3403 1)
    let whole := decide (ts + secT 1 ≤ t ∧ (t - ts) % secT 1 = 0)
    let sendAt := max c.now (t - msT 1)
    if t % nsT 4 ≠ 0 ∨ t < c.now + minLead then refuse .value
    else if kind = 3 ∧ c.stopInForce ∧ !whole then refuse .value
    else if kind ≠ 1 ∧ !x.fleet.actingApex then refuse .state
    else if (kind = 3 ∧ !c.stopInForce) ∨ (kind = 2 ∧ c.stopInForce) then refuse .state
    else if x.fleet.actingApex && (c.nearSwitch t || c.nearSwitch sendAt) then refuse .state
    else if !x.fleet.active ∨ 16 ≤ c.dueSymbols sendAt then refuse .state
    else
      let id := min 3 c.depth * 2 ^ 13 + c.flag.seq % 2 ^ 13
      let k : Submission := { id := id, kind := kind, t := t, sendAt := sendAt, sent := false }
      let x1 := (x.copyTrigger id kind t).onC (fun c =>
        let c1 := c.onFlag (fun f => { f with seq := (f.seq + 1) % 2 ^ 13, subs := f.subs ++ [k] })
        let c2 := if c1.flag.held.length < 64 then c1.holdTrigger { id := id, kind := kind, hops := 0, t := t } else c1
        let c3 := ((c2.setReg 0x3400 3 (storedForm .time v)).setReg 0x3400 4 id).setReg 0x3400 5 1
        if kind = 2 then c3.stopInfo (storedForm .time v) id else c3)
      (if t ≤ c.now + msT 1 then x1.onC (fun c => c.sendSymbol k) else x1, none)

/-- A submission of a KIND: the write of T* while FLAG_TRIG holds that KIND. -/
def submitKind (kind : Nat) (r : Req) (v : Nat) (s : State) : Res :=
  onX (fun x => if x.c.reg 0x3400 1 = kind then x.ruled r 0x3400 3 v (ruleTrig v) else x) s

/-- FLAG_SNAPSHOT_SUBMIT (R466). -/
def execFlagSnapshotSubmit (r : Req) (v : Nat) (s : State) : Res := submitKind 1 r v s

/-- FLAG_STOP_SUBMIT (R466). -/
def execFlagStopSubmit (r : Req) (v : Nat) (s : State) : Res := submitKind 2 r v s

/-- FLAG_RESUME_SUBMIT (R466). -/
def execFlagResumeSubmit (r : Req) (v : Nat) (s : State) : Res := submitKind 3 r v s

/-- FLAG_CANCEL_SUBMIT (R467). -/
def execFlagCancelSubmit (r : Req) (v : Nat) (s : State) : Res := submitKind 4 r v s

/-- FLAG_SYMBOL_SEND (R466): T* - 1 ms arrives for a trigger whose symbol has not been sent. -/
def execFlagSymbolSend (id : Nat) (s : State) : Res :=
  onX (fun x => x.onC (fun c => match c.flag.subs.find? (fun k => decide (k.id = id) && !k.sent) with
    | none => c
    | some k => (c.arrive k.sendAt).sendSymbol k)) s

/-- TRIGGER_COPY_RX (R480): the mirror apex keeps what the apex copied; KIND 4 cancels. -/
def execTriggerCopyRx (id kind t : Nat) (s : State) : Res :=
  onX (fun x => if x.c.reg 0x1012 0 ≠ 3 ∨ x.fleet.actingApex then x
    else x.onC (fun c =>
      let others := c.flag.copied.filter (fun k => decide (k.id ≠ id))
      if kind = 4 then
        (let c1 := c.onFlag (fun f => { f with copied := others })
         if c.reg 0x3403 2 = id ∧ c.stopInForce then c1.stopInfo 0 0 else c1)
      else
        let c1 := c.onFlag (fun f => { f with copied := others ++ [{ id := id, kind := kind, hops := 0, t := t }], seq := (id + 1) % 2 ^ 13 })
        if kind = 2 then c1.stopInfo (storedForm .time (c.timeValue t)) id else c1)) s

/-- One copied trigger whose symbol the apex had not sent, at the member that takes over (R480). -/
def Common.resendCopy (c : Common kd) (k : Trigger) : Common kd :=
  let s : Submission := { id := k.id, kind := k.kind, t := k.t, sendAt := max c.now (k.t - msT 1), sent := false }
  if (c.trigger k.id).isSome ∨ k.t ≤ c.now then c
  else if k.t < c.now + minLead then c.setReg 0x3400 5 3
  else
    let c1 := (c.onFlag (fun f => { f with subs := f.subs ++ [s] })).holdTrigger k
    if k.t ≤ c.now + msT 1 then c1.sendSymbol s else c1

/-- MIRROR_APEX_TAKEOVER (R445, R480): at the board-cycle start after the declaration. -/
def execMirrorApexTakeover (s : State) : Res :=
  onX (fun x =>
    if !x.c.live.takeover then x
    else
      let x1 := x.onC (fun c => (c.arrive (cycleStart c.now + (if isCycleStart c.now then 0 else cycleT))).onLive
        (fun l => { l with takeover := false }))
      let x2 := { x1 with fleet := { x1.fleet with active := true, actingApex := true } }
      x2.onC (fun c => (c.flag.copied.foldl Common.resendCopy c).onFlag (fun f => { f with copied := [] }))) s

/-! ## The cut (R471 to R476) -/

/-- Counts of a lane, queue by queue, TIME last. -/
def laneCounts (l : List (Nat × Nat)) : List Nat := (List.range 9).map (fun q => lookupD 0 l q)

/-- Port section entries: SENT, RECEIVED and credits of each queue of each lane (Table 14-4, KIND 3). -/
def Common.portEntries (c : Common kd) : List (List Nat) :=
  (List.range c.portCount).flatMap (fun p => (c.lanesOf p).map (fun l =>
    let q := c.port p
    (List.range 9).flatMap (fun k => bytesLE 4 (lookupD 0 (q.lane l).sent k) ++ bytesLE 4 (lookupD 0 (q.lane l).received k) ++
      bytesLE 2 (if k = 8 then 0 else q.credits k) ++ List.replicate 6 0)))

/-- The 16-byte header of a frame (Table 6-3). -/
def frameHeader (f : Frame) : List Nat :=
  let b := [f.cls % 4 + 4 * (f.queue % 8) + 32 * b2n f.first + 64 * b2n f.last] ++
    (match f.credit with | some k => [k.1 % 8 + 8] ++ bytesLE 2 k.2 | none => [0, 0, 0]) ++ bytesLE 2 f.stream ++ [f.len, f.epoch] ++
    bytesLE 4 f.source ++ bytesLE 2 f.frag ++ [f.lseq]
  b ++ [crc8 b]

/-- Headers of the frames in ingress buffers, by port, queue and LSEQ (KIND 4). -/
def Common.bufferEntries (c : Common kd) : List (List Nat) :=
  (List.range c.portCount).flatMap (fun p =>
    let q := c.port p
    (List.range 8).flatMap (fun k => (heldAhead k (lookupD 0 q.lseq k) q.held).map frameHeader))

/-- The hub's action instant as an entry (KIND 1): within 1 ns after T* (Table 14-2). -/
def Common.islandEntry (c : Common kd) (t : Ticks) : Common kd × List Nat :=
  let r := c.drawFree 32
  (r.1, [0, 0, 0, 0] ++ bytesLE 6 (c.stamp (t + r.2)) ++ [0, 0])

/-- LIVE_STATE per port, the lease expiry, and the NONDET counts (KIND 10). -/
def Common.liveEntry (c : Common kd) : List Nat :=
  (List.range c.portCount).map c.liveState ++ bytesLE 16 (match c.live.lease with | some e => c.timeValue e | none => 0) ++
    (List.range 7).flatMap (fun i => bytesLE 8 (match c.kind with | .shopostra => c.reg 0x6010 (i + 2) | .vangeg => 0))

/-- The captures that a cut opens on the ports in service. -/
def Common.newCaptures (c : Common kd) : List PortCapture :=
  ((List.range c.portCount).filter c.portUp).map (fun p =>
    { port := p, sent := none, frames := [], done := false, incomplete := false,
      recv := (c.lanesOf p).flatMap (fun l => (List.range 9).map (fun k => ((l, k), lookupD 0 ((c.port p).lane l).received k))) })

/-- SNAP_COUNT on every port in service (R472). -/
def Common.sendSnapCounts (c : Common kd) (id : Nat) (t : Ticks) : Common kd :=
  ((List.range c.portCount).filter c.portUp).foldl (fun a p =>
    let ls := a.lanesOf p
    a.control (.port p) 0x61 ([ls.length] ++ bytesLE 2 id ++ bytesLE 6 (a.stamp t) ++ List.replicate 6 0 ++
      ls.flatMap (fun l => (laneCounts ((a.port p).lane l).sent).flatMap (bytesLE 4)))) c

/-- Keeps an image: a Vangeg keeps two, a Shopostra eight; one overwritten is counted (R476). -/
def Common.keepImage (c : Common kd) (i : SnapImage) : Common kd :=
  let n := match c.kind with | .vangeg => 2 | .shopostra => 8
  let c1 := if n ≤ c.flag.images.length then c.bump 0x3405 4 else c
  c1.onFlag (fun f => { f with images := (i :: f.images).take n })

/-- An image from the sections of the part (R474). `stepped` says that the instant had been passed. -/
def Common.takeImage (c : Common kd) (kind : Nat) (k : Trigger) (stepped gated : Bool) (own : List (Nat × List (List Nat))) : Common kd :=
  let r := c.islandEntry k.t
  let sections := [(1, [r.2])] ++ own.filter (fun s => decide (s.1 < 3)) ++ [(3, c.portEntries), (4, c.bufferEntries), (5, []), (6, [])] ++
    own.filter (fun s => decide (6 < s.1)) ++ [(10, [c.liveEntry])]
  let image : SnapImage :=
    { id := k.id, kind := kind, hops := k.hops, t := k.t,
      flags := 2 * b2n (decide (c.stampClass 128 = 3)) + 4 * b2n stepped + 8 * b2n gated, sections := sections, ports := c.newCaptures }
  (r.1.keepImage image).sendSnapCounts k.id k.t

/-- The Vangeg's own sections: pawn cells, slot accumulators, baseline (KIND 2) and its bindings (KIND 7). -/
def Vangeg.snapSections (v : Vangeg) (t : Ticks) : List (Nat × List (List Nat)) :=
  let runs := cellRuns v.c.allCells
  let pawn := runs.map (fun run =>
    sectionHeader 1 run.length (run.headD 0) ++ run.map (v.statusByte true 0xFF t) ++ List.replicate ((8 - run.length % 8) % 8) 0 ++
      run.flatMap (fun cell => (List.range 8).flatMap (fun k => bytesLE 8 (v.c.reg (ctrIdx cell k) 1))))
  [(2, pawn ++ [v.slotSection 0xFF, v.baselineSection 0xFF]),
   (7, ((List.range 32).filter (fun i => decide (v.c.reg 0x4800 (i + 1) ≠ 0))).map (fun i => bytesLE 8 (v.c.reg 0x4800 (i + 1))))]

/-- The Shopostra's own sections: entries, open intervals, slots (KIND 7 to 9). -/
def Shopostra.snapSections (x : Shopostra) : List (Nat × List (List Nat)) :=
  [(7, (x.table.filter (fun e => decide (e.2.state ≠ 0))).map (fun e => e.2.bytes)),
   (8, x.red.opened.map (fun i => bytesLE 2 i.tag ++ [0, 0] ++ bytesLE 4 i.present ++ bytesLE 6 (x.c.stamp i.instant) ++ [0, 0])),
   (9, (List.range 64).map (fun s => [x.c.reg (0x6100 + s) 1, 0, 0, 0] ++ bytesLE 4 (x.c.reg (0x6100 + s) 0x0D)))]

/-- Whether some power island is Saving, Gated or Restoring. -/
def Vangeg.someGated (v : Vangeg) : Bool := decide (v.gatedMask ≠ 0)

/-- A Vangeg's image. -/
def Vangeg.snapshot (v : Vangeg) (kind : Nat) (k : Trigger) (stepped : Bool) : Vangeg :=
  v.onC (fun c => c.takeImage kind k stepped v.someGated (v.snapSections k.t))

/-- A Shopostra's image. -/
def Shopostra.snapshot (x : Shopostra) (kind : Nat) (k : Trigger) (stepped : Bool) : Shopostra :=
  x.onC (fun c => c.takeImage kind k stepped false x.snapSections)

/-- T* of a held trigger of a KIND arrives: the trigger leaves; `act` runs with it and whether T* had been passed. -/
def Common.fire (c : Common kd) (id kind : Nat) : Option (Common kd × Trigger × Bool) :=
  match c.trigger id with
  | none => none
  | some k => if k.kind = kind then some ((c.arrive k.t).dropTrigger id, k, decide (k.t < c.now)) else none

/-- SNAPSHOT_ACTION (R471). -/
def execSnapshotAction (p : Part) (id : Nat) (s : State) : Res :=
  onPart p
    (fun v => match v.c.fire id 1 with | none => v | some r => ({ v with c := r.1 }).snapshot 1 r.2.1 r.2.2)
    (fun x => match x.c.fire id 1 with | none => x | some r => ({ x with c := r.1 }).snapshot 1 r.2.1 r.2.2) s

/-- SNAP_COUNT_RX (R473): the record gives how many frames of each lane and queue the port captures. -/
def execSnapCountRx (p : Part) (port : Nat) (bytes : List Nat) (s : State) : Res :=
  onC p (fun c =>
    let lanes := c.lanesOf port
    let n := min (nth 0 bytes 1) lanes.length
    let sent := (List.range n).flatMap (fun i => (List.range 9).map (fun k => ((nth 0 lanes i, k), leAt bytes (16 + 36 * i + 4 * k) 4)))
    c.onCapture port (fun i => decide (i.id = leAt bytes 2 2)) (fun k => if k.done || k.incomplete then k else k.count sent)) s

/-- CAPTURE_TIMEOUT (R473): T* + 250 µs. -/
def execCaptureTimeout (p : Part) (port id : Nat) (s : State) : Res :=
  onC p (fun c => match c.flag.images.find? (fun i => decide (i.id = id)) with
    | none => c
    | some i => (c.arrive (i.t + usT 250)).captureFail port (fun j => decide (j.id = id))) s

/-! ## Stop and resume (R477 to R479) -/

/-- Enters STOPPED at T_s. -/
def Common.enterStop (c : Common kd) (k : Trigger) (saved : SavedImage) : Common kd :=
  ((c.setReg 0x3402 0 1).stopInfo (storedForm .time (c.timeValue k.t)) k.id).onFlag (fun f => { f with
    span := some (k.t, none), saved := some saved, restore := false })

/-- Pawn counters that the LEVEL 0 writes of the sessions held here configure. -/
def Common.sessionCells (c : Common kd) : List Nat :=
  ((c.strm.sessions.flatMap (fun s => (levelTemplates s.2.desc 0).flatMap (fun t => t.writes))).filterMap (fun w =>
    if 0x2000 ≤ w.1 ∧ w.1 < 0x2800 then some ((w.1 - 0x2000) / 8) else none)).eraseDups

/-- A message of the SESSION class whose layout the spec does not state. -/
def Common.sessionNote (c : Common kd) (d : Dest) (what : String) (fields : List Nat) : Common kd :=
  if c.speaks d then
    (c.destPorts d).foldl (fun a p => (a.submit (linkUnit 5 p 1 1 false [])).1) (c.send (.message d what fields))
  else c

/-- A Vangeg at the action instant of a STOP. -/
def Vangeg.stopAction (v : Vangeg) (k : Trigger) (stepped : Bool) : Vangeg :=
  let v1 := v.snapshot 2 k stepped
  let cells := v1.c.sessionCells
  let values := cells.flatMap (fun cell => (List.range 8).flatMap (fun i => [1, 2, 3].map (fun sub =>
    (key (ctrIdx cell i) sub, v1.c.reg (ctrIdx cell i) sub))))
  let windows := v1.pawn.windows.map (fun w => (w.1, w.2.total))
  let srcs := (List.range 16).filter (fun s => decide (v1.c.srcState s = 1))
  let v2 := srcs.foldl (fun (a : Vangeg) s => (a.stopSrc s).setSrcState s 2) v1
  v2.onC (fun c => (c.enterStop k { t := k.t, slots := [], values := values, windows := windows }).sessionNote .parents "SAVED_IMAGE"
    (values.flatMap (fun q => [q.1, q.2]) ++ windows.flatMap (fun q => [q.1, q.2])))

/-- A Shopostra at the action instant of a STOP: the regions of slots BOUND, ACTIVE or DRAINING are saved. -/
def Shopostra.stopAction (x : Shopostra) (k : Trigger) (stepped : Bool) : Shopostra :=
  let x1 := x.snapshot 2 k stepped
  let slots := (x1.tan.slots.filter (fun s => decide (2 ≤ x1.slotState s.1))).map (fun s => (s.1, s.2.tiles.map (fun t => t.region)))
  x1.onC (fun c => c.enterStop k { t := k.t, slots := slots, values := [], windows := [] })

/-- STOP_ACTION (R477). -/
def execStopAction (p : Part) (id : Nat) (s : State) : Res :=
  onPart p
    (fun v => match v.c.fire id 2 with | none => v | some r => ({ v with c := r.1 }).stopAction r.2.1 r.2.2)
    (fun x => match x.c.fire id 2 with | none => x | some r => ({ x with c := r.1 }).stopAction r.2.1 r.2.2) s

/-- The common part of a RESUME at T_r (R479). -/
def Common.resume (c : Common kd) (k : Trigger) : Common kd :=
  let was := c.stopped
  let good := was && c.flag.saved.isSome
  let c1 := (((c.setReg 0x3402 0 0).stopInfo 0 0).setReg 0x3420 0 (if good then 1 else 2)).onFlag (fun f => { f with
    span := match f.span with | some (a, none) => some (a, some k.t) | s => s, saved := none, restore := false })
  if good then c1 else c1.reportCode 2 0x0E03 k.id

/-- A spare restores the saved image that came with its Castle (R478). -/
def Vangeg.restoreSaved (v : Vangeg) : Vangeg :=
  match v.c.flag.saved with
  | none => v
  | some i =>
    if !v.c.flag.restore then v
    else
      let v1 := v.onC (fun c => i.values.foldl (fun a q => a.setReg (q.1 / 256) (q.1 % 256) q.2) c)
      let ws := i.windows.foldl (fun l w => putKey l w.1 { lookupD windowReset l w.1 with total := w.2, opened := true }) v1.pawn.windows
      { v1 with pawn := { v1.pawn with windows := ws } }

/-- RESUME_ACTION (R479). -/
def execResumeAction (p : Part) (id : Nat) (s : State) : Res :=
  onPart p
    (fun v => match v.c.fire id 3 with | none => v | some r => (({ v with c := r.1 }).restoreSaved).onC (fun c => c.resume r.2.1))
    (fun x => match x.c.fire id 3 with | none => x | some r => x.onC (fun _ => r.1.resume r.2.1)) s

/-- SAVED_IMAGE_RX (R478): a tray member keeps a die's saved image, by logical address. -/
def execSavedImageRx (source : Nat) (values windows : List (Nat × Nat)) (s : State) : Res :=
  onX (fun x => if x.c.reg 0x1012 0 ≠ 0 then x
    else x.onC (fun c => c.onFlag (fun f => { f with
      dieSaved := putKey f.dieSaved source { t := c.now, slots := [], values := values, windows := windows } }))) s

end Sys2Proof.Machine
end

