-- ==== Sys2Proof/Machine/Sessions.lean ====
section
/-! DEFINITION. Sessions at a Shopostra (08_streams_and_sessions.md): opening, preparation, admission, acknowledgement,
decision, activation, teardown and drain. What a die does stands in DieSessions.lean. -/

namespace Sys2Proof.Machine

variable {kd : Part}

/-! ## Instants (R289) -/

/-- A of a session: T_d − T0 is 4H + 4A, and H is 4A in both cases. -/
def Session.a (q : Session) : Ticks := (q.tD - q.t0) / 20

/-- H of a session. -/
def Session.h (q : Session) : Ticks := 4 * q.a

/-- T_act: the first board-cycle start at or after T_d + 2,000 µs. -/
def actInstant (tD : Ticks) : Ticks :=
  let t := tD + usT 2000
  if isCycleStart t then t else cycleStart t + cycleT

/-- The instant by which the ACK of a part at depth d reaches its parents. -/
def Session.ackBy (q : Session) (d : Nat) : Ticks := q.t0 + 4 * q.h + (5 - d) * q.a

/-- A TIME value as an object holds it. -/
def Common.timeReg (c : Common kd) (t : Ticks) : Nat := storedForm .time (c.timeValue t)

/-! ## Session records (R287) -/

/-- The lowest record in NONE. -/
def Common.freeRecord (c : Common kd) : Option Nat := (List.range 256).find? (fun k => decide (c.sessionState k = 0))

/-- Opens record k for session n, PREPARING. -/
def Common.openRecord (c : Common kd) (k n dies : Nat) (q : Session) : Common kd :=
  let w := fun (c : Common _) (sub v : Nat) => c.setReg (0x4100 + k) sub v
  let c1 := w (w (w (w (w c 1 n) 2 1) 3 (c.timeReg q.tAct)) 4 (c.timeReg q.tD)) 5 0
  (w (w (w (w (w c1 6 dies) 7 0) 8 0) 9 0xFFFFFFFF) 10 0).setSession k q

/-- A session ends in CLOSED (5) or CANCELLED (6). -/
def Common.endRecord (c : Common kd) (k st : Nat) : Common kd :=
  (c.setSessionState k st).setSession k { c.session k with ended := some c.now }

/-- Returns record k to NONE. -/
def Common.clearRecord (c : Common kd) (k : Nat) : Common kd :=
  let c1 := ([1, 2, 3, 4, 5, 6, 7, 8, 10].foldl (fun (a : Common _) s => a.setReg (0x4100 + k) s 0) c).setReg (0x4100 + k) 9 0xFFFFFFFF
  { c1 with strm := { c1.strm with sessions := dropKey c1.strm.sessions k } }

/-- RESULT and REFUSER of a record. -/
def Common.setResult (c : Common kd) (k code refuser : Nat) : Common kd := (c.setReg (0x4100 + k) 8 code).setReg (0x4100 + k) 9 refuser

/-- The record expires 8,000 board cycles after CLOSED or CANCELLED. -/
def Common.recordExpire (n : Nat) (c : Common kd) : Common kd :=
  match c.sessionSlot n with
  | none => c
  | some k => match (c.session k).ended with
    | none => c
    | some t => (c.arrive (t + 8000 * cycleT)).clearRecord k

/-- SESSION_RECORD_EXPIRE (R287). -/
def execSessionRecordExpire (p : Part) (session : Nat) (s : State) : Res := onC p (Common.recordExpire session) s

/-! ## Messages (R288) -/

/-- The bytes of a session message after OP: RESULT, number, session, and what follows from byte 8 on. -/
def sessionBytes (result number n : Nat) (rest : List Nat) : List Nat := result :: (bytesLE 2 number ++ bytesLE 4 n ++ rest)

/-- Sends a message of the open phase (SESSION class). -/
def Common.opens (c : Common kd) (d : Dest) (op result number n : Nat) (rest : List Nat) : Common kd :=
  c.sessionMsg d op (sessionBytes result number n rest)

/-- Sends a message of the close phase (CONTROL class). -/
def Common.closes (c : Common kd) (d : Dest) (op n : Nat) (rest : List Nat) : Common kd := c.control d op (sessionBytes 0 0 n rest)

/-- An ACK to both parents (R291). -/
def Common.sendAck (c : Common kd) (result n dies positions refuser : Nat) : Common kd :=
  c.opens .parents 4 result 0 n (bytesLE 4 dies ++ bytesLE 4 positions ++ bytesLE 4 refuser)

/-- Trained child ports. -/
def Common.childrenUp (c : Common kd) : List Nat := ((List.range 32).map childPort).filter c.portUp

/-- Where the LEVEL 0 templates and their writes end in a descriptor. -/
def levelZeroEnd (b : List Nat) : Nat :=
  ((descTemplates b).foldl (fun (a : Nat × Nat) t =>
    let next := a.1 + 64 + 16 * t.writes.length
    (next, if t.level = 0 then next else a.2)) (16 + 8 * leAt b 2 2, 16 + 8 * leAt b 2 2)).2

/-- The slices of 192 bytes that a position sends: the whole descriptor to a position, to a die those up to the last that
holds a LEVEL 0 template or its writes. -/
def Shopostra.slicesDown (x : Shopostra) (desc : List Nat) : List (List Nat) :=
  let len := if x.c.reg 0x1012 0 = 0 then levelZeroEnd desc else desc.length
  (List.range ((len + 191) / 192)).map (fun i => ((desc.drop (192 * i)).take 192 ++ List.replicate 192 0).take 192)

/-- Templates of this part's own level. -/
def Shopostra.ownTemplates (x : Shopostra) (desc : List Nat) : List Template := levelTemplates desc (x.c.reg 0x1012 0 + 1)

/-- Templates of its children's level. -/
def Shopostra.childTemplates (x : Shopostra) (desc : List Nat) : List Template := levelTemplates desc (x.c.reg 0x1012 0)

/-- The place of the template that takes a child template's output. -/
def Shopostra.feeds (x : Shopostra) (desc : List Nat) (t : Template) : Option Nat :=
  (x.ownTemplates desc).findIdx? (fun u => decide (u.num = t.out))

/-- The tags that HEAD carries to the children: for each template of their level, tag and epoch byte of the entry that takes
its output. -/
def Shopostra.headTags (x : Shopostra) (q : Session) : List Nat :=
  let l := (x.childTemplates q.desc).flatMap (fun t => match x.feeds q.desc t with
    | none => [0, 0, 0, 0]
    | some i => bytesLE 2 (nth 0 q.tags i) ++ [(x.entry (nth 0 q.tags i)).epoch % 256, 0])
  (l ++ List.replicate 128 0).take 128

/-- The PREPARE on one port: HEAD, then the ENTRY messages. -/
def Shopostra.sendPrepare (x : Shopostra) (k p : Nat) : Shopostra :=
  let q := x.c.session k
  let n := x.c.reg (0x4100 + k) 1
  let slices := x.slicesDown q.desc
  let head := List.replicate 8 0 ++ bytesLE 16 (x.c.timeReg q.tAct) ++ bytesLE 16 (x.c.timeReg (q.ackBy (x.c.depth + 1))) ++
    bytesLE 4 q.crc ++ x.headTags q
  x.onC (fun c => (slices.zip (List.range slices.length)).foldl (fun (a : Common _) e =>
    a.opens (.port p) 2 0 e.2 n (List.replicate 8 0 ++ e.1)) (c.opens (.port p) 1 0 slices.length n head))

/-! ## Admission (R295, Table 8-6) -/

/-- The limit of the admitted DATA rate of a port in Mbit/s (R50). -/
def Common.linkLimit (c : Common kd) (p : Nat) : Nat := if c.portState p = 5 ∨ (c.lanesOf p).length = 1 then 160000 else 320000

/-- The uplink to the active parent. -/
def Common.uplink (c : Common kd) : Nat := (c.destPorts .activeParent).headD 0

/-- Entries that count: PREPARED, ACTIVE and DRAINING. -/
def Shopostra.heldEntries (x : Shopostra) : List (Nat × Entry) := x.table.filter (fun e => decide (e.2.state ≠ 0))

/-- RATE_OUT of a template. -/
def Template.rateOut (t : Template) : Nat := leAt t.b 40 4

/-- The rate into a child port that one session declares; a child without member dies brings none. -/
def Shopostra.rateFrom (x : Shopostra) (k p : Nat) : Nat :=
  let q := x.c.session k
  let dies := match q.acks.find? (fun a => decide (a.1 = p)) with | some a => a.2.dies | none => 1
  if dies = 0 then 0
  else (((x.childTemplates q.desc).filter (fun t => (x.feeds q.desc t).isSome)).map Template.rateOut).sum

/-- Records whose session holds something here. -/
def Common.liveRecords (c : Common kd) : List Nat :=
  (List.range 256).filter (fun k => decide (1 ≤ c.sessionState k ∧ c.sessionState k ≤ 4))

/-- Check 4: the uplink and every child port (R50). The apex has no uplink. -/
def Shopostra.check4 (x : Shopostra) : Bool :=
  let up := (((x.heldEntries).filter (fun e => e.2.toParent)).map (fun e => e.2.rateOut)).sum
  (decide (x.c.reg 0x1012 0 = 3) || decide (up ≤ x.c.linkLimit x.c.uplink)) &&
    x.c.childrenUp.all (fun p => decide ((x.c.liveRecords.map (fun k => x.rateFrom k p)).sum ≤ x.c.linkLimit p))

/-- Check 5: the ratio of a session's input rate, over the children that acknowledged, to its output rate (R51). -/
def Shopostra.check5 (x : Shopostra) (k : Nat) : Bool :=
  let q := x.c.session k
  let input := ((q.acks.filter (fun a => decide (a.2.dies ≠ 0))).map (fun a => x.rateFrom k a.1)).sum
  let output := (((x.heldEntries).filter (fun e => decide (e.2.session = x.c.reg (0x4100 + k) 1) && e.2.toParent)).map (fun e =>
    e.2.rateOut)).sum
  decide (x.c.reg 0x1012 0 = 3) || decide (input * output ≤ input * x.c.linkLimit x.c.uplink)

/-- Accumulator memory that the open intervals of an entry may take at once (R310). -/
def Shopostra.entryMemory (x : Shopostra) (e : Entry) : Nat :=
  let d := x.redDesc e.redDesc
  let span := e.interval + (4 - x.c.depth) * d.slack
  if e.redDesc = 0xFFFF ∨ e.interval = 0 then 0
  else ((d.runs.map (fun r => r.count * r.largest)).sum) * ((span + e.interval - 1) / e.interval + 1)

/-- Check 6: elements per second, summed exactly over a common denominator, and the memory of R310. -/
def Shopostra.check6 (x : Shopostra) : Bool :=
  let es := (x.heldEntries).filter (fun e => decide (e.2.interval ≠ 0))
  let l := es.foldl (fun m e => Nat.lcm m e.2.interval) 1
  decide ((es.map (fun e => e.2.inCount * e.2.elements * 1000000 * (l / e.2.interval))).sum ≤ x.c.reg 0x5000 2 * l) &&
    decide ((es.map (fun e => x.entryMemory e.2)).sum ≤ x.c.reg 0x5000 1 * x.c.reg 0x5000 3)

/-- Bytes staged for a slot in a board cycle. -/
def Shopostra.stagedSize (x : Shopostra) (s : Nat) : Nat := 64 + ((List.range 8).map (x.areaBytes s)).sum

/-- Whether slots of the array fit: the schedule, footprints and staging traffic (R365, R367, R368). -/
def Shopostra.arrayFits (x : Shopostra) : Bool :=
  let busy := x.busySlots
  let phys := fun s => (x.logicalTiles s).map x.c.physTile
  decide (24 ≤ x.c.tilesInService.length) && scheduleFits (x.scheduleFrom [] busy) &&
    x.footprintFits busy &&
    (List.range 4).all (fun d => decide (((busy.filter (fun s => (phys s).any (fun p => decide (p / 12 = d)))).map
      x.stagedSize).sum ≤ 1638400))

/-- Check 7 for the slots of a session (R364, R368). -/
def Shopostra.check7 (x : Shopostra) (n : Nat) : Bool :=
  let mine := x.busySlots.filter (fun s => decide (x.c.reg (0x6100 + s) 0x0C = n))
  mine.all (fun s =>
    decide (x.c.reg (0x6100 + s) 3 + x.c.reg (0x6100 + s) 4 ≤ 48) &&
    (match (x.slot s).prog with | some p => decide (x.stagedSize s ≤ p.windowLen) | none => true) &&
    (x.boundInputs s).all (fun i =>
      let e := x.entry (x.inputTag s i)
      decide (e.interval = 0) || decide ((125 + e.interval - 1) / e.interval ≤ x.c.reg (inputObj s i) 2))) &&
  (decide (mine = []) || x.arrayFits)

/-- The LOG rate that a part holds as a mirror (Table 9-6): its partner's at the apex and at a tray in redundant mode, its
children's at the mirror member of a position. -/
def Shopostra.mirrorRate (x : Shopostra) (own : Nat) : Nat :=
  let role := x.c.reg 0x1012 0
  if role = 3 ∨ (role = 0 ∧ x.c.reg 0x1014 0 = 1) then own
  else if role = 0 ∨ x.c.reg 0x1013 0 = 0 then 0
  else (x.c.liveRecords.map (fun k =>
    let q := x.c.session k
    let logs := ((x.childTemplates q.desc).filter (fun t => bitOf (nth 0 t.b 3) 3)).map (fun t => leAt t.b 36 4)
    (q.acks.filter (fun a => decide (a.2.dies ≠ 0))).length * logs.sum)).sum

/-- Check 9: HISTORY and LOG rates (R332, R488). -/
def Shopostra.check9 (x : Shopostra) : Bool :=
  let hist : Nat := (((x.heldEntries).filter (fun e => e.2.toHistory)).map (fun e => e.2.rateOut)).sum
  let own : Nat := (((x.heldEntries).filter (fun e => e.2.logs)).map (fun e => e.2.rateIn)).sum
  !x.hist.lost && decide (hist ≤ x.c.reg 0x7102 0) && decide (own ≤ 80000) && decide (own + x.mirrorRate own ≤ 256000)

/-- Ring units that a session's entries need (R487). -/
def Shopostra.unitsNeeded (x : Shopostra) (n : Nat) : Nat :=
  (((x.heldEntries).filter (fun e => decide (e.2.session = n) && e.2.toHistory)).map (fun e =>
    ringUnits e.2.rateOut (x.c.reg 0x7101 0))).sum

/-- The first check of Table 8-6 that fails: its code, or 0. `busy` says that a slot or input is in use, `empty` that a slot
holds no program, and `units` that the rings cannot be had. -/
def Shopostra.firstFailure (x : Shopostra) (k : Nat) (busy empty units : Bool) : Nat :=
  if busy then 15
  else if !x.check4 then 2
  else if !x.check5 k then 3
  else if !x.check6 then 4
  else if !x.check7 (x.c.reg (0x4100 + k) 1) then 5
  else if empty then 6
  else if units || !x.check9 then 11
  else 0

/-- Whether a template is malformed at this part (R302, R305, R628). -/
def Shopostra.badHere (x : Shopostra) (t : Template) : Bool :=
  let d := leAt t.b 32 2
  if d = 0xFFFF then !bitOf (nth 0 t.b 3) 4 && decide (nth 0 t.b 1 ≠ 3 ∧ nth 0 t.b 1 ≠ 4)
  else !decide ((x.redDesc d).status = 1) ||
    (decide (nth 0 t.b 1 ≠ 6) && (x.redDesc d).runs.any (fun r => decide (r.inType = 9)))

/-- Slot and input of a template with TANGENT set. -/
def Template.slotInput (t : Template) : Option (Nat × Nat) :=
  let v := leAt t.b 34 2
  if bitOf (nth 0 t.b 3) 1 ∧ v ≠ 0xFFFF then some (v % 64, v / 2 ^ 13) else none

/-- Whether the slots that a session's templates name leave an input 0 unbound (R357). -/
def noInputZero (l : List (Nat × Nat)) : Bool := l.any (fun e => !decide ((e.1, 0) ∈ l))

/-! ## Allocation (R281, R282) -/

/-- The n lowest FREE tags. -/
def Shopostra.lowestTags (x : Shopostra) (n : Nat) : List Nat :=
  (((List.range (min 65534 (x.usedTags.length + n))).map (fun i => i + 1)).filter x.tagFree).take n

/-- The ports that feed a template, and the inputs they bring per interval, as acknowledged (R280, R291). -/
def Shopostra.inputsOf (x : Shopostra) (q : Session) (i : Nat) : Nat × Nat :=
  let ts := (x.childTemplates q.desc).filter (fun t => decide (x.feeds q.desc t = some i))
  let ports := if ts = [] then [] else q.acks.filter (fun a => decide (a.2.dies ≠ 0))
  ((ports.map (fun a => 2 ^ a.1)).sum,
   (ports.map (fun a => (ts.map (fun t => if bitOf (nth 0 t.b 3) 4 then a.2.dies else 1)).sum)).sum)

/-- The entry that a template makes. -/
def Shopostra.entryOf (x : Shopostra) (q : Session) (n tag i : Nat) (t : Template) : Entry :=
  let f := fun (off w : Nat) => leAt t.b off w
  let up := (q.parentTags[i]?).getD (0, 0)
  let toUp := bitOf (f 3 1) 0
  let ins := x.inputsOf q i
  { entryFree (x.entry tag).epoch with
    state := 1, kind := f 1 1, cls := f 2 1, route := f 3 1, session := n, outStream := if toUp then up.1 else 0,
    outEpoch := if toUp then up.2 else 0, inPorts := ins.1, inCount := ins.2, interval := f 24 4, elements := f 28 4,
    redDesc := f 32 2, tanSlot := f 34 2, rateIn := f 36 4, rateOut := f 40 4 }

/-- AREA_OFF of a slot's bound inputs. -/
def Shopostra.setAreas (x : Shopostra) (s : Nat) : Shopostra :=
  x.onC (fun c => (x.boundInputs s).foldl (fun (a : Common _) i => a.setReg (inputObj s i) 7 (x.areaOff s i)) c)

/-- Slots that a list of templates names. -/
def slotsOf (ts : List Template) : List Nat := ((ts.filterMap Template.slotInput).map Prod.fst).eraseDups

/-- Allocates a session's entries under given tags, and binds its slots and inputs; a slot enters BOUND (R357, R358). -/
def Shopostra.place (x : Shopostra) (k : Nat) (tags : List Nat) : Shopostra :=
  let n := x.c.reg (0x4100 + k) 1
  let q := x.c.session k
  let ts := x.ownTemplates q.desc
  let rows := (ts.zip (tags.zip (List.range ts.length)))
  let x1 := rows.foldl (fun (a : Shopostra) r => a.setEntry r.2.1 (x.entryOf q n r.2.1 r.2.2 r.1)) x
  let x2 := rows.foldl (fun (a : Shopostra) r => match r.1.slotInput with
    | none => a
    | some w => a.onC (fun c => ((c.setReg (inputObj w.1 w.2) 1 r.2.1).setReg (0x6100 + w.1) 1 2).setReg (0x6100 + w.1) 0x0C n)) x1
  let x3 := (slotsOf ts).foldl (fun (a : Shopostra) s =>
    ((a.setSlot s { slotNew with prog := (a.slot s).prog }).loadTiles s).setAreas s) x2
  let x4 := if slotsOf ts = [] then x3 else x3.reschedule
  x4.onC (fun c => c.setSession k { q with tags := tags })

/-- Binds a ring to each entry with HISTORY (R486). -/
def Shopostra.takeRings (x : Shopostra) (k : Nat) : Shopostra :=
  (x.c.session k).tags.foldl (fun (a : Shopostra) t =>
    let e := a.entry t
    if e.toHistory then (a.bindRing t e.session (ringUnits e.rateOut (a.c.reg 0x7101 0))).1 else a) x

/-- This part's own refusal. -/
def Shopostra.refuse (x : Shopostra) (k code : Nat) : Shopostra :=
  x.onC (fun c => (c.setSession k { c.session k with refusal := (code, c.logical) }).setResult k code c.logical)

/-- What admission makes of a session whose entries are not allocated: the part with them allocated, or the code. -/
def Shopostra.tryPlace (x : Shopostra) (k : Nat) (tags : List Nat) : Except Nat Shopostra :=
  let n := x.c.reg (0x4100 + k) 1
  let ts := x.ownTemplates (x.c.session k).desc
  let ins := ts.filterMap Template.slotInput
  if ts.any x.badHere || noInputZero ins then .error 10
  else if tags.length < ts.length then .error 1
  else
    let busy := ins.any (fun w => decide (x.c.reg (0x6100 + w.1) 0x0C ≠ 0 ∧ x.c.reg (0x6100 + w.1) 0x0C ≠ n) ||
      decide (x.inputTag w.1 w.2 ≠ 0)) || decide (ins.eraseDups.length ≠ ins.length)
    let y := x.place k tags
    match y.firstFailure k busy (ins.any (fun w => decide (x.slotState w.1 = 0))) (decide (x.unitsFree < y.unitsNeeded n)) with
    | 0 => .ok (y.takeRings k)
    | code => .error code

/-- A member allocates a session's entries, or refuses it (R282, R295). -/
def Shopostra.allocate (x : Shopostra) (k : Nat) (tags : List Nat) : Shopostra :=
  match x.tryPlace k tags with
  | .ok y => y
  | .error code => x.refuse k code

/-- Whether this member allocates for its position: the primary or tray Shopostra A, or a member whose partner is DEAD. -/
def Shopostra.allocates (x : Shopostra) : Bool := decide (x.c.reg 0x1013 0 = 0) || x.c.live.partnerDead.isSome

/-! ## Releasing (R281, R296) -/

/-- Frees an entry: its slot, ring and open work are released, and EPOCH is incremented. -/
def Shopostra.freeEntry (x : Shopostra) (t : Nat) : Shopostra :=
  let e := x.entry t
  if e.state = 0 then x
  else
    let x1 := ((x.retainRing t).setEntry t (entryFree ((e.epoch + 1) % 2 ^ 32))).onRed (fun r => { r with
      opened := r.opened.filter (fun i => decide (i.tag ≠ t)), closed := r.closed.filter (fun i => decide (i.1 ≠ t)),
      outputs := r.outputs.filter (fun o => decide (o.tag ≠ t)), last := dropKey r.last t })
    let x2 := x1.onTan (fun q => { q with raws := q.raws.filter (fun w => decide (w.tag ≠ t)) })
    let x3 := x2.onVer (fun v => { v with
      rounds := v.rounds.filter (fun r => decide (r.tag ≠ t)), closed := v.closed.filter (fun r => decide (r.tag ≠ t)),
      jobs := if e.kind = 4 then v.jobs.filter (fun j => decide (j.session ≠ e.session)) else v.jobs })
    let x4 := x3.onC (fun c => match c.sessionSlot e.session with
      | some k => c.addReg (0x4100 + k) 10 e.missing
      | none => c)
    let bound := (List.range 512).filter (fun j => decide (x.c.reg (0x6200 + j) 1 = t))
    let x5 := bound.foldl (fun (a : Shopostra) j =>
      let s := j / 8
      let a1 := a.onC (fun c => (c.setReg (0x6200 + j) 1 0).setReg (0x6200 + j) 7 0)
      if a1.boundInputs s = [] then
        (a1.setSlot s { slotNew with prog := (a1.slot s).prog }).onC (fun c => (c.setReg (0x6100 + s) 1 1).setReg (0x6100 + s) 0x0C 0)
      else a1) x4
    if bound = [] then x5 else x5.reschedule

/-- Frees every entry of a session. -/
def Shopostra.freeSession (x : Shopostra) (n : Nat) : Shopostra := (x.sessionTags n).foldl Shopostra.freeEntry x

/-- Cancels a session: PREPARED entries are freed, and the children hear of it (R281, Table 8-4). -/
def Shopostra.cancelSession (x : Shopostra) (k cause : Nat) : Shopostra :=
  let n := x.c.reg (0x4100 + k) 1
  let down := fun (c : Common _) => if x.fleet.active then c.opens .children 6 cause 0 n [] else c
  let mirror := fun (c : Common _) => if x.fleet.actingApex then c.opens .partner 6 cause 0 n [] else c
  (x.freeSession n).onC (fun c => down (mirror ((c.setReg (0x4100 + k) 8 cause).endRecord k 6)))

/-! ## Acknowledgement (R291, R292) -/

/-- Sets IN_PORTS and IN_COUNT of a session's entries from the ACKs held, and its slots' areas. -/
def Shopostra.setInputs (x : Shopostra) (k : Nat) : Shopostra :=
  let q := x.c.session k
  let x1 := (q.tags.zip (List.range q.tags.length)).foldl (fun (a : Shopostra) r =>
    let ins := x.inputsOf q r.2
    let e := a.entry r.1
    if e.session = x.c.reg (0x4100 + k) 1 then a.setEntry r.1 { e with inPorts := ins.1, inCount := ins.2 } else a) x
  (slotsOf (x.ownTemplates q.desc)).foldl (fun (a : Shopostra) s =>
    if a.c.reg (0x6100 + s) 0x0C = x.c.reg (0x4100 + k) 1 then a.setAreas s else a) x1

/-- The admission checks repeated when the children's ACKs are held (R295). -/
def Shopostra.recheck (x : Shopostra) (k : Nat) : Shopostra :=
  let q := x.c.session k
  let x1 := x.setInputs k
  if !q.held then x1
  else if q.refusal.1 = 0 then
    (match x1.firstFailure k false false false with
     | 0 => x1
     | code => x1.refuse k code)
  else if q.refusal.1 = 10 ∨ q.refusal.1 = 13 ∨ q.refusal.1 = 1 then x1
  else match x1.tryPlace k (x1.lowestTags (x1.ownTemplates q.desc).length) with
    | .ok _ => x1
    | .error code => x1.refuse k code

/-- The kept one of two refusals: the lower REFUSER, and of one REFUSER the first (R291). -/
def keepRefusal (a b : Nat × Nat) : Nat × Nat :=
  if a.1 = 0 then b else if b.1 = 0 then a else if b.2 < a.2 then b else a

/-- The acknowledgement of a part: dies, positions and the kept refusal; `missing` adds code 9 (R291). -/
def Shopostra.ackOf (x : Shopostra) (k : Nat) (missing : Bool) : Nat × Nat × (Nat × Nat) :=
  let q := x.c.session k
  let own := keepRefusal q.refusal (if missing then (9, x.c.logical) else (0, 0xFFFFFFFF))
  ((q.acks.map (fun a => a.2.dies)).sum, 1 + (q.acks.map (fun a => a.2.positions)).sum,
   q.acks.foldl (fun r a => keepRefusal r (a.2.result, a.2.refuser)) own)

/-- Whether every trained child has acknowledged. -/
def Shopostra.allAnswered (x : Shopostra) (k : Nat) : Bool :=
  x.c.childrenUp.all (fun p => (x.c.session k).acks.any (fun a => decide (a.1 = p)))

/-- Whether the part is one of the apex members, which decide and send no ACK. -/
def Shopostra.atApex (x : Shopostra) : Bool := decide (x.c.reg 0x1012 0 = 3)

/-- A position acknowledges to both parents. With no member die behind it, it frees its entries and leaves the session. -/
def Shopostra.acknowledge (x : Shopostra) (k : Nat) : Shopostra :=
  let n := x.c.reg (0x4100 + k) 1
  let missing := !x.allAnswered k
  let x1 := x.recheck k
  let a := x1.ackOf k missing
  let x2 := x1.onC (fun c => (((c.setSession k { c.session k with ackSent := true }).setReg (0x4100 + k) 7 a.1).setResult k a.2.2.1
    a.2.2.2).sendAck a.2.2.1 n a.1 a.2.1 a.2.2.2)
  if a.1 = 0 ∧ !missing then (x2.freeSession n).onC (fun c => c.endRecord k 6) else x2

/-- Acknowledges once every trained child has. -/
def Shopostra.ackWhenReady (x : Shopostra) (k : Nat) : Shopostra :=
  let q := x.c.session k
  if q.held && !q.ackSent && !x.atApex && decide (x.c.sessionState k = 1) && x.allAnswered k then x.acknowledge k else x

/-! ## Preparation (R286, R289, R290) -/

/-- The whole PREPARE is held: the entries are allocated, the RECEIPT sent, and the PREPARE forwarded to every trained
child. -/
def Shopostra.whole (x : Shopostra) (k : Nat) : Shopostra :=
  let n := x.c.reg (0x4100 + k) 1
  let x0 := x.onC (fun c => (c.setSession k { c.session k with held := true }).setReg (0x4100 + k) 6 (leAt (c.session k).desc 8 4))
  let q := x0.c.session k
  let m := (x0.ownTemplates q.desc).length
  let x1 := if x0.allocates then
      let y := x0.allocate k (x0.lowestTags m)
      let copy := (y.c.session k).tags.flatMap (fun t => [t, (y.entry t).epoch])
      if y.c.paired then y.onC (fun c => c.message .partner "SESSION_TAGS" (n :: copy)) else y
    else if q.tags ≠ [] then x0.allocate k q.tags
    else x0
  let x2 := if x1.atApex then x1 else x1.onC (fun c => c.opens .parents 3 0 0 n [])
  let x3 := if x2.fleet.active then x2.c.childrenUp.foldl (fun (a : Shopostra) p => a.sendPrepare k p) x2 else x2
  x3.ackWhenReady k

/-- The descriptor that fleet software wrote. -/
def Shopostra.writtenDesc (x : Shopostra) : List Nat :=
  let len := x.c.reg 0x4010 3
  ((List.range ((len + 7) / 8)).flatMap (fun i => bytesLE 8 (lookupD 0 x.c.strm.desc i))).take len

/-- A write of STRM_DESC. -/
def ruleDesc (sub v : Nat) (x : Shopostra) : Shopostra × Option Abort :=
  let cur := x.c.reg 0x4010 2
  let bad := decide (sub = 2 ∧ (v % 8 ≠ 0 ∨ 65536 < v)) || decide (sub = 3 ∧ (v < 16 ∨ 65536 < v))
  if bad then (x, some .value)
  else if !x.fleet.actingApex || decide (sub = 1 ∧ 65536 ≤ cur) then (x, some .state)
  else if sub = 1 then
    (x.onC (fun c => ({ c with strm := { c.strm with desc := putKey c.strm.desc (cur / 8) v } }).setReg 0x4010 2 (cur + 8)), none)
  else (x.onC (fun c => c.setReg 0x4010 sub v), none)

/-- STRM_DESC_DATA_WRITE (R285). -/
def execStrmDescDataWrite (r : Req) (v : Nat) (s : State) : Res := onX (fun x => x.ruled r 0x4010 1 v (ruleDesc 1 v)) s

/-- Whether some two ranges overlap. -/
def rangesOverlap : List (Nat × Nat) → Bool
  | [] => false
  | r :: l => l.any (fun q => overlap r.1 r.2 q.1 q.2) || rangesOverlap l

/-- What the apex answers to a submitted descriptor: the code of Table 8-7 (R286). -/
def Shopostra.openCode (x : Shopostra) (b : List Nat) : Nat :=
  let rs := descRanges b
  let total := (rs.map Prod.snd).sum
  let bound := (x.fleet.map.filter (fun e => memberDie b e.1)).length
  if descBad b (x.c.reg 0x4010 3) then 10
  else if rangesOverlap rs || decide (total ≠ leAt b 8 4) || decide (bound ≠ total) then 8
  else if x.c.freeRecord.isNone then 1
  else 0

/-- Whether the apex is busy (Timing of activation): every session touches the apex's own position. -/
def Common.busy (c : Common kd) : Bool :=
  (List.range 256).any (fun k => decide (c.sessionState k = 1 ∨ c.sessionState k = 2 ∨ c.sessionState k = 4))

/-- The apex accepts a descriptor at T0: record, copy to the mirror apex, PREPARE. -/
def Shopostra.openSession (x : Shopostra) (b : List Nat) (k : Nat) : Shopostra :=
  let n := x.c.strm.next
  let a := if x.c.busy then usT 500 else usT 250
  let t0 := x.c.now
  let tD := t0 + 20 * a
  let q : Session := { sessionNew with
    t0 := t0, tD := tD, tAct := actInstant tD, deadline := t0 + 21 * a, crc := crc32c b, desc := b }
  let x1 := x.onC (fun c => (({ c with strm := { c.strm with next := n + 1 } }.openRecord k n (leAt b 8 4) q).setReg 0x4011 2 n).setReg 0x4011 3 0)
  (if x1.c.paired then x1.sendPrepare k x1.c.partnerPort else x1).whole k

/-- A write of STRM_OPEN. -/
def ruleOpen (v : Nat) (x : Shopostra) : Shopostra × Option Abort :=
  if v ≠ 1 then (x, some .value)
  else if !x.fleet.actingApex || x.c.isFenced then (x, some .state)
  else
    let b := x.writtenDesc
    match x.openCode b, x.c.freeRecord with
    | 0, some k => (x.openSession b k, none)
    | code, _ => (x.onC (fun c => (c.setReg 0x4011 2 0).setReg 0x4011 3 code), none)

/-- SESSION_OPEN (R286). -/
def execSessionOpen (r : Req) (v : Nat) (s : State) : Res := onX (fun x => x.ruled r 0x4011 1 v (ruleOpen v)) s

/-- The session that a HEAD describes, at a part of depth d: T_d follows from the deadline, and T0 from T_d (R289). The apex
gives its mirror (depth 0) the deadline T_d. -/
def headSession (c : Common kd) (d : Nat) (busy : Bool) (b : List Nat) : Session :=
  let a := if busy then usT 500 else usT 250
  let deadline := c.timeOf (leAt b 32 16)
  let tD := deadline + (d - 1) * a
  { sessionNew with
    t0 := tD - 20 * a, tD := tD, tAct := c.timeOf (leAt b 16 16), deadline := deadline, crc := leAt b 48 4, need := leAt b 2 2,
    parentTags := (List.range 32).map (fun i => (leAt b (52 + 4 * i) 2, nth 0 b (54 + 4 * i))) }

/-- A HEAD at a part: a known session with the same CRC changes nothing but the RECEIPT; `none` where no record is free. -/
def Common.headRx (c : Common kd) (busy : Bool) (b : List Nat) : Option (Common kd) :=
  let n := leAt b 4 4
  let q := headSession c c.depth busy b
  match c.sessionSlot n with
  | some k =>
    let o := c.session k
    some (if o.held ∧ o.crc = q.crc then c.opens .parents 3 0 0 n []
      else if o.need = 0 ∧ !o.held then c.openRecord k n 0 { q with tags := o.tags }
      else c)
  | none => match c.freeRecord with
    | some k => some (c.openRecord k n 0 q)
    | none => none

/-- A tray Shopostra whose partner reports the other SX_REDUNDANT_TRAY over a partner port (R31): bit 1 of the FLAGS of
its IDENT. -/
def Shopostra.mismatched (x : Shopostra) : Bool :=
  decide (x.c.reg 0x1012 0 = 0) && (List.range 48).any (fun p => isPartnerPort p && (match (x.c.port p).ident with
    | none => false
    | some k => bitOf (nth 0 k 5) 1 != decide (x.c.reg 0x1014 0 = 1)))

/-- A HEAD at a Shopostra. A tray whose partner reports the other SX_REDUNDANT_TRAY takes no part (R31). -/
def Shopostra.headRx (x : Shopostra) (busy : Bool) (b : List Nat) : Shopostra :=
  if x.mismatched ∨ leAt b 4 4 = 0 then x
  else match x.c.headRx busy b with
    | some c => { x with c := c }
    | none => x.onC (fun c => c.sendAck 1 (leAt b 4 4) 0 1 c.logical)

/-- An ENTRY at a part: the slice is kept, and the descriptor assembled with the last; the second component says so. -/
def Common.sliceRx (n i : Nat) (b : List Nat) (c : Common kd) : Common kd × Option Nat :=
  match c.sessionSlot n with
  | none => (c, none)
  | some k =>
    let q := c.session k
    if q.held ∨ q.need ≤ i then (c, none)
    else
      let l := putKey q.slices i ((b ++ List.replicate 192 0).take 192)
      if l.length < q.need then (c.setSession k { q with slices := l }, none)
      else
        let all := (List.range q.need).flatMap (fun j => lookupD [] l j)
        (c.setSession k { q with slices := [], desc := all.take (descSize all) }, some k)

/-- An ENTRY at a Shopostra: the last one completes the PREPARE. -/
def Shopostra.sliceRx (x : Shopostra) (n i : Nat) (b : List Nat) : Shopostra :=
  let r := x.c.sliceRx n i b
  let x1 := { x with c := r.1 }
  match r.2 with
  | none => x1
  | some k => x1.whole k

/-- The other member's tags and epochs (R282): they are allocated here too, or the session is refused with code 13. -/
def Shopostra.tagCopy (n : Nat) (tags : List (Nat × Nat)) (x : Shopostra) : Shopostra :=
  let note := fun (y : Shopostra) (k : Nat) => y.onC (fun c => c.setSession k { c.session k with tags := tags.map Prod.fst })
  let bad := tags.any (fun t => !x.tagFree t.1 || decide ((x.entry t.1).epoch ≠ t.2))
  match x.c.sessionSlot n with
  | some k =>
    let q := x.c.session k
    if q.tags ≠ [] ∨ x.c.sessionState k ≠ 1 then x
    else if bad then x.refuse k 13
    else if q.held then (x.allocate k (tags.map Prod.fst)).ackWhenReady k
    else note x k
  | none => match x.c.freeRecord with
    | none => x
    | some k =>
      let x1 := note (x.onC (fun c => c.openRecord k n 0 sessionNew)) k
      if bad then x1.refuse k 13 else x1

/-- SESSION_TAG_COPY_RX (R282). -/
def execSessionTagCopyRx (session : Nat) (tags : List (Nat × Nat)) (s : State) : Res := onX (Shopostra.tagCopy session tags) s

/-- A child's RECEIPT. -/
def Common.receiptRx (port n : Nat) (c : Common kd) : Common kd :=
  match c.sessionSlot n with
  | none => c
  | some k =>
    let q := c.session k
    if port ∈ q.receipts then c else c.setSession k { q with receipts := q.receipts ++ [port] }

/-- SESSION_RECEIPT_RX (R290). -/
def execSessionReceiptRx (port session : Nat) (s : State) : Res := onX (fun x => x.onC (Common.receiptRx port session)) s

/-- T0 + d·H + 600 µs: the standby member sends the PREPARE to every child without a RECEIPT (R290). -/
def Shopostra.resendCheck (n : Nat) (x : Shopostra) : Shopostra :=
  match x.c.sessionSlot n with
  | none => x
  | some k =>
    let q := x.c.session k
    let x0 := x.onC (fun c => c.arrive (q.t0 + x.c.depth * q.h + usT 600))
    let x1 := x0.onC (fun c => c.setSession k { q with resent := true })
    if x0.fleet.active || !q.held || q.resent then x0
    else (x1.c.childrenUp.filter (fun p => decide (p ∉ q.receipts))).foldl (fun (a : Shopostra) p =>
      (a.sendPrepare k p).onC (fun c => c.bump 0x4020 3)) x1

/-- PREPARE_RESEND_CHECK (R290). -/
def execPrepareResendCheck (session : Nat) (s : State) : Res := onX (Shopostra.resendCheck session) s

/-- A child's ACK (R291). -/
def Shopostra.ackRx (port n : Nat) (a : ChildAck) (x : Shopostra) : Shopostra :=
  match x.c.sessionSlot n with
  | none => x
  | some k =>
    let q := x.c.session k
    if q.ackSent ∨ x.c.sessionState k ≠ 1 then x
    else
      let x1 := x.onC (fun c =>
        let q1 := { q with acks := putKey q.acks port a }
        (c.setSession k q1).setReg (0x4100 + k) 7 ((q1.acks.map (fun e => e.2.dies)).sum))
      x1.ackWhenReady k

/-- SESSION_ACK_RX (R291). -/
def execSessionAckRx (port session result dies positions refuser : Nat) (s : State) : Res :=
  onX (Shopostra.ackRx port session { dies := dies, positions := positions, result := result, refuser := refuser }) s

/-- The part's acknowledgement deadline (R291). -/
def Shopostra.ackDeadline (n : Nat) (x : Shopostra) : Shopostra :=
  match x.c.sessionSlot n with
  | none => x
  | some k =>
    let q := x.c.session k
    let x1 := x.onC (fun c => c.arrive q.deadline)
    if q.ackSent || x1.atApex || decide (x1.c.sessionState k ≠ 1) then x1 else x1.acknowledge k

/-- SESSION_ACK_DEADLINE (R291). -/
def execSessionAckDeadline (session : Nat) (s : State) : Res := onX (Shopostra.ackDeadline session) s

/-! ## Decision and activation (R289, R292, R293) -/

/-- Whether this member decides: the apex, or the mirror apex when the apex is DEAD. -/
def Shopostra.decides (x : Shopostra) : Bool :=
  x.atApex && !x.c.isFenced && (x.fleet.actingApex || x.c.live.partnerDead.isSome)

/-- T_d: the apex commits or cancels. -/
def Shopostra.decide_ (n : Nat) (x : Shopostra) : Shopostra :=
  match x.c.sessionSlot n with
  | none => x
  | some k =>
    if !x.decides || decide (x.c.sessionState k ≠ 1) then x
    else
      let x1 := (x.onC (fun c => c.arrive (c.session k).tD)).recheck k
      let a := x1.ackOf k (!x1.allAnswered k)
      let r := if a.2.2.1 = 0 ∧ a.1 ≠ x1.c.reg (0x4100 + k) 6 then (9, x1.c.logical) else a.2.2
      let x2 := x1.onC (fun c => (c.setResult k r.1 r.2).setReg (0x4100 + k) 7 a.1)
      if r.1 = 0 then
        x2.onC (fun c => ((c.setSessionState k 2).opens .partner 5 0 0 n []).opens .children 5 0 0 n [])
      else x2.cancelSession k r.1

/-- SESSION_DECIDE (R292). -/
def execSessionDecide (session : Nat) (s : State) : Res := onX (Shopostra.decide_ session) s

/-- A COMMIT at a part: held for T_act; one later than T_act is for the next board-cycle start (R293). -/
def Common.commitRx (n : Nat) (c : Common kd) : Common kd :=
  match c.sessionSlot n with
  | none => c
  | some k =>
    let q := c.session k
    if c.sessionState k ≠ 1 then c
    else
      let late := decide (q.tAct < c.now)
      (c.setSessionState k 2).setSession k { q with late := late, deadline := if late then cycleStart c.now + cycleT else q.tAct }

/-- A COMMIT at a Shopostra goes on to the children. -/
def Shopostra.commitRx (n : Nat) (x : Shopostra) : Shopostra :=
  x.onC (fun c =>
    let c1 := c.commitRx n
    match c.sessionSlot n with
    | some k => if c.sessionState k = 1 ∧ x.fleet.active then c1.opens .children 5 0 0 n [] else c1
    | none => c1)

/-- A CANCEL at a Shopostra (R281). -/
def Shopostra.cancelRx (n cause : Nat) (x : Shopostra) : Shopostra :=
  match x.c.sessionSlot n with
  | none => x
  | some k => if x.c.sessionState k = 1 ∨ x.c.sessionState k = 2 then x.cancelSession k cause else x

/-- The answer to a child's QUERY (Table 8-5): none while the decision is not known here. -/
def Common.queryRx (port n : Nat) (c : Common kd) : Common kd :=
  match c.sessionSlot n with
  | none => c.opens (.port port) 6 9 0 n []
  | some k =>
    match c.sessionState k, (c.session k).tStop with
    | 1, _ => c
    | 6, _ => c.opens (.port port) 6 (c.reg (0x4100 + k) 8) 0 n []
    | _, some t => c.closes (.port port) 7 n (List.replicate 8 0 ++ bytesLE 16 (c.timeReg t))
    | _, none => c.opens (.port port) 5 0 0 n []

/-- SESSION_QUERY_RX (R288). -/
def execSessionQueryRx (port session : Nat) (s : State) : Res := onX (fun x => x.onC (Common.queryRx port session)) s

/-- A part that holds a PREPARED session past T_act asks both parents at each board-cycle start (R293). -/
def Common.queries (c : Common kd) : Common kd :=
  (List.range 256).foldl (fun (a : Common _) k =>
    if a.sessionState k = 1 ∧ (a.session k).tAct ≤ a.now ∧ (a.session k).tAct ≠ 0 ∧ (a.session k).held then
      a.opens .parents 9 0 0 (a.reg (0x4100 + k) 1) []
    else a) c

/-- The activation instant of a session held in COMMITTED: brings Tempo there, and the record to ACTIVE; some k when it
does. -/
def Common.activateRecord (n : Nat) (c : Common kd) : Common kd × Option Nat :=
  match c.sessionSlot n with
  | none => (c, none)
  | some k =>
    if c.sessionState k ≠ 2 then (c, none)
    else
      let q := c.session k
      let c1 := (c.arrive (if q.late then q.deadline else q.tAct)).setSessionState k 3
      (if q.late then c1.bump 0x4020 2 else c1, some k)

/-- Slots bound to a session. -/
def Shopostra.sessionSlots (x : Shopostra) (n : Nat) : List Nat :=
  x.busySlots.filter (fun s => decide (x.c.reg (0x6100 + s) 0x0C = n))

/-- Moves a session's entries and slots to a state. -/
def Shopostra.moveSession (x : Shopostra) (n entryState slotSt : Nat) : Shopostra :=
  let x1 := (x.sessionTags n).foldl (fun (a : Shopostra) t => a.setEntry t { a.entry t with state := entryState }) x
  (x.sessionSlots n).foldl (fun (a : Shopostra) s => a.onC (fun c => c.setReg (0x6100 + s) 1 slotSt)) x1

/-- T_act at a Shopostra: entries and slots become ACTIVE. -/
def Shopostra.activate (n : Nat) (x : Shopostra) : Shopostra :=
  let r := x.c.activateRecord n
  match r.2 with
  | none => x
  | some _ =>
    let x1 := ({ x with c := r.1 }).moveSession n 2 3
    (x1.sessionSlots n).foldl (fun (a : Shopostra) s => a.setSlot s { a.slot s with runs := 0 }) x1

/-- 100 ms after T_act without an answer (R293). -/
def Common.orphanRecord (n : Nat) (c : Common kd) : Common kd × Option Nat :=
  match c.sessionSlot n with
  | none => (c, none)
  | some k =>
    if c.sessionState k ≠ 1 then (c, none)
    else ((((c.arrive ((c.session k).tAct + msT 100)).endRecord k 6).bump 0x4020 5).reportUnstated n, some k)

/-- An orphan at a Shopostra. -/
def Shopostra.orphan (n : Nat) (x : Shopostra) : Shopostra :=
  let r := x.c.orphanRecord n
  match r.2 with
  | none => x
  | some _ => ({ x with c := r.1 }).freeSession n

/-! ## Teardown (R294, R298) -/

/-- T_stop of a record. -/
def Common.setStop (c : Common kd) (k : Nat) (t : Ticks) : Common kd :=
  (c.setReg (0x4100 + k) 5 (c.timeReg t)).setSession k { c.session k with tStop := some t }

/-- CLOSE goes downward, and from the apex to its mirror. -/
def Shopostra.sendClose (x : Shopostra) (n : Nat) (t : Ticks) : Shopostra :=
  let b := List.replicate 8 0 ++ bytesLE 16 (x.c.timeReg t)
  x.onC (fun c =>
    let c1 := if x.fleet.actingApex then c.closes .partner 7 n b else c
    if x.fleet.active then c1.closes .children 7 n b else c1)

/-- A write of T_stop of STRM_CLOSE. -/
def ruleClose (v : Nat) (x : Shopostra) : Shopostra × Option Abort :=
  let n := x.c.reg 0x4012 1
  let t := x.c.timeOf v
  let refuse := fun (a : Abort) => (x.onC (fun c => c.setReg 0x4012 3 1), some a)
  if !isCycleStart t ∨ t < x.c.now + usT 2000 then refuse .value
  else match x.c.sessionSlot n with
    | none => refuse .state
    | some k =>
      let st := x.c.sessionState k
      if !x.fleet.actingApex || x.c.isFenced || decide (3 < st) then refuse .state
      else
        let x1 := x.onC (fun c => (c.setReg 0x4012 2 (storedForm .time v)).setReg 0x4012 3 0)
        if st = 1 ∨ (st = 2 ∧ t ≤ (x.c.session k).tAct) then (x1.cancelSession k 12, none)
        else ((x1.onC (fun c => c.setStop k t)).sendClose n t, none)

/-- SESSION_CLOSE (R294). -/
def execSessionClose (r : Req) (v : Nat) (s : State) : Res := onX (fun x => x.ruled r 0x4012 2 v (ruleClose v)) s

/-- A CLOSE at a part, by the state of its record. One that answers a QUERY tells that the session was committed: the part
joins late while T_stop lies ahead, and leaves it otherwise; the second component says so. -/
def Common.closeRx (n stop : Nat) (c : Common kd) : Common kd × Bool :=
  let t := c.timeOf stop
  match c.sessionSlot n with
  | none => (c, false)
  | some k =>
    match c.sessionState k with
    | 1 => if t ≤ c.now then (((c.setStop k t).setReg (0x4100 + k) 8 12).endRecord k 6, true) else ((c.commitRx n).setStop k t, false)
    | 2 => (c.setStop k t, false)
    | 3 => (c.setStop k t, false)
    | _ => (c, false)

/-- A CLOSE at a Shopostra goes on to the children. -/
def Shopostra.closeRx (n stop : Nat) (x : Shopostra) : Shopostra :=
  let r := x.c.closeRx n stop
  let x1 := if r.2 then ({ x with c := r.1 }).freeSession n else { x with c := r.1 }
  match x.c.sessionSlot n with
  | some k => if x.c.sessionState k ≤ 3 ∧ x.fleet.active then
      x1.onC (fun c => c.closes .children 7 n (List.replicate 8 0 ++ bytesLE 16 (storedForm .time stop))) else x1
  | none => x1

/-- T_stop arrives at a part: the record is CLOSING. -/
def Common.stopRecord (n : Nat) (c : Common kd) : Common kd × Option Nat :=
  match c.sessionSlot n with
  | none => (c, none)
  | some k => match c.sessionState k, (c.session k).tStop with
    | 3, some t => ((c.arrive t).setSessionState k 4, some k)
    | _, _ => (c, none)

/-- A position whose entries of a CLOSING session are all free sends DRAIN_DONE when every answering child has; the apex
marks the session CLOSED (R294). -/
def Shopostra.drainCheck (x : Shopostra) (n : Nat) : Shopostra :=
  match x.c.sessionSlot n with
  | none => x
  | some k =>
    let q := x.c.session k
    let owed := q.acks.filter (fun a => decide (a.2.dies ≠ 0) && !q.drains.any (fun d => decide (d.1 = a.1)))
    if x.c.sessionState k = 4 ∧ x.sessionTags n = [] ∧ owed = [] ∧ q.drainSent = false then
      x.onC (fun c =>
        let c1 := (c.setSession k { q with drainSent := true }).endRecord k 5
        if x.atApex then c1
        else c1.closes .parents 8 n (bytesLE 4 ((q.drains.map (fun d => d.2.1)).sum) ++
          bytesLE 4 (q.timeouts + (q.drains.map (fun d => d.2.2)).sum)))
    else x

/-- T_stop at a Shopostra: entries become DRAINING. -/
def Shopostra.stopSession (n : Nat) (x : Shopostra) : Shopostra :=
  let r := x.c.stopRecord n
  match r.2 with
  | none => x
  | some _ => (({ x with c := r.1 }).moveSession n 3 4).drainCheck n

/-- A port of an entry is drained. -/
def Shopostra.endPort (x : Shopostra) (tag port : Nat) : Shopostra :=
  let e := x.entry tag
  if e.state = 0 ∨ port ∈ e.ended ∨ ¬ bitOf e.inPorts port then x else x.setEntry tag { e with ended := e.ended ++ [port] }

/-- END_RECORD_RX (R294): the END record of a stream arrives on a port, accepted as its frame is (R283). -/
def execEndRecordRx (port tag epoch : Nat) (s : State) : Res :=
  onX (fun x =>
    let r := x.acceptFrame port 0 tag epoch
    if r.2 then r.1.endPort tag port else r.1) s

/-- T_stop + 2,000 µs: a port without END is drained by timeout. -/
def Shopostra.drainTimeout (tag port : Nat) (x : Shopostra) : Shopostra :=
  let e := x.entry tag
  match x.c.sessionSlot e.session with
  | none => x
  | some k => match (x.c.session k).tStop with
    | none => x
    | some t =>
      if e.state ≠ 3 ∨ port ∈ e.ended ∨ ¬ bitOf e.inPorts port then x
      else (x.onC (fun c => ((c.arrive (t + usT 2000)).bump 0x4020 4).setSession k
        { c.session k with timeouts := (c.session k).timeouts + 1 })).endPort tag port

/-- DRAIN_TIMEOUT (R294). -/
def execDrainTimeout (tag port : Nat) (s : State) : Res := onX (Shopostra.drainTimeout tag port) s

/-- Whether an entry's own output has been sent: no interval or round is open, and its slot owes it no run (Table 10-14). -/
def Shopostra.outputSent (x : Shopostra) (tag : Nat) : Bool :=
  let tn := cycleStart x.c.now
  let bound := (List.range 512).filter (fun j => decide (x.c.reg (0x6200 + j) 1 = tag))
  !x.red.opened.any (fun i => decide (i.tag = tag)) && !x.ver.rounds.any (fun r => decide (r.tag = tag)) &&
    bound.all (fun j =>
      !x.inputOwes tag tn && !(x.slot (j / 8)).running &&
      (decide (j % 8 ≠ 0) || (x.boundInputs (j / 8)).all (fun i => !x.inputOwes (x.inputTag (j / 8) i) tn)))

/-- The END record of an entry's output (R294). -/
def Shopostra.endBytes (x : Shopostra) (tag : Nat) : List Nat :=
  let e := x.entry tag
  let last := match x.red.last.find? (fun o => decide (o.1 = tag)) with
    | some o => x.c.stamp o.2.instant
    | none => match e.interval, x.c.stopOf e.session with
      | 0, _ => 0
      | _, none => 0
      | i, some t => x.c.stamp (gridFloor i (t - 1))
  [0xEE, 0, 0, 0] ++ bytesLE 4 e.session ++ bytesLE 6 last ++ [0, 0]

/-- An entry is drained: the active member sends its END, tells the standby and frees it; the standby frees it when told. -/
def Shopostra.entryDrained (tag : Nat) (told : Bool) (x : Shopostra) : Shopostra :=
  let e := x.entry tag
  let done := e.ports.all (fun p => decide (p ∈ e.ended)) && x.outputSent tag
  if e.state ≠ 3 then x
  else if told then (x.freeEntry tag).drainCheck e.session
  else if !(done && x.fleet.active) then x
  else
    let x0 := if e.kind = 4 ∧ e.toParent = false then x.abandonSession e.session else x
    let x1 := x0.sendUp e.outClass tag x.c.logical (x.endBytes tag)
    let x2 := if x1.c.paired then x1.onC (fun c => c.message .partner "ENTRY_DRAINED" [tag]) else x1
    (x2.freeEntry tag).drainCheck e.session

/-- ENTRY_DRAINED (R294): at the active member, or (`told`) as the active member tells the standby. -/
def execEntryDrained (tag : Nat) (told : Bool) (s : State) : Res := onX (Shopostra.entryDrained tag told) s

/-- A child's DRAIN_DONE. -/
def Shopostra.drainDone (port n dies timeouts : Nat) (x : Shopostra) : Shopostra :=
  match x.c.sessionSlot n with
  | none => x
  | some k => (x.onC (fun c =>
      let q := c.session k
      c.setSession k { q with drains := putKey q.drains port (dies, timeouts) })).drainCheck n

/-- DRAIN_DONE_RX (R294). -/
def execDrainDoneRx (port session dies timeouts : Nat) (s : State) : Res := onX (Shopostra.drainDone port session dies timeouts) s

/-! ## Castle (R44) -/

/-- A spare Shopostra receives the stream-table entries and bindings held for L, and acknowledges. -/
def Shopostra.castleState (l : Nat) (entries : List (Nat × Entry)) (x : Shopostra) : Shopostra :=
  (entries.foldl (fun (a : Shopostra) e => a.setEntry e.1 e.2) x).onC (fun c => c.message .parents "CASTLE_ACK" [l])

end Sys2Proof.Machine
end

