-- ==== Sys2Proof/Machine/Elements.lean ====
section
/-! DEFINITION. The end of a slot's run (R362, R363), element tests of a Shopostra (R522), and the loss of an HBM stack
(R509). -/

namespace Sys2Proof.Machine

variable {kd : Part}

/-! ## A slot completes (R362, R363) -/

/-- The 256 bytes of a line. -/
def lineBytes (l : List Nat) : List Nat := ((l ++ List.replicate 64 0).take 64).flatMap (bytesLE 4)

/-- The output lines of a tile; lines that were not written read zero. -/
def Tile.outBytes (t : Tile) (lines : Nat) : List Nat :=
  (List.range lines).flatMap (fun i => lineBytes (lookupD [] t.out i))

/-- The notice of an ALARM. -/
def Shopostra.alarmBytes (x : Shopostra) (s : Nat) (tn : Ticks) (n : Nat × Nat × Nat) : List Nat :=
  bytesLE 4 (x.c.reg (0x6100 + s) 0x0C) ++ [s, n.2.1, n.1, 0] ++ bytesLE 4 n.2.2 ++ bytesLE 4 (x.c.reg (0x6100 + s) 0x0D) ++
    bytesLE 6 (x.c.stamp tn) ++ List.replicate 10 0

/-- A notice goes to the consumer of its code: logical tile, code and argument. -/
def Shopostra.alarm (s : Nat) (tn : Ticks) (x : Shopostra) (n : Nat × Nat × Nat) : Shopostra :=
  let b := x.alarmBytes s tn n
  if n.2.1 < 0x40 then x.onC (fun c => c.send (.message .nowhere "ALARM" b))
  else if n.2.1 < 0x80 then x.detNotice n.2.1 n.2.2 (x.c.reg (0x6100 + s) 0x0C)
  else x.onC (fun c => c.createRecord 1 0x05 b)

/-- A slot completes: the phases left run, its output message and at most 16 notices are sent. -/
def Shopostra.slotComplete (s : Nat) (x : Shopostra) : Shopostra :=
  let q0 := x.slot s
  match q0.prog with
  | none => x
  | some p =>
    if !q0.running then x
    else
      let tn := cycleStart q0.runAt
      let x1 := (List.range 8).foldl (fun (a : Shopostra) _ => a.runPhase s)
        (x.onC (fun c => c.arrive (q0.runAt + tanCycles (x.c.reg (0x6100 + s) 7))))
      let q := x1.slot s
      let addr := q.tiles.any (fun t => t.addrFault)
      let flags := 2 * b2n q.tileFault + 4 * b2n addr + 8 * b2n q.restarted + 16 * b2n q.stageDrop + 32 * b2n q.class3
      let x2 := if addr then x1.slotFault s 0 else x1
      let x3 := x2.emit 1 (x2.inputTag s 0) false tn (x2.outputHead s flags p.outLines tn ++ q.tiles.flatMap (fun t => t.outBytes p.outLines))
      let notices := (q.tiles.zip (List.range q.tiles.length)).flatMap (fun e => e.1.notices.reverse.map (fun n => (e.2, n.1, n.2)))
      let x4 := (notices.take 16).foldl (Shopostra.alarm s tn) x3
      (x4.onC (fun c => c.addReg 0x6004 4 (notices.length - 16))).setSlot s { q with running := false, restarted := false, tileFault := false }

/-- SLOT_RUN_COMPLETE (R362). -/
def execSlotRunComplete (slot : Nat) (s : State) : Res := onX (Shopostra.slotComplete slot) s

/-! ## Element tests (R522) -/

/-- The state of an element: TAN_TILE_STATE or RED_CELL_STATE. -/
def Common.elemState (c : Common kd) (e : Nat) : Nat := if e < 64 then c.reg 0x6001 (e + 1) else c.reg 0x5001 (e - 63)

/-- Whether a number names an element. -/
def isElement (e : Nat) : Bool := decide (e < 48 ∨ (64 ≤ e ∧ e < 128))

/-- Whether an element has been mapped out by fault three times within 24 h. -/
def Common.thrice (c : Common kd) (e : Nat) : Bool :=
  let at_ := (c.bist.faults.filter (fun f => decide (f.1 = e))).map Prod.snd
  at_.any (fun t => decide (3 ≤ (at_.filter (fun u => decide (t ≤ u ∧ u ≤ t + secT 86400))).length))

/-- Whether an element is due: every BIST_SX_PERIOD_S seconds, and at once when it is mapped out by fault. -/
def Common.elementDue (c : Common kd) (e : Nat) : Bool :=
  match c.elemState e with
  | 3 => false
  | 2 => !c.thrice e
  | _ => match c.bist.lastBegan.find? (fun b => decide (b.1 = e)) with
    | none => true
    | some b => decide (b.2 + secT (c.reg 0x3503 0) ≤ c.now)

/-- The part with an element out of service. -/
def Shopostra.without (x : Shopostra) (e : Nat) : Shopostra :=
  if e < 64 then x.onC (fun c => c.setReg 0x6001 (e + 1) 1) else x.onC (fun c => (c.setReg 0x5001 (e - 63) 1).countCells)

/-- Whether the admitted sessions still pass check 6 or check 7 without an element. -/
def Shopostra.spares (x : Shopostra) (e : Nat) : Bool :=
  let y := x.without e
  if e < 64 then decide (y.busySlots = []) || y.arrayFits else y.check6

/-- A due element is taken out of service at a board-cycle start; one in state 2 stays in it. -/
def Shopostra.elementStart (e : Nat) (x : Shopostra) : Shopostra :=
  let x0 := if isCycleStart x.c.now then x else x.onC (fun c => c.arrive (cycleStart c.now + cycleT))
  let c := x0.c
  if !isElement e || decide (c.reg 0x3500 0 = 0) || c.bist.stopped || c.bist.current.isSome || !c.elementDue e ||
      decide (c.elemState e = 0) && !x0.spares e then x0
  else
    let x1 := if c.elemState e = 0 then (x0.without e) else x0
    let x2 := if e < 64 then x1.reschedule else x1
    x2.onC (fun c => { c with bist := { c.bist with
      current := some { newTest e 0 0xFFFF none c.now with isoAt := none }, lastBegan := putKey c.bist.lastBegan e c.now } })

/-- ELEMENT_TEST_START (R522). -/
def execElementTestStart (element : Nat) (s : State) : Res := onX (Shopostra.elementStart element) s

/-- An element test ends: result 0 passed, 1 passed after a repair (`repair` holds bits [62:24] of its entry), 2 failed. A
pass returns the element to service at the next board-cycle start. -/
def Shopostra.elementDone (result repair : Nat) (x : Shopostra) : Shopostra :=
  match x.c.bist.current with
  | none => x
  | some t =>
    let e := t.unit
    let faulted := x.c.bist.faults.any (fun f => decide (f.1 = e ∧ t.began ≤ f.2))
    let free := x.c.freeSoft (x.c.reg 0x3570 0)
    let r := if faulted then 2 else if result = 1 ∧ free.isNone then 2 else min result 2
    let c0 := match r, free with
      | 1, some i => x.c.setReg 0x3570 (i + 1) (2 ^ 63 + bits repair 62 24 * 2 ^ 24 + e)
      | _, _ => x.c
    let c1 := (c0.setTest none).recordResult { t with result := r, last := 2 }
    let x1 := { x with c := c1 }
    if r = 2 ∨ (x.c.elemState e = 2 ∧ x.c.thrice e) then x1 else x1.changeTile e 0

/-- ELEMENT_TEST_COMPLETE (R522). -/
def execElementTestComplete (result repair : Nat) (s : State) : Res := onX (Shopostra.elementDone result repair) s

/-! ## Loss of an HBM stack (R509) -/

/-- Every ring, log and image held in the store ends; records go to NOR only, and check 9 refuses every session. -/
def Shopostra.stackLoss (stack : Nat) (x : Shopostra) : Shopostra :=
  let x1 := { x with hist := { x.hist with rings := [], lost := true, readPos := none, reading := [] } }
  let x2 := x1.onRed (fun r => { r with log := [] })
  x2.onC (fun c =>
    let c1 : Common .shopostra := { c with log := { c.log with volatileLog := [], persistWaiting := [], noVolatile := true, readPos := none, reading := [] } }
    let c2 := c1.onFlag (fun f => { f with images := [], saved := none, dieSaved := [] })
    c2.reportCode 3 0x0F05 stack)

/-- HBM_STACK_LOSS (R509). -/
def execHbmStackLoss (stack : Nat) (s : State) : Res := onX (Shopostra.stackLoss stack) s

end Sys2Proof.Machine
end

