-- ==== Sys2Proof/Machine/Values.lean ====
section
/-! DEFINITION. What a READ or a BLOCK_READ of an object returns: values held outside the register store, and the bytes
of the BLOBs (R583, R586). -/

namespace Sys2Proof.Machine

variable {kd : Part}

/-! ## Bytes that the spec does not lay out -/

/-- So many bytes of a thing whose layout is not stated. -/
def freeBytes (what : Nat) (content : List Nat) (n : Nat) : List Nat :=
  (List.range n).map (fun i => Config.freeByte what content (i + 1) % 256)

/-- A BLOB whose layout is not stated: its length is free as well. -/
def freeBlob (idx : Nat) (content : List Nat) : List Nat := freeBytes idx content (Config.freeByte idx content 0)

/-- Bytes of a BLOB that is written by words; 0 for the others (Tables 11-6, 17-5 and 18-7). -/
def blobBytes (idx sub : Nat) : Nat :=
  if idx = 0x6401 then 48
  else if idx = 0x7203 then (if sub = 1 then 16 else if sub = 2 then 128 else 0)
  else if idx = 0x7210 then (if sub = 5 then 128 else if 3 ≤ sub ∧ sub ≤ 6 then 16 else 0)
  else if idx = 0x3860 then (if sub = 4 ∨ sub = 5 then 96 else 0)
  else if idx = 0x3870 then 20
  else 0

/-! ## Snapshot images (R474 to R476) -/

/-- What tells a CONTROL payload from another: a number and its fields. -/
def ctlNumbers : CtlBody → Nat × List Nat
  | .request q => (0x80, [q.reqId, q.target, q.idx, q.sub, q.word, q.count, q.offset] ++ q.data)
  | .response q => (0x81, [q.reqId, q.responder, q.abort, q.idx, q.sub, q.data])
  | .tempoMode m s => (0x100, [m, s])
  | .tempoEpoch e => (0x101, [e])
  | .assign p l => (0x102, [p, l])
  | .castleBind l s x t => (0x103, [l, s, x, t])
  | .castleCancel l => (0x104, [l])
  | .castleAck l => (0x105, [l])
  | .other t f => (t, f)

/-- The 240 payload bytes of a captured frame; those of a CONTROL frame are free. -/
def framePayload (f : Frame) : List Nat :=
  match f.body with
  | .data b => (b ++ List.replicate (240 - b.length) 0).take 240
  | .control b => freeBytes (ctlNumbers b).1 (ctlNumbers b).2 240

/-- The captured frames of an image, each under its head (Table 14-4, KIND 5). -/
def SnapImage.captured (i : SnapImage) : List (List Nat) :=
  i.ports.flatMap (fun k =>
    let short : Nat := match k.sent with
      | none => 0
      | some s => (s.map (fun q => (k.owed q.1).getD 0)).sum
    k.frames.map (fun f => [k.port, f.1, f.2.queue, b2n k.incomplete] ++ bytesLE 4 short ++ frameHeader f.2 ++ framePayload f.2))

/-- The largest image of the part (R476). -/
def Common.imageLimit (c : Common kd) : Nat := match c.kind with | .vangeg => 262144 | .shopostra => 67108864

/-- Entries of a section that fit in `room` bytes, cut at an entry boundary; whether any was cut. -/
def fitEntries (room : Nat) : List (List Nat) → List (List Nat) × Bool
  | [] => ([], false)
  | e :: l => if e.length ≤ room then (let q := fitEntries (room - e.length) l; (e :: q.1, q.2)) else ([], true)

/-- Sections in increasing KIND, each under its head, within `room` bytes. -/
def fitSections : Nat → List (Nat × List (List Nat)) → List Nat × Bool
  | _, [] => ([], false)
  | room, s :: l =>
    let q := fitEntries (room - 8) s.2
    let b := sectionHeader s.1 q.1.length 0 ++ q.1.flatten
    let r := fitSections (room - b.length) l
    (b ++ r.1, q.2 || r.2)

/-- The bytes of an image (Table 14-3). -/
def Common.imageBytes (c : Common kd) (i : SnapImage) : List Nat :=
  let ss := i.sections.map (fun s => if s.1 = 5 then (5, i.captured) else s)
  let body := fitSections (c.imageLimit - 40) ss
  let pad := body.1 ++ List.replicate ((8 - body.1.length % 8) % 8) 0
  let flags := i.flags / 2 * 2 + b2n (body.2 || bitOf i.flags 0 || i.ports.any PortCapture.incomplete)
  let head := fun (crc : Nat) => [0x60, 1, i.kind, flags] ++ bytesLE 2 i.id ++ [i.hops, ss.length] ++ bytesLE 6 (c.stamp i.t) ++ [0, 0] ++
    bytesLE 4 c.logical ++ bytesLE 4 c.phys ++ bytesLE 4 ((32 + pad.length) / 8) ++ bytesLE 4 crc
  head (crc32c (head 0 ++ pad)) ++ pad

/-- The image that FLAG_SNAP_SEL names. -/
def Common.selectedImage (c : Common kd) : Option SnapImage := c.flag.images.find? (fun i => decide (i.id = c.reg 0x3410 0))

/-- FLAG_SNAP_STATUS: 0 none, 1 capturing, 2 complete, 3 incomplete. -/
def Common.snapStatus (c : Common kd) : Nat :=
  match c.selectedImage with
  | none => 0
  | some i =>
    if i.ports.any (fun k => !k.done && !k.incomplete) then 1
    else if i.ports.any PortCapture.incomplete || (fitSections (c.imageLimit - 40) (i.sections.map (fun s =>
      if s.1 = 5 then (5, i.captured) else s))).2 then 3
    else 2

/-! ## Values -/

/-- A value of the common units that the register store does not hold. -/
def Common.liveValue (c : Common kd) (idx sub : Nat) : Nat :=
  match idx, sub with
  | 0x1202, 0 => c.timeValue c.now
  | 0x1203, 0 => cycleNo c.now
  | 0x120C, 0 => c.countHoldover.reg 0x120C 0
  | 0x1032, 5 => c.ctl.relayed.length + c.ctl.fences.length
  | 0x3411, 0 => c.snapStatus
  | 0x4000, 3 => ((List.range 256).filter (fun k => decide (1 ≤ c.sessionState k ∧ c.sessionState k ≤ 4))).length
  | 0x7001, 1 => (match c.live.lease with | some t => c.timeValue t | none => 0)
  | _, _ =>
    if idx = 0x3704 ∧ sub ≠ 0 then c.recPos sub
    else if 0x1430 ≤ idx ∧ idx < 0x1460 ∧ sub ≠ 0 ∧ sub % 8 = 5 then toTwos 64 ((c.bucket (idx - 0x1430) (sub / 8)).tdiv 1000)
    else c.reg idx sub

/-- The value of an object of a Vangeg (R583). -/
def Vangeg.value (v : Vangeg) (idx sub : Nat) : Except Abort Nat :=
  if idx = 0x4000 ∧ sub = 2 then .ok ((List.range 32).filter (fun i => decide (v.c.reg 0x4800 (i + 1) = 0))).length
  else if 0x2000 ≤ idx ∧ idx < 0x2800 ∧ sub = 2 then
    .ok (let n := v.c.reg idx 2
         if bitOf (v.c.reg (0x2800 + (idx - 0x2000) / 8 / 128) ((idx - 0x2000) / 8 % 128 + 1)) 7 ∧ v.c.cellOwner ((idx - 0x2000) / 8) ≠ 0xFF
         then withBit n 11 true else n)
  else .ok (v.c.liveValue idx sub)

/-- The value of an object of a Shopostra (R583). -/
def Shopostra.value (x : Shopostra) (idx sub : Nat) : Except Abort Nat :=
  match idx, sub with
  | 0x4000, 2 => .ok (65534 - x.usedTags.length)
  | 0x5011, 4 => .ok x.descStatus
  | 0x5040, 1 => .ok x.redLogBytes
  | 0x5040, 2 => .ok x.redLogOldest
  | 0x5040, 3 => .ok (if x.c.portUp x.c.mirrorPort then x.c.mirrorPort else 0xFF)
  | 0x7011, 5 => .ok (match x.holder (x.c.reg 0x7011 1) with | some h => h.2 | none => 0)
  | 0x7100, 4 => .ok x.unitsFree
  | _, _ =>
    if idx = 0x5030 ∧ 5 ≤ sub then x.quantileOf sub
    else if idx = 0x7111 ∧ sub ≠ 0 then .ok (x.histRing sub)
    else if 0x4100 ≤ idx ∧ idx < 0x4200 ∧ sub = 10 then
      .ok (x.c.reg idx 10 + (((x.table.filter (fun e => decide (e.2.state ≠ 0 ∧ e.2.session = x.c.reg idx 1))).map
        (fun e => e.2.missing)).sum))
    else .ok (x.c.liveValue idx sub)

/-! ## BLOBs -/

/-- The directory: one 4-byte entry per defined index (Table 19-9). -/
def Common.directory (c : Common kd) : List Nat :=
  ((List.range 0x6300).map (· + 0x1000)).flatMap (fun i =>
    if c.exists_ i 0 then bytesLE 2 i ++ [if isRecord i then c.reg i 0 else 0, 0] else [])

/-- The bytes of a BLOB that both parts hold, and of one written by words. -/
def Common.blob (c : Common kd) (idx sub : Nat) : Except Abort (List Nat) :=
  match idx with
  | 0x1001 => .ok c.directory
  | 0x1244 => .ok (c.tempo.chordResult.flatMap (fun q => bytesLE 4 q.1 ++ bytesLE 4 (toTwos 32 q.2.1) ++ bytesLE 4 q.2.2.1 ++
      bytesLE 4 (b2n q.2.2.2)))
  | 0x3412 => (match c.selectedImage with | some i => .ok (c.imageBytes i) | none => .error .state)
  | 0x3413 => .ok (c.flag.images.flatMap (fun i => bytesLE 2 i.id ++ [i.kind, 0] ++ bytesLE 6 (c.stamp i.t) ++ [0, 0]))
  | 0x3580 => .ok c.bist.details.flatten
  | _ => .ok (bytesLE (blobBytes idx sub) (c.reg idx sub))

/-- The bytes of a BLOB of a Vangeg. A layout that the spec does not state is free. -/
def Vangeg.blob (v : Vangeg) (idx sub : Nat) : Except Abort (List Nat) :=
  if 0x3630 ≤ idx ∧ idx < 0x3640 ∧ sub = 7 then
    .ok (((lookupD [] v.sig.ranges (idx - 0x3630)).take 8).flatMap (fun r => bytesLE 4 r.1 ++ bytesLE 4 r.2))
  else match idx with
    | 0x3641 =>
      (let l := ((v.unit (v.c.reg 0x3640 0)).recent.take 64).flatMap (fun q => bytesLE 4 q.1 ++ [0, 0, 0, 0] ++ bytesLE 8 q.2)
       .ok (l ++ List.replicate (1024 - l.length) 0))
    | 0x3650 => .ok (freeBlob idx (v.sig.peers.flatMap (fun j => j.1 :: j.2.flatMap (fun e => [e.epoch, b2n e.overflow] ++ e.receivers))))
    | 0x7020 => .ok v.c.live.notices.flatten
    | 0x7031 => .ok v.c.live.rehearsals.flatten
    | _ => v.c.blob idx sub

/-- The bytes of a BLOB of a Shopostra; "tray only" and "apex only" objects are read at those positions alone. -/
def Shopostra.blob (x : Shopostra) (idx sub : Nat) : Except Abort (List Nat) :=
  match idx with
  | 0x4002 => .ok (x.entry (x.c.reg 0x4001 0)).bytes
  | 0x5012 =>
    .ok ((List.range 64).flatMap (fun w => bytesLE 8 (lookupD 0 (x.redDesc (x.c.reg 0x5010 0)).words w)))
  | 0x5031 => x.readoutBytes
  | 0x6005 => .ok ((freeBlob idx []).zipIdx.map (fun q => Config.fnTable q.2 % 256))
  | 0x6402 => .ok ((List.range 8).flatMap (fun n => romHeaderBytes (n + 1)))
  | 0x3683 =>
    .ok (match x.ver.taints.find? (fun t => decide (t.1 = x.c.reg 0x3682 1 ∧ t.2.1 = x.c.reg 0x3682 2)) with
      | some t => freeBlob idx ([t.1, t.2.1] ++ t.2.2.flatMap (fun e => [e.1, e.2]))
      | none => [])
  | 0x3684 => .ok x.ver.log.flatten
  | 0x3685 =>
    if x.c.reg 0x1012 0 ≠ 0 then .error .state
    else .ok (x.ver.classes.flatMap (fun e => bytesLE 4 e.phys ++ [e.unit, e.cls] ++ bytesLE 2 e.bucket ++ bytesLE 6 e.stamp ++ [0, 0]))
  | 0x3710 =>
    if x.c.reg 0x1012 0 ≠ 0 then .error .state
    else .ok (x.mgt.dies.flatMap (fun d => bytesLE 8 d.1 ++ bytesLE 4 d.2.1 ++ bytesLE 4 d.2.2.1 ++ bytesLE 8 d.2.2.2.1 ++
      [b2n d.2.2.2.2] ++ List.replicate 7 0))
  | 0x7012 =>
    if x.c.reg 0x1012 0 ≠ 3 then .error .state
    else .ok ((List.range 1048576).flatMap (fun l =>
      let q := lookupD (0, 0) x.fleet.map l
      bytesLE 4 q.1 ++ bytesLE 4 q.2))
  | 0x1130 => .ok ((List.range calLength).map (calByte x.mgt.calNor))
  | _ => x.c.blob idx sub

end Sys2Proof.Machine
end

