-- ==== Sys2Proof/Machine/Objects.lean ====
section
/-! DEFINITION. The rules of written objects: which rule each object's value must pass and what it does, for the objects
with a rule of their own and for the others by their ranges (R579, R585). -/

namespace Sys2Proof.Machine

variable {kd : Part}

/-! ## Objects without a rule of their own -/

/-- A slice number, or 0xFF. -/
def sliceOrNone (v : Nat) : Bool := decide (v < 64 ∨ v = 0xFF)

/-- Whether a value lies in a range. -/
def within (v lo hi : Nat) : Bool := decide (lo ≤ v ∧ v ≤ hi)

/-- The range that an object's table gives its value. -/
def objRange (idx sub v : Nat) : Bool :=
  match idx with
  | 0x1014 => within v 0 1
  | 0x1031 => within v 1000 1000000
  | 0x1130 => within v 0 9216 && decide (v % 8 = 0)
  | 0x1142 => within v 0 1840 || decide (2 ^ 15 ≤ v)
  | 0x1206 => within v 0 1
  | 0x1230 => within v 24 43
  | 0x1231 => within v 0 3
  | 0x1235 => within v 0 2
  | 0x1240 => within v 0 1
  | 0x1241 => within v 80 64000
  | 0x1242 => within v 0 16
  | 0x1404 => within v 0 9760
  | 0x1407 => within v 1 8000
  | 0x2910 => if sub = 3 then within v 1 65535 else true
  | 0x2911 =>
    (match sub with
     | 2 => sliceOrNone v
     | 3 => decide (v % 4096 = 0)
     | 4 => within v 16 30
     | 5 => decide (v % 8 = 0)
     | 8 => within v 1 65535
     | _ => true)
  | 0x2912 =>
    (match sub with
     | 2 => decide (v % 4096 = 0)
     | 3 => within v 16 30
     | 4 => decide (v % 8 = 0)
     | _ => true)
  | 0x3400 => if sub = 1 then within v 1 4 else true
  | 0x3500 => within v 0 1
  | 0x3603 => if sub = 1 then within v 100 10000 else within v 1 1000
  | 0x3870 => within (bits v 135 128) 0 128 && within (bits v 143 136) 0 4
  | 0x3706 => if sub = 1 then within v 0 3 else true
  | 0x3860 => if sub = 3 then within v 1 3600 else true
  | 0x4010 => if sub = 2 then decide (v % 8 = 0) else within v 16 65536
  | 0x5030 => if sub = 4 then within v 1 65536 else true
  | 0x6400 =>
    (match sub with
     | 3 => within v 320 4194304
     | 4 => within v 0 63
     | 5 => within v 0 8
     | _ => true)
  | 0x7021 => sliceOrNone v
  | 0x7030 => if sub = 1 then within v 1 3 else if sub = 3 ∨ sub = 4 then within v 1 65535 else true
  | 0x7101 => within v 1 3600
  | 0x7102 => within v 0 400000
  | 0x7210 => if sub = 7 then within v 0 1 else true
  | 0x7211 => within v 0 1
  | _ =>
    if 0x14C0 ≤ idx ∧ idx < 0x14F0 then within v 1 64
    else if 0x3200 ≤ idx ∧ idx < 0x3204 then
      (match sub with
       | 2 => sliceOrNone v
       | 3 => decide (v % 4096 = 0)
       | 4 => within v 16 30
       | 5 => decide (v % 8 = 0)
       | _ => true)
    else if 0x3630 ≤ idx ∧ idx < 0x3640 then sliceOrNone v
    else if 0x6200 ≤ idx ∧ idx < 0x6400 then
      (match sub with
       | 2 => within v 1 64
       | 3 => within v 0 1
       | 6 => within v 256 4096 && decide (v % 256 = 0)
       | _ => true)
    else true

/-- A value with its reserved fields read as zero (R17). -/
def withoutReserved (idx sub v : Nat) : Nat :=
  if (idx = 0x2910 ∧ sub = 8) ∨ (idx = 0x2911 ∧ sub = 13) then v % 8
  else if idx = 0x3620 ∨ idx = 0x3621 then
    (if v = 0xFFFFFFFF then v else bits v 21 16 * 2 ^ 16 + bits v 13 8 * 2 ^ 8 + v % 16)
  else if idx = 0x5031 ∧ sub = 4 then v % 2
  else if idx = 0x3870 then
    (if bitOf v 144 then v % 2 ^ 144 + 2 ^ 144 else v % 2 ^ 144)
  else v

/-- The write of an object that has no rule of its own (R579): its range, then the value is stored. -/
def ruleStore (idx sub v : Nat) (c : Common kd) : Common kd × Option Abort :=
  if objRange idx sub v then c.store idx sub (withoutReserved idx sub v) else (c, some .value)

/-! ## Part fences (R594) -/

/-- A write of FENCE_REQ starts a part fence. -/
def ruleFenceReq (v : Nat) (c : Common kd) : Common kd × Option Abort :=
  let n := c.takeSerial
  let f : Fence := { serial := n.2, req := some v, path := .firmware, source := 0, reqId := 0, idx := 0, sub := 0 }
  (({ n.1 with ctl := { n.1.ctl with fences := n.1.ctl.fences ++ [f] } }).setReg 0x1030 1 v, none)

/-! ## Objects of the common units -/

/-- The rule of an object of the common units; none where it has none of its own. -/
def Common.ruleOf (idx sub v : Nat) : Option (Common kd → Common kd × Option Abort) :=
  match idx with
  | 0x1030 => some (ruleFenceReq v)
  | 0x1200 => some (ruleTempoMode v)
  | 0x1201 => some (ruleTempoEpoch v)
  | 0x1204 => some (ruleTempoIncr v)
  | 0x1207 => some (ruleTempoStep v)
  | 0x120D => some (ruleSourceSel v)
  | 0x120F => some (ruleTod v)
  | 0x1210 => some (ruleTempoCmp sub v)
  | 0x1221 => some (ruleLinkAsym sub v)
  | 0x1301 => some (rulePortEnable (sub - 1) v)
  | 0x130F => some (rulePortCredits sub v)
  | 0x1401 => some (rulePolicy sub v)
  | 0x1402 => some (ruleClassQueue sub v)
  | 0x3504 => if sub = 3 then some (ruleBistRequest v) else none
  | 0x3701 => some (ruleRecSelect idx v)
  | 0x3702 => some (ruleRecSelect idx v)
  | 0x3860 =>
    if sub = 2 then some (ruleDbgScope v)
    else if sub = 4 then some (fun c => (c.onDbg (fun d => { d with key := v }), none))
    else if sub = 8 then some (ruleDbgEnd v)
    else none
  | _ =>
    if isAmount idx then some (ruleAmount idx sub v)
    else if 0x1430 ≤ idx ∧ idx < 0x1460 then some (ruleShape (idx - 0x1430) sub v)
    else if 0x1460 ≤ idx ∧ idx < 0x1490 then some (ruleGclAdmin (idx - 0x1460) sub v)
    else if 0x14C0 ≤ idx ∧ idx < 0x14F0 ∧ sub = 2 then some (ruleGclSwitch (idx - 0x14C0) v)
    else none

/-- Whether a write of an object only sets it to zero (R579). -/
def clears (idx sub : Nat) : Bool :=
  match findRow idx sub with
  | some o => decide (o.acc = .rwc)
  | none => false

/-- A write under the rules of the common units, or by range alone. -/
def Common.applyWrite (idx sub v : Nat) (c : Common kd) : Common kd × Option Abort :=
  if clears idx sub then (c.setReg idx sub 0, none)
  else match Common.ruleOf idx sub v with
    | some f => f c
    | none => ruleStore idx sub v c

/-! ## Objects of a Vangeg -/

/-- BIST_FUSE_BURN at a Vangeg (R521). -/
def Vangeg.ruleFuse (r : Req) (v : Nat) (y : Vangeg) : Vangeg × Option Abort :=
  let q := ruleFuseBurn r (y.bnd.fuses.drop 24) v y.c
  let burning := match q.1.bist.burn, y.c.bist.burn with
    | some k, none => some k.2
    | _, _ => y.bnd.burning
  ({ y with c := q.1, bnd := { y.bnd with burning := burning } }, q.2)

/-- The rule of an object of a Vangeg. -/
def Vangeg.ruleOf (r : Req) (idx sub v : Nat) : Option (Vangeg → Vangeg × Option Abort) :=
  match idx with
  | 0x2900 => some (Vangeg.ruleLatchPeriod v)
  | 0x2902 => if sub = 4 then some (Vangeg.ruleCmd r v) else none
  | 0x2910 => if sub = 1 then some (Vangeg.ruleAggEnable v) else if 4 ≤ sub ∧ sub ≤ 7 then some (Vangeg.ruleMask idx sub 4 v) else none
  | 0x2911 =>
    if sub = 1 then some (Vangeg.ruleRingEnable 0 v)
    else if sub = 7 then some (Vangeg.ruleRptr 0 v)
    else if 9 ≤ sub ∧ sub ≤ 12 then some (Vangeg.ruleMask idx sub 9 v)
    else none
  | 0x2912 => if sub = 1 then some (Vangeg.ruleRingEnable 1 v) else if sub = 6 then some (Vangeg.ruleRptr 1 v) else none
  | 0x3001 => if sub = 3 then some (Vangeg.ruleTrcCmd r v) else none
  | 0x3572 => some (Vangeg.ruleFuse r v)
  | 0x3601 => some (ruleCleanJob v)
  | 0x3804 => some (Vangeg.ruleDriverPasid v)
  | 0x3805 => if sub = 1 then some (ruleV (ruleIntrAddr idx sub v)) else none
  | 0x3860 => if sub = 5 then some (fun y => ruleV (ruleDbgSig y.keyHash v) y) else none
  | _ =>
    if 0x2000 ≤ idx ∧ idx < 0x2800 then
      (let cell := (idx - 0x2000) / 8
       let k := (idx - 0x2000) % 8
       match sub with
       | 1 => some (Vangeg.ruleValue cell k v)
       | 2 => some (Vangeg.ruleConfig cell k v)
       | 3 => some (Vangeg.ruleReload cell k v)
       | _ => none)
    else if idx = 0x2800 ∨ idx = 0x2801 then some (Vangeg.ruleCellOwner ((idx - 0x2800) * 128 + (sub - 1)) v)
    else if 0x2B00 ≤ idx ∧ idx < 0x2B10 then
      (if sub = 1 then some (Vangeg.ruleBwSrc (idx - 0x2B00) v) else if sub = 2 then some (Vangeg.ruleBwShape (idx - 0x2B00) v) else none)
    else if 0x3010 ≤ idx ∧ idx < 0x3018 then some (Vangeg.ruleCmp (idx - 0x3010) sub v)
    else if 0x3100 ≤ idx ∧ idx < 0x3110 then (if sub ≤ 3 then some (Vangeg.ruleSrcConfig (idx - 0x3100) sub v) else none)
    else if 0x3200 ≤ idx ∧ idx < 0x3204 then
      (if sub = 1 then some (Vangeg.ruleRingEnable (idx - 0x3200 + 2) v)
       else if sub = 7 then some (Vangeg.ruleRptr (idx - 0x3200 + 2) v) else none)
    else if 0x3510 ≤ idx ∧ idx < 0x3550 then some (ruleV (rulePlan (idx - 0x3510) sub v))
    else if 0x3610 ≤ idx ∧ idx < 0x3620 then some (ruleSigGroup (idx - 0x3610) sub v none)
    else if 0x3810 ≤ idx ∧ idx < 0x3850 then
      (match sub with
       | 2 => some (Vangeg.ruleSlicePasid (idx - 0x3810) v)
       | 3 => some (Vangeg.ruleSliceCmd r (idx - 0x3810) v)
       | 4 => some (ruleV (ruleIntrAddr idx sub v))
       | _ => none)
    else none

/-- The write of a value to an object of a Vangeg, past its type. -/
def Vangeg.applyWrite (r : Req) (idx sub v : Nat) (x : Vangeg) : Vangeg × Option Abort :=
  if clears idx sub then (x.onC (fun c => c.setReg idx sub 0), none)
  else match Vangeg.ruleOf r idx sub v with
    | some f => f x
    | none => ruleV (Common.applyWrite idx sub v) x

/-! ## Objects of a Shopostra -/

/-- BIST_FUSE_BURN at a Shopostra (R521). -/
def Shopostra.ruleFuse (r : Req) (v : Nat) (y : Shopostra) : Shopostra × Option Abort :=
  let q := ruleFuseBurn r y.pkg.fuseRepairs v y.c
  ({ y with c := q.1 }, q.2)

/-- A rule that needs a fact held by other parts: the fact is free here, below `2 ^ w`. -/
def withFact (w : Nat) (f : Nat → Shopostra → Shopostra × Option Abort) (x : Shopostra) : Shopostra × Option Abort :=
  let q := x.c.drawFree w
  f q.2 { x with c := q.1 }

/-- The child port that leads to the part with a physical address, where it is a direct child. -/
def Shopostra.portOf (x : Shopostra) (phys : Nat) : Nat :=
  (((List.range 32).map childPort).find? (fun p => decide (x.c.reg 0x1312 (p + 1) = phys))).getD 0

/-- The write of an object that only the apex takes. -/
def apexStore (idx sub v : Nat) (x : Shopostra) : Shopostra × Option Abort :=
  if !objRange idx sub v then (x, some .value) else if x.fleet.actingApex then ruleX (ruleStore idx sub v) x else (x, some .state)

/-- The rule of an object of a Shopostra. -/
def Shopostra.ruleOf (r : Req) (idx sub v : Nat) : Option (Shopostra → Shopostra × Option Abort) :=
  match idx with
  | 0x1012 => some (ruleLevelRole v)
  | 0x1200 => some (Shopostra.ruleMode v)
  | 0x1201 => some (Shopostra.ruleEpoch v)
  | 0x1014 => some (fun x => if 1 < v then (x, some .value) else if x.c.reg 0x1012 0 ≠ 0 then (x, some .state)
      else ruleX (ruleStore idx sub v) x)
  | 0x1130 => if sub = 1 then some (ruleCalData v) else if sub = 3 then some (ruleCalCommit v) else none
  | 0x3400 => if sub = 3 then some (ruleTrig v) else none
  | 0x3572 => some (Shopostra.ruleFuse r v)
  | 0x3681 => if sub = 3 then some (ruleSigResume v) else none
  | 0x3711 => if sub = 3 then some (ruleDieSet v) else none
  | 0x3860 => if sub = 5 then some (fun y => ruleX (ruleDbgSig y.pkg.fuseKeyHash v) y) else none
  | 0x4010 => some (ruleDesc sub v)
  | 0x4011 => some (ruleOpen v)
  | 0x4012 => if sub = 2 then some (ruleClose v) else none
  | 0x5010 => some (ruleRedDesc idx sub v)
  | 0x5011 => some (ruleRedDesc idx sub v)
  | 0x5041 => if sub = 4 then some (withFact 1 (fun n => ruleReplay v (decide (n = 1)))) else none
  | 0x6020 => some (ruleTanSeed (sub - 1) v)
  | 0x6400 => if sub ≤ 2 then some (ruleTanLoad sub v) else if sub = 6 then some (ruleTanCommit v) else none
  | 0x7005 => if sub = 2 then some (ruleFenceCmd v) else some (apexStore idx sub v)
  | 0x7010 =>
    if sub = 1 then some (fun x => if x.fleet.actingApex then (x.onFleet (fun f => { f with assignPhys := v }), none)
      else (x, some .state))
    else some (fun x => ruleAssign v (tierOf v - 1) (x.portOf x.fleet.assignPhys) x)
  | 0x7011 => if sub = 3 then some (withFact 3 (fun n => ruleCastle v (decide (n / 4 = 1)) (n % 4))) else some (apexStore idx sub v)
  | 0x7030 => if sub = 7 then some (ruleGambit v) else some (apexStore idx sub v)
  | 0x7101 => some (fun x => if !within v 1 3600 then (x, some .value) else if x.c.inSession then (x, some .state)
      else ruleX (ruleStore idx sub v) x)
  | 0x7110 => some (ruleHistSelect idx v)
  | 0x7112 => some (ruleHistSeek v)
  | 0x7113 => some (ruleHistSelect idx v)
  | 0x7201 => some (ruleSecFloor v)
  | 0x7202 => some (ruleMgtReset v)
  | 0x7203 => if sub = 3 then some (ruleUpdateCmd v) else none
  | 0x7210 => if sub = 8 then some (ruleParamCommit v) else none
  | _ =>
    if 0x6100 ≤ idx ∧ idx < 0x6140 then some (ruleTanSlot idx sub v)
    else if 0x6200 ≤ idx ∧ idx < 0x6400 then
      some (fun x => if objRange idx sub v then ruleTanSlot idx sub v x else (x, some .value))
    else none

/-- The write of a value to an object of a Shopostra, past its type. -/
def Shopostra.applyWrite (r : Req) (idx sub v : Nat) (x : Shopostra) : Shopostra × Option Abort :=
  if clears idx sub then (x.onC (fun c => c.setReg idx sub 0), none)
  else match Shopostra.ruleOf r idx sub v with
    | some f => f x
    | none => ruleX (Common.applyWrite idx sub v) x

end Sys2Proof.Machine
end

