-- ==== Sys2Proof/Machine/Dictionary.lean ====
section
/-! DEFINITION. Dictionary transactions (R583 to R596) on every path: the register port, the I3C target, management
Ethernet and CONTROL frames; staging, cursors, routing, relays and part fences. -/

namespace Sys2Proof.Machine

variable {kd : Part}

/-! ## One engine for both parts -/

/-- What the transaction engine needs of a part. -/
structure Face (kd : Part) (α : Type) where
  com : α → Common kd
  onC : (Common kd → Common kd) → α → α
  /-- The slice rules of R559 and R572, and R570. -/
  slice : Req → Nat → Nat → α → Bool
  resetting : Req → α → Bool
  rule : Req → Nat → Nat → Nat → α → α × Option Abort
  value : Nat → Nat → α → Except Abort Nat
  blob : Nat → Nat → α → Except Abort (List Nat)
  /-- A BLOB with a named cursor: its next word, and MORE. -/
  window : Nat → Nat → Option ((α → α × Except Abort Nat) × (α → Bool))

/-- A window of the common units, at a part. -/
def liftWindow {α : Type} (com : α → Common kd) (put : Common kd → α → α) (f : Common kd → Common kd × Except Abort Nat)
    (x : α) : α × Except Abort Nat :=
  let q := f (com x)
  (put q.1 x, q.2)

/-- Whether TRC_BUF_READ has more bytes (R586). -/
def Vangeg.bufMore (s : Nat) (v : Vangeg) : Bool :=
  (v.src s).latch.isSome || ((v.src s).chunks.any (fun k => decide (v.c.reg (0x3100 + s) 13 ≤ k.seq)))

/-- The Vangeg as the engine sees it. -/
def vangegFace : Face .vangeg Vangeg :=
  { com := fun v => v.c, onC := fun f v => v.onC f, slice := fun r i s v => v.sliceAdmits r i s,
    resetting := fun r v => v.requesterResetting r, rule := Vangeg.applyWrite, value := fun i s v => v.value i s,
    blob := fun i s v => v.blob i s,
    window := fun i s =>
      if i = 0x3703 then some (liftWindow Vangeg.c (fun c v => { v with c := c }) Common.recWord, fun v => v.c.recMore)
      else if 0x3100 ≤ i ∧ i < 0x3110 ∧ s = 12 then some (Vangeg.bufRead (i - 0x3100), Vangeg.bufMore (i - 0x3100))
      else none }

/-- The Shopostra as the engine sees it. -/
def shopostraFace : Face .shopostra Shopostra :=
  { com := fun x => x.c, onC := fun f x => x.onC f, slice := fun _ _ _ _ => true, resetting := fun _ _ => false,
    rule := Shopostra.applyWrite, value := fun i s x => x.value i s, blob := fun i s x => x.blob i s,
    window := fun i _ =>
      if i = 0x3703 then some (liftWindow Shopostra.c (fun c x => { x with c := c }) Common.recWord, fun x => x.c.recMore)
      else if i = 0x7114 then some (Shopostra.histWord, Shopostra.histMore)
      else none }

/-- Answers at a part. -/
def Face.reply {α : Type} (F : Face kd α) (r : Req) (op : DictOp) (idx sub : Nat) (a : Option Abort) (data len : Nat)
    (more : Bool) (x : α) : α :=
  F.onC (fun c => c.answer r op idx sub a data len more) x

/-- Words that a value occupies (Table 19-2); 0 for a BLOB that words do not reach. -/
def wordsOf (ty : ObjType) (idx sub : Nat) : Nat :=
  match ty with
  | .time => 2
  | .blob => (blobBytes idx sub + 7) / 8
  | _ => 1

/-- Bytes of a value in a CONTROL response: of its type's width. -/
def bytesOf (ty : ObjType) (idx sub : Nat) : Nat :=
  match ty with
  | .blob => blobBytes idx sub
  | t => typeBits t / 8

/-- Discards the requester's staging of any other object (R584). -/
def Common.dropOther (r : Req) (idx sub : Nat) (c : Common kd) : Common kd :=
  c.discardStagings (fun s => decide (s.who = reqRequester r ∧ s.key ≠ key idx sub))

/-- Which path a request is on, by number: register port, I3C target, CONTROL. -/
def pathKind : Path → Nat
  | .hrp => 0
  | .i3c => 1
  | _ => 2

/-! ## WRITE and WRITE_FENCE (R584, R593) -/

/-- The value with its listed words replaced. -/
def mergeWords (n cur : Nat) (words : List (Nat × Nat)) : Nat :=
  ((List.range n).map (fun i => lookupD (cur / 2 ^ (64 * i) % 2 ^ 64) words i % 2 ^ 64 * 2 ^ (64 * i))).sum

/-- Stagings that a path may hold at once (R584). -/
def stagingLimit (p : Path) : Nat :=
  match pathKind p with
  | 0 => 16
  | 1 => 1
  | _ => 64

/-- Whether a staging is on the path of a request. -/
def Staging.onPath (s : Staging) (p : Path) : Bool :=
  match s.who, pathKind p with
  | .hrp _, 0 => true
  | .i3c, 1 => true
  | .ctl _ _, 2 => true
  | _, _ => false

/-- The requester's open staging of an object. -/
def Common.staged (c : Common kd) (r : Req) (idx sub : Nat) : Option Staging :=
  c.ctl.stagings.find? (fun s => decide (s.who = reqRequester r ∧ s.key = key idx sub))

/-- Closes the requester's staging of an object. -/
def Common.unstage (c : Common kd) (r : Req) (idx sub : Nat) : Common kd :=
  { c with ctl := { c.ctl with
    stagings := c.ctl.stagings.filter (fun s => !decide (s.who = reqRequester r ∧ s.key = key idx sub)) } }

/-- Adds words to the requester's staging of an object, opening it where none is open; none beyond the limit. -/
def Common.stageWords (c : Common kd) (r : Req) (idx sub : Nat) (words : List (Nat × Nat)) : Option (Common kd) :=
  let held := c.staged r idx sub
  if held.isNone && decide (stagingLimit r.path ≤ (c.ctl.stagings.filter (fun s => s.onPath r.path)).length) then none
  else
    let old := match held with | some s => s.words | none => []
    let now : Staging := { who := reqRequester r, key := key idx sub,
                           words := words.foldl (fun m w => putKey m w.1 w.2) old, last := c.now, pasid := r.pasid }
    let c1 := c.unstage r idx sub
    some { c1 with ctl := { c1.ctl with stagings := c1.ctl.stagings ++ [now] } }

/-- The value in effect of an object that words write. -/
def Common.wideValue (c : Common kd) (idx sub : Nat) : Nat :=
  if idx = 0x3860 ∧ sub = 4 then c.dbg.key else c.reg idx sub

/-- The write of a whole value, past its type: the object's rule, then the value kept by a WO object. -/
def Face.commit {α : Type} (F : Face kd α) (r : Req) (op : DictOp) (idx sub v : Nat) (o : ObjRow) (x : α) : α :=
  if !(F.com x).valueFits o.ty v then F.reply r op idx sub (some .value) 0 0 false x
  else if F.resetting r x then F.reply r op idx sub (some .state) 0 0 false x
  else
    let q := F.rule r idx sub v x
    let y := if o.acc = .wo ∧ q.2.isNone ∧ 1 < wordsOf o.ty idx sub then
        F.onC (fun c => c.setReg idx sub (storedForm o.ty v)) q.1 else q.1
    F.reply r op idx sub q.2 0 0 false y

/-- A WRITE or WRITE_FENCE of words from `word` onward. -/
def Face.write {α : Type} (F : Face kd α) (r : Req) (op : DictOp) (idx sub word : Nat) (data : List Nat) (x0 : α) : α :=
  let x := F.onC (Common.dropOther r idx sub) x0
  if data = [] ∨ 24 < data.length then F.reply r op idx sub (some .protocol) 0 0 false x
  else match (F.com x).gate r idx sub true (F.slice r idx sub x), findRow idx sub with
    | some a, _ => F.reply r op idx sub (some a) 0 0 false x
    | none, none => F.reply r op idx sub (some .noObject) 0 0 false x
    | none, some o =>
      let n := wordsOf o.ty idx sub
      if n < word + data.length then F.reply r op idx sub (some .type) 0 0 false x
      else if n = 1 then F.commit r op idx sub (data.headD 0) o x
      else
        let words := (List.range data.length).zip data |>.map (fun w => (word + w.1, w.2 % 2 ^ 64))
        if word + data.length = n then
          let held := match (F.com x).staged r idx sub with | some s => s.words | none => []
          let all := words.foldl (fun m w => putKey m w.1 w.2) held
          let v := mergeWords n ((F.com x).wideValue idx sub) all
          let v1 := if o.ty = .blob then v % 2 ^ (8 * blobBytes idx sub) else v
          F.commit r op idx sub v1 o (F.onC (fun c => c.unstage r idx sub) x)
        else if F.resetting r x then F.reply r op idx sub (some .state) 0 0 false x
        else match (F.com x).stageWords r idx sub words with
          | none => F.reply r op idx sub (some .state) 0 0 false x
          | some c => F.reply r op idx sub none 0 0 false (F.onC (fun _ => c) x)

/-! ## READ (R583) -/

/-- The words of a value as the register port and the I3C target read them: a signed value fills its word with copies of
its sign. -/
def inWords (ty : ObjType) (v : Nat) : Nat :=
  match ty with
  | .i8 => toTwos 64 (ofTwos 8 v)
  | .i16 => toTwos 64 (ofTwos 16 v)
  | .i32 => toTwos 64 (ofTwos 32 v)
  | _ => v

/-- A word of a value for a reader by words: word 0 of a TIME value latches word 1 for the requester (R583). -/
def Common.readWord (r : Req) (idx sub word v : Nat) (ty : ObjType) (c : Common kd) : Common kd × Nat :=
  let who := reqRequester r
  let k := key idx sub
  let rest := c.ctl.latched.filter (fun l => !decide (l.1 = who ∧ l.2.1 = k))
  if ty = .time ∧ word = 0 then
    ({ c with ctl := { c.ctl with latched := rest ++ [(who, k, v / 2 ^ 64 % 2 ^ 64)] } }, v % 2 ^ 64)
  else if ty = .time ∧ word = 1 then
    match c.ctl.latched.find? (fun l => decide (l.1 = who ∧ l.2.1 = k)) with
    | some l => ({ c with ctl := { c.ctl with latched := rest } }, l.2.2)
    | none => (c, v / 2 ^ 64 % 2 ^ 64)
  else (c, inWords ty v / 2 ^ (64 * word) % 2 ^ 64)

/-- A READ. -/
def Face.read {α : Type} (F : Face kd α) (r : Req) (idx sub word : Nat) (x0 : α) : α :=
  let x := F.onC (Common.dropOther r idx sub) x0
  match (F.com x).gate r idx sub false (F.slice r idx sub x), findRow idx sub with
  | some a, _ => F.reply r .read idx sub (some a) 0 0 false x
  | none, none => F.reply r .read idx sub (some .noObject) 0 0 false x
  | none, some o =>
    if wordsOf o.ty idx sub ≤ word then F.reply r .read idx sub (some .type) 0 0 false x
    else if F.resetting r x then F.reply r .read idx sub (some .state) 0 0 false x
    else match F.value idx sub x with
      | .error a => F.reply r .read idx sub (some a) 0 0 false x
      | .ok v =>
        if pathKind r.path = 2 then F.reply r .read idx sub none v (bytesOf o.ty idx sub) false x
        else
          let q := (F.com x).readWord r idx sub word v o.ty
          F.reply r .read idx sub none q.2 8 false (F.onC (fun _ => q.1) x)

/-! ## BLOCK_READ (R586) -/

/-- Whether an object is a BLOB with a named cursor. -/
def namedCursor (idx sub : Nat) : Bool := decide (idx = 0x3703 ∨ idx = 0x7114 ∨ (0x3100 ≤ idx ∧ idx < 0x3110 ∧ sub = 12))

/-- The implicit cursor of a BLOB on a path. -/
def Common.cursor (c : Common kd) (p : Path) (idx sub : Nat) : Nat := lookupD 0 c.ctl.cursors (pathKind p, key idx sub)

/-- Moves an implicit cursor. -/
def Common.setCursor (c : Common kd) (p : Path) (idx sub n : Nat) : Common kd :=
  { c with ctl := { c.ctl with cursors := putKey c.ctl.cursors (pathKind p, key idx sub) n } }

/-- Whether the word or OFFSET of a BLOCK_READ of an existing BLOB is one that R586 refuses. -/
def badWord (p : Path) (named : Bool) (word offset : Nat) : Bool :=
  if pathKind p = 2 then named && decide (offset ≠ 0xFFFFFFFF)
  else decide (1 < word ∨ (word = 1 ∧ named))

/-- The cursor from which a BLOCK_READ reads. -/
def Common.startAt (c : Common kd) (p : Path) (idx sub word offset : Nat) : Nat :=
  if pathKind p = 2 then (if offset = 0xFFFFFFFF then c.cursor p idx sub else offset)
  else if word = 1 then 0 else c.cursor p idx sub

/-- The bytes of a BLOB for a reader at a position. The challenge has a new nonce at each read of it from its start;
management SRAM is read under a debug authorisation with MGT_MEM in scope, and what it holds is free. -/
def Face.bytes {α : Type} (F : Face kd α) (idx sub at_ n : Nat) (x : α) : α × Except Abort (List Nat × Nat) :=
  let c := F.com x
  if idx = 0x3860 then
    let fresh := decide (at_ = 0) || c.dbg.nonce.isNone
    let q := if fresh then c.challenge else (c, c.dbg.nonce.getD 0)
    (F.onC (fun _ => q.1) x, .ok (((bytesLE 32 q.2).drop at_).take n, 32))
  else if idx = 0x3861 then
    let open_ := (match c.dbg.expiry with | some e => decide (c.now < e) | none => false) && bitOf c.dbg.scope 2
    if open_ then
      let q := c.drawFree (8 * n)
      (F.onC (fun _ => q.1) x, .ok ((bytesLE n q.2).take (4194304 - at_), 4194304))
    else (x, .error .state)
  else match F.blob idx sub x with
    | .error a => (x, .error a)
    | .ok l => (x, .ok ((l.drop at_).take n, l.length))

/-- A BLOCK_READ of `count` bytes (one word on the register port and the I3C target). -/
def Face.blockRead {α : Type} (F : Face kd α) (r : Req) (idx sub word count offset : Nat) (x0 : α) : α :=
  let x := F.onC (Common.dropOther r idx sub) x0
  let n := if pathKind r.path = 2 then count else 8
  let isBlob := match findRow idx sub with | some o => decide (o.ty = .blob) | none => false
  if isBlob && (F.com x).exists_ idx sub && badWord r.path (namedCursor idx sub) word offset then
    F.reply r .blockRead idx sub (some .protocol) 0 0 false x
  else match (F.com x).gate r idx sub false (F.slice r idx sub x) with
    | some a => F.reply r .blockRead idx sub (some a) 0 0 false x
    | none =>
      if !isBlob then F.reply r .blockRead idx sub (some .type) 0 0 false x
      else if F.resetting r x then F.reply r .blockRead idx sub (some .state) 0 0 false x
      else match F.window idx sub with
        | some w =>
          let q := readWords w.1 (n / 8) x
          F.onC (fun c => c.answerWords r idx sub q.2.1 q.2.2 (w.2 q.1)) q.1
        | none =>
          let at_ := (F.com x).startAt r.path idx sub word offset
          let q := F.bytes idx sub at_ n x
          match q.2 with
          | .error a => F.reply r .blockRead idx sub (some a) 0 0 false q.1
          | .ok b =>
            let y := F.onC (fun c => c.setCursor r.path idx sub (at_ + b.1.length)) q.1
            F.reply r .blockRead idx sub none (fromLE b.1) b.1.length (decide (at_ + b.1.length < b.2)) y

/-! ## FENCE (R594) -/

/-- A FENCE request: a part fence whose response leaves at completion. It discards the requester's staging (R584). -/
def Face.fence {α : Type} (F : Face kd α) (r : Req) (idx sub : Nat) (x : α) : α :=
  if !(F.com x).pathAdmits r || decide (pathKind r.path ≠ 2) then F.reply r .fence idx sub (some .privilege) 0 0 false x
  else
    F.onC (fun c0 =>
      let c := c0.discardStagings (fun s => decide (s.who = reqRequester r))
      let n := c.takeSerial
      let f : Fence := { serial := n.2, req := none, path := r.path, source := r.source, reqId := r.tag, idx := idx, sub := sub }
      { n.1 with ctl := { n.1.ctl with fences := n.1.ctl.fences ++ [f] } }) x

/-- Whether nothing that the common units accepted before a fence is still under way. -/
def Common.settled (c : Common kd) (n : Nat) : Bool :=
  c.bud.waiting.all (fun u => decide (n ≤ u.serial)) && c.bud.running.all (fun u => decide (n ≤ u.serial)) &&
    c.bud.queues.all (fun q => q.2.all (fun m => decide (n ≤ m.serial)))

/-- The same for a Vangeg: host writes, and the units of its rings with their mirror writes. -/
def Vangeg.settled (v : Vangeg) (n : Nat) : Bool :=
  v.c.settled n && v.bnd.writes.all (fun w => decide (n ≤ w.serial)) && v.bnd.writeQueue.all (fun w => decide (n ≤ w.serial)) &&
    v.pawn.rings.all (fun q => q.2.waiting.all (fun u => decide (n ≤ u.serial)) &&
      (match q.2.active with | some u => decide (n ≤ u.serial) | none => true))

/-- The oldest fence completes. -/
def Common.fenceDone (c : Common kd) (settled : Nat → Bool) : Common kd :=
  match c.ctl.fences with
  | [] => c
  | f :: rest =>
    if settled f.serial then
      let c1 : Common kd := { c with ctl := { c.ctl with fences := rest } }
      match f.req with
      | some v => c1.setReg 0x1030 2 v
      | none => c1.answer { path := f.path, priv := 0, pasid := 0, tag := f.reqId, source := f.source } .fence f.idx f.sub none 0 0 false
    else c

/-- PART_FENCE_COMPLETE (R594). -/
def execPartFenceComplete (p : Part) (s : State) : Res :=
  onPart p (fun v => v.onC (fun c => c.fenceDone v.settled)) (fun x => x.onC (fun c => c.fenceDone x.c.settled)) s

/-! ## The transactions as commands -/

/-- DICT_READ (R583). -/
def execDictRead (p : Part) (r : Req) (idx sub word : Nat) (s : State) : Res :=
  onPart p (vangegFace.read r idx sub word) (shopostraFace.read r idx sub word) s

/-- DICT_WRITE (R584). -/
def execDictWrite (p : Part) (r : Req) (idx sub word : Nat) (data : List Nat) (s : State) : Res :=
  onPart p (vangegFace.write r .write idx sub word data) (shopostraFace.write r .write idx sub word data) s

/-- DICT_WRITE_FENCE (R593): everything accepted earlier has taken effect, so it is carried out as a WRITE. -/
def execDictWriteFence (p : Part) (r : Req) (idx sub word : Nat) (data : List Nat) (s : State) : Res :=
  onPart p (vangegFace.write r .writeFence idx sub word data) (shopostraFace.write r .writeFence idx sub word data) s

/-- DICT_BLOCK_READ (R586). -/
def execDictBlockRead (p : Part) (r : Req) (idx sub word count offset : Nat) (s : State) : Res :=
  onPart p (vangegFace.blockRead r idx sub word count offset) (shopostraFace.blockRead r idx sub word count offset) s

/-- DICT_FENCE (R594). -/
def execDictFence (p : Part) (r : Req) (s : State) : Res :=
  onPart p (vangegFace.fence r 0 0) (shopostraFace.fence r 0 0) s

/-- FENCE_REQ_WRITE (R594). -/
def execFenceReqWrite (p : Part) (r : Req) (v : Nat) (s : State) : Res := writeBoth p r 0x1030 1 v (ruleFenceReq v) s

/-- REGISTER_WRITE (R579): the write of a whole value of any object, under its access kind, its type and its rule. -/
def execRegisterWrite (p : Part) (r : Req) (idx sub v : Nat) (s : State) : Res :=
  onPart p (fun x => x.ruled r idx sub v (Vangeg.applyWrite r idx sub v))
    (fun x => x.ruled r idx sub v (Shopostra.applyWrite r idx sub v)) s

/-- The earliest instant at which a staging expires: 1 ms without a word (R584). -/
def Common.stagingDue (c : Common kd) : Option Ticks :=
  c.ctl.stagings.foldl (fun m s => match m with
    | none => some (s.last + msT 1)
    | some t => some (min t (s.last + msT 1))) none

/-- Stagings that received no word for 1 ms are discarded. -/
def Common.expireStagings (c : Common kd) : Common kd :=
  match c.stagingDue with
  | none => c
  | some t =>
    let c1 := c.arrive t
    c1.discardStagings (fun s => decide (s.last + msT 1 ≤ c1.now))

/-- STAGING_EXPIRY (R584). -/
def execStagingExpiry (p : Part) (s : State) : Res := onC p Common.expireStagings s

/-! ## Requests accepted and outstanding (R102, R588, R590) -/

/-- Requests accepted at this instant, and so still outstanding. -/
def Common.underway (c : Common kd) : List (Path × Nat × Nat) := if c.ctl.accepted = c.now then c.ctl.outstanding else []

/-- Accepts a request. -/
def Common.accept (c : Common kd) (p : Path) (source id : Nat) : Common kd :=
  { c with ctl := { c.ctl with accepted := c.now, outstanding := c.underway ++ [(p, source, id)] } }

/-- HRP_REQUEST (R99, R102): a request on the register port, while HRP_REQ_READY is 1. -/
def Vangeg.hrpRequest (op tag idx sub word data priv pasid : Nat) (v : Vangeg) : Vangeg :=
  let r : Req := { path := .hrp, priv := priv, pasid := pasid, tag := tag % 16, source := 0 }
  let kind : DictOp := match op % 4 with | 0 => .read | 1 => .write | 2 => .writeFence | _ => .blockRead
  if v.c.pin .hrpReady ≠ 1 then v
  else if v.c.underway.any (fun o => decide (o = (.hrp, 0, tag % 16))) then
    v.onC (fun c => c.answer r kind idx sub (some .protocol) 0 0 false)
  else
    let v1 := v.onC (fun c => c.accept .hrp 0 (tag % 16))
    match op % 4 with
    | 0 => vangegFace.read r idx sub word v1
    | 1 => vangegFace.write r .write idx sub word [data] v1
    | 2 => vangegFace.write r .writeFence idx sub word [data] v1
    | _ => vangegFace.blockRead r idx sub word 8 0xFFFFFFFF v1

/-- HRP_REQUEST (R99). -/
def execHrpRequest (op tag idx sub word data priv pasid : Nat) (s : State) : Res :=
  onV (Vangeg.hrpRequest op tag idx sub word data priv pasid) s

/-! ## The I3C target (R140 to R142) -/

/-- A private write: a dictionary request of 6 bytes, or of 14 for WRITE and WRITE_FENCE. -/
def Vangeg.i3cWrite (b : List Nat) (v : Vangeg) : Vangeg :=
  let op := nth 0 b 0
  let idx := fromLE ((b.drop 2).take 2)
  let sub := nth 0 b 4
  let word := nth 0 b 5
  let r : Req := { path := .i3c, priv := 1, pasid := 0, tag := nth 0 b 1, source := 0 }
  let kind : DictOp := match op with | 0 => .read | 1 => .write | 2 => .writeFence | _ => .blockRead
  if !v.bnd.pllLocked then v
  else if 3 < op ∨ b.length ≠ (if op = 1 ∨ op = 2 then 14 else 6) ∨ (v.c.ctl.i3c.isSome ∧ v.c.ctl.i3cSince = v.c.now) then
    v.onC (fun c => c.answer r kind idx sub (some .protocol) 0 0 false)
  else match op with
    | 0 => vangegFace.read r idx sub word v
    | 1 => vangegFace.write r .write idx sub word [fromLE (b.drop 6)] v
    | 2 => vangegFace.write r .writeFence idx sub word [fromLE (b.drop 6)] v
    | _ => vangegFace.blockRead r idx sub word 8 0xFFFFFFFF v

/-- I3C_PRIVATE_WRITE (R141). -/
def execI3cPrivateWrite (bytes : List Nat) (s : State) : Res := onV (Vangeg.i3cWrite bytes) s

/-- A private read: the 12 bytes of the response, pending until Tempo leaves the instant of the request. Before any
request its bytes are free. -/
def Vangeg.i3cRead (v : Vangeg) : Vangeg :=
  if !v.bnd.pllLocked then v
  else match v.c.ctl.i3c with
    | none => v.onC (fun c => (let q := c.drawFree 96; q.1.send (.i3c (bytesLE 12 q.2))))
    | some (tag, abort, data) =>
      let waits := b2n (decide (v.c.ctl.i3cSince = v.c.now))
      v.onC (fun c => c.send (.i3c ([waits, tag % 256] ++ bytesLE 2 abort ++ bytesLE 8 data)))

/-- I3C_PRIVATE_READ (R141). -/
def execI3cPrivateRead (s : State) : Res := onV Vangeg.i3cRead s

/-- A common command of the bus (R140). PID and DCR come from fuse word 1 (Table 3-11); the other answers are free. -/
def Vangeg.i3cCommand (k : I3cCcc) (v : Vangeg) : Vangeg :=
  let word := nth 0 v.bnd.fuses 1
  let pid := (bytesLE 6 (bits word 63 16)).reverse
  let dcr := bits word 15 8
  let address := fun (n : Nat) (a : Vangeg) => { a with bnd := { a.bnd with i3cAddress := n % 128 } }
  let tell := fun (l : List Nat) (a : Vangeg) => a.onC (fun c => c.send (.i3c l))
  let free := fun (n : Nat) (a : Vangeg) => a.onC (fun c => (let q := c.drawFree (8 * n); q.1.send (.i3c (bytesLE n q.2))))
  if !v.bnd.pllLocked then v
  else match k with
    | .entdaa n => if v.bnd.i3cAddress = 0x2C then
        address n (v.onC (fun c => (let q := c.drawFree 8; q.1.send (.i3c (pid ++ [q.2, dcr]))))) else v
    | .setdasa n => if v.bnd.i3cAddress = 0x2C then address n v else v
    | .rstdaa => address 0x2C v
    | .getpid => tell pid v
    | .getdcr => tell [dcr] v
    | .getbcr => free 1 v
    | .getstatus => free 2 v
    | .getmwl => free 2 v
    | .getmrl => free 2 v
    | .other => v

/-- I3C_CCC (R140). -/
def execI3cCcc (k : I3cCcc) (s : State) : Res := onV (Vangeg.i3cCommand k) s

/-! ## Requests in CONTROL frames (R587 to R591) -/

/-- Whether every field of a request is within its range (R587, R455). -/
def ctlOk (q : CtlRequest) : Bool :=
  q.reservedOk && decide (q.priv ≤ 4 ∧ q.depth ≤ 4 ∧ q.idx < 65536 ∧ q.sub < 256) &&
  (match q.op with
   | .read => decide (q.count = 0)
   | .fence => decide (q.count = 0 ∧ q.targetEpoch ≠ 0xFFFFFFFF)
   | .blockRead => decide (q.count % 8 = 0 ∧ 8 ≤ q.count ∧ q.count ≤ 192)
   | _ => decide (q.count = 8 * q.data.length ∧ 1 ≤ q.data.length ∧ q.data.length ≤ 24 ∧ q.targetEpoch ≠ 0xFFFFFFFF))

/-- Answers a request that this part does not carry out: RELAYED where it is not the target, with the epoch as held. -/
def Common.turnAway (c : Common kd) (path : Path) (q : CtlRequest) (a : Abort) (relayed : Bool) (epoch : Nat) : Common kd :=
  let c1 := c.bump 0x1032 2
  let c2 := match a with
    | .busy => c1.bump 0x1032 4
    | .privilege => (c1.bump 0x3803 0).baseline 57
    | _ => c1
  c2.respond path
    { op := q.op, more := false, relayed := relayed, reqId := q.reqId, responder := c.logical, responderPhys := c.phys, abort := a.code, len := 0, resetEpoch := epoch, idx := q.idx, sub := q.sub, data := 0 }

/-- The same with a reset epoch that this part does not hold: it is free. -/
def Common.turnAwayFree (c : Common kd) (path : Path) (q : CtlRequest) (a : Abort) : Common kd :=
  let e := c.drawFree 32
  e.1.turnAway path q a true e.2

/-- Whether a request with the same SOURCE and REQ_ID is outstanding (R588). -/
def Common.duplicate (c : Common kd) (source reqId : Nat) : Bool :=
  c.underway.any (fun o => decide (pathKind o.1 = 2 ∧ o.2 = (source, reqId))) ||
    c.ctl.fences.any (fun f => f.req.isNone && decide (f.source = source ∧ f.reqId = reqId)) ||
    c.ctl.relayed.any (fun f => decide (f.source = source ∧ f.reqId = reqId))

/-- Requests of the CONTROL path under way here. -/
def Common.localCount (c : Common kd) : Nat :=
  (c.underway.filter (fun o => decide (pathKind o.1 = 2))).length + (c.ctl.fences.filter (fun f => f.req.isNone)).length

/-- Carries out a request that matched this part. -/
def Face.carryOut {α : Type} (F : Face kd α) (path : Path) (source : Nat) (q : CtlRequest) (x : α) : α :=
  let r : Req := { path := path, priv := q.priv, pasid := 0, tag := q.reqId, source := source }
  match q.op with
  | .read => F.read r q.idx q.sub q.word (F.onC (fun c => c.accept path source q.reqId) x)
  | .write => F.write r .write q.idx q.sub q.word q.data (F.onC (fun c => c.accept path source q.reqId) x)
  | .writeFence => F.write r .writeFence q.idx q.sub q.word q.data (F.onC (fun c => c.accept path source q.reqId) x)
  | .blockRead => F.blockRead r q.idx q.sub q.word q.count q.offset (F.onC (fun c => c.accept path source q.reqId) x)
  | .fence => F.fence r q.idx q.sub x

/-- Whether a request names this part by its address. -/
def Common.isTarget (c : Common kd) (q : CtlRequest) : Bool :=
  if q.logicalMode then !c.isSpare && decide (q.target = c.logical) else decide (q.target = c.phys)

/-- A request that matched: its epoch, the limits of R590, then the transaction. `held` is the state of R542. -/
def Face.atTarget {α : Type} (F : Face kd α) (path : Path) (source limit : Nat) (held : Bool) (q : CtlRequest) (x : α) : α :=
  let c := F.com x
  let away := fun (a : Abort) => F.onC (fun b => b.turnAway path q a false (b.reg 0x7001 3)) x
  if q.targetEpoch ≠ 0xFFFFFFFF ∧ q.targetEpoch ≠ c.reg 0x7001 3 then away .targetReset
  else if limit ≤ c.localCount then away .busy
  else if held then away .state
  else F.carryOut path source q x

/-- A request that reaches a Vangeg in a CONTROL frame. -/
def Vangeg.request (path : Path) (source : Nat) (q : CtlRequest) (v : Vangeg) : Vangeg :=
  if !ctlOk q || v.c.duplicate source q.reqId then
    v.onC (fun c => c.turnAway path q .protocol (!c.isTarget q) (c.reg 0x7001 3))
  else if q.depth = 4 && v.c.isTarget q then vangegFace.atTarget path source 64 false q v
  else v.onC (fun c => c.turnAwayFree path q .noRoute)

/-- Whether a port is a peer port (Table 1-2). -/
def isPeerPort (p : Nat) : Bool := decide (p < 48 ∧ 9 ≤ p % 12)

/-- Where a Shopostra forwards a request (Table 19-6): the port, and whether its neighbour is the target's depth away. -/
def Common.route (c : Common kd) (path : Path) (q : CtlRequest) : Option (Nat × Bool) :=
  let d := c.depth
  let k := nth 0xFF q.child d
  let fromPartner := match path with | .upper p => isPartnerPort p | _ => false
  if q.depth = d then
    if k = 0xFE ∧ !fromPartner then some (c.partnerPort, true) else none
  else if d < q.depth then
    if k < 32 then (if c.portUp (childPort k) then some (childPort k, decide (q.depth = d + 1)) else none)
    else if 0x80 ≤ k ∧ isPeerPort (k - 0x80) ∧ c.portUp (k - 0x80) then some (k - 0x80, false)
    else none
  else none

/-- Forwards a request on a port and keeps its record (R589 to R591, R455). -/
def Common.forward (c : Common kd) (path : Path) (source : Nat) (q : CtlRequest) (port : Nat) (last : Bool) : Common kd :=
  let free := c.drawFree 32
  let c1 := free.1
  let ingress := match path with | .mgmt => true | .firmware => true | _ => false
  let rec_ : Relayed := { source := source, reqId := q.reqId, back := path, out := port, since := c.now, ingress := ingress,
                          epoch := free.2, last := last, op := q.op, idx := q.idx, sub := q.sub }
  if last ∧ (c1.reg 0x7002 (port + 1) = 3 ∨ c1.reg 0x7002 (port + 1) = 4) then
    c1.turnAway path q .targetReset true (c1.heldEpoch rec_)
  else if 4096 ≤ c1.ctl.relayed.length then c1.turnAwayFree path q .busy
  else
    let c2 : Common kd := { c1 with ctl := { c1.ctl with relayed := c1.ctl.relayed ++ [rec_] } }
    ((c2.send (.forward (.port port) source q)).submit (linkUnit 4 port 1 0 false [])).1

/-- A request that reaches a Shopostra. A spare matches on its physical address at any depth and never forwards. -/
def Shopostra.request (path : Path) (source : Nat) (q : CtlRequest) (x : Shopostra) : Shopostra :=
  if !ctlOk q || x.c.duplicate source q.reqId then
    x.onC (fun c => c.turnAway path q .protocol (!c.isTarget q) (c.reg 0x7001 3))
  else if (match path with | .child _ => true | _ => false) then
    x.onC (fun c => c.turnAway path q .privilege (!c.isTarget q) (c.reg 0x7001 3))
  else if x.c.isTarget q && (x.c.isSpare || decide (q.depth = x.c.depth)) then
    shopostraFace.atTarget path source 256 x.mgt.warm q x
  else if x.c.isSpare then x.onC (fun c => c.turnAwayFree path q .noRoute)
  else match x.c.route path q with
    | none => x.onC (fun c => c.turnAwayFree path q .noRoute)
    | some (port, last) => x.onC (fun c => c.forward path source q port last)

/-! ## Management Ethernet (R554) -/

/-- The bits of an IPv6 address, most significant first. -/
def addressBits (l : List Nat) : List Bool := l.flatMap (fun b => (List.range 8).map (fun i => bitOf b (7 - i)))

/-- Whether a PROT_PEER entry is valid and its prefix matches a source. -/
def peerMatches (e : Nat) (src : List Nat) : Bool :=
  bitOf e 144 && decide ((addressBits (bytesLE 16 e)).take (bits e 135 128) = (addressBits src).take (bits e 135 128))

/-- The CEILING under which a source is admitted; none where it is refused. -/
def Common.peerCeiling (c : Common kd) (src : List Nat) : Option Nat :=
  let all := (List.range 16).map (fun i => c.reg 0x3870 (i + 1))
  if all.any (fun e => bitOf e 144) then
    ((all.filter (fun e => peerMatches e src)).foldl (fun (m : Option (Nat × Nat)) e =>
      match m with
      | none => some (bits e 135 128, bits e 143 136)
      | some b => if b.1 < bits e 135 128 then some (bits e 135 128, bits e 143 136) else m) none).map (fun b => b.2)
  else if nth 0 src 0 = 0xFE ∧ nth 0 src 1 / 64 = 2 then some 0
  else none

/-- A request on management Ethernet: it is handled where PROT_PEER admits its source and its level. -/
def Shopostra.datagram (src : List Nat) (q : CtlRequest) (x : Shopostra) : Shopostra :=
  let admitted := match x.c.peerCeiling src with | some n => decide (n ≤ q.priv) | none => false
  if ctlOk q && !admitted then x.onC (fun c => c.turnAway .mgmt q .privilege (!c.isTarget q) (c.reg 0x7001 3))
  else x.request .mgmt 0xFFFFFFFF q

/-- MGT_DATAGRAM_RX (R554). -/
def execMgtDatagramRx (src : List Nat) (q : CtlRequest) (s : State) : Res := onX (Shopostra.datagram src q) s

/-! ## Responses and timeouts (R455, R590, R591) -/

/-- A response arrives on a port: it travels back with the record of its request; a stale reply is discarded. -/
def Common.response (port : Nat) (q : CtlResponse) (c : Common kd) : Common kd :=
  match c.ctl.relayed.find? (fun f => decide (f.out = port ∧ f.reqId = q.reqId ∧ f.op = q.op ∧ f.idx = q.idx ∧ f.sub = q.sub)) with
  | none => c.bump 0x7004 5
  | some f =>
    let held := (c.live.peers.find? (fun k => decide (k.1 = f.out))).bind (fun k => k.2.epoch)
    if f.back = .firmware ∧ f.last ∧ held.isSome ∧ held ≠ some q.resetEpoch then c.bump 0x7004 5
    else { c with ctl := { c.ctl with relayed := c.ctl.relayed.erase f } }.respond f.back q

/-- CONTROL_RESPONSE_RX (R455): a Vangeg forwards nothing, so every reply is stale there. -/
def execControlResponseRx (p : Part) (port : Nat) (q : CtlResponse) (s : State) : Res := onC p (Common.response port q) s

/-- The timeout of SX_CTRL_TIMEOUT, in ticks. -/
def Common.ctrlTimeout (c : Common kd) : Ticks := usT (c.reg 0x1031 0)

/-- CONTROL_TIMEOUT (R591): the ingress Shopostra answers a request that has no response. -/
def Common.controlTimeout (source reqId : Nat) (c : Common kd) : Common kd :=
  match c.ctl.relayed.find? (fun f => f.ingress && decide (f.source = source ∧ f.reqId = reqId)) with
  | none => c
  | some f => (((c.arrive (f.since + c.ctrlTimeout)).bump 0x1032 3).abortRelayed (fun g => decide (g = f)) .timeout)

/-- CONTROL_TIMEOUT (R591). -/
def execControlTimeout (source reqId : Nat) (s : State) : Res := onX (fun x => x.onC (Common.controlTimeout source reqId)) s

/-- RELAY_RECORD_FREE (R591): another relay frees its record. -/
def Common.relayFree (source reqId : Nat) (c : Common kd) : Common kd :=
  match c.ctl.relayed.find? (fun f => !f.ingress && decide (f.source = source ∧ f.reqId = reqId)) with
  | none => c
  | some f =>
    let c1 := c.arrive (f.since + 2 * c.ctrlTimeout)
    { c1 with ctl := { c1.ctl with relayed := c1.ctl.relayed.erase f } }

/-- RELAY_RECORD_FREE (R591). -/
def execRelayRecordFree (source reqId : Nat) (s : State) : Res := onX (fun x => x.onC (Common.relayFree source reqId)) s

end Sys2Proof.Machine
end

