-- ==== Sys2Proof/Machine/DieSessions.lean ====
section
/-! DEFINITION. Sessions at a die (08_streams_and_sessions.md): the checks of a PREPARE, the bindings of its streams, its
object writes at T_act and their undoing at T_stop; and the session messages that either part receives. -/

namespace Sys2Proof.Machine

variable {kd : Part}

/-! ## Object writes of LEVEL 0 templates (R285, R295) -/

/-- A request of the part's own session controller, at P1. -/
def Common.ownReq (c : Common kd) : Req := { path := .firmware, priv := 1, pasid := 0, tag := 0, source := c.logical }

/-- The LEVEL 0 templates of a session. -/
def dieTemplates (q : Session) : List Template := levelTemplates q.desc 0

/-- The object writes of a session, in order: index, subindex, word, data. -/
def dieWrites (q : Session) : List (Nat × Nat × Nat × Nat) := (dieTemplates q).flatMap Template.writes

/-- The write of a whole value by session n: none where it would be aborted. -/
def Vangeg.dieCommit (v : Vangeg) (n idx sub x : Nat) (o : ObjRow) : Option Vangeg :=
  if !v.c.valueFits o.ty x then none
  else
    let q := if 0x3610 ≤ idx ∧ idx < 0x3620 then ruleSigGroup (idx - 0x3610) sub x (some n) v
      else v.applyWrite v.c.ownReq idx sub x
    match q.2 with
    | none => some q.1
    | some _ => none

/-- One object write after others: `words` are the words staged so far. None where it would be aborted. -/
def Vangeg.dieWrite (n : Nat) (a : Vangeg × List (Nat × Nat × Nat)) (w : Nat × Nat × Nat × Nat) :
    Option (Vangeg × List (Nat × Nat × Nat)) :=
  let v := a.1
  let idx := w.1
  let sub := w.2.1
  let word := w.2.2.1
  match v.c.gate v.c.ownReq idx sub true true, findRow idx sub with
  | none, some o =>
    let m := wordsOf o.ty idx sub
    if m ≤ word then none
    else
      let held := putKey ((a.2.filter (fun s => decide (s.1 = key idx sub))).map Prod.snd) word w.2.2.2
      let rest := a.2.filter (fun s => decide (s.1 ≠ key idx sub))
      if word + 1 = m then
        (v.dieCommit n idx sub (if m = 1 then w.2.2.2 else mergeWords m (v.c.wideValue idx sub) held) o).map (fun b => (b, rest))
      else some (v, rest ++ held.map (fun h => (key idx sub, h)))
  | _, _ => none

/-- The object writes of a session, in order: the part with all of them, or none where one would be aborted. -/
def Vangeg.dryRun (v : Vangeg) (n : Nat) (ws : List (Nat × Nat × Nat × Nat)) : Option Vangeg :=
  (ws.foldl (fun (a : Option (Vangeg × List (Nat × Nat × Nat))) w => a.bind (fun b => Vangeg.dieWrite n b w)) (some (v, []))).map
    Prod.fst

/-- T_act: the writes are applied; one that is aborted by then changes nothing. -/
def Vangeg.applyWrites (v : Vangeg) (n : Nat) (ws : List (Nat × Nat × Nat × Nat)) : Vangeg :=
  (ws.foldl (fun (a : Vangeg × List (Nat × Nat × Nat)) w => (Vangeg.dieWrite n a w).getD a) (v, [])).1

/-- The ENABLE subindex of an object that has one: dump destinations, rings, and the tests and signature groups. -/
def enableSub (idx : Nat) : Option Nat :=
  if idx = 0x2910 ∨ idx = 0x2911 ∨ idx = 0x2912 ∨ (0x3200 ≤ idx ∧ idx < 0x3204) ∨ (0x3510 ≤ idx ∧ idx < 0x3550) ∨
    (0x3610 ≤ idx ∧ idx < 0x3620) then some 1 else none

/-- The objects whose ENABLE a session's writes set. -/
def enables (ws : List (Nat × Nat × Nat × Nat)) : List Nat :=
  ((ws.filter (fun w => decide (enableSub w.1 = some w.2.1) && decide (w.2.2.2 ≠ 0))).map Prod.fst).eraseDups

/-! ## Bindings (R284) -/

/-- Templates that a die binds, with the parent's tag and epoch bits: those that a parent's entry takes. -/
def bindList (q : Session) : List (Template × Nat × Nat) :=
  ((dieTemplates q).zip (q.parentTags)).filter (fun e => decide (e.2.1 ≠ 0))

/-- Bindings of a session, by entry of STRM_VG_BIND. -/
def Common.bindsOf (c : Common kd) (n : Nat) : List Nat :=
  ((List.range 32).map (fun i => i + 1)).filter (fun i => decide (c.reg 0x4800 i ≠ 0 ∧ bits (c.reg 0x4800 i) 63 32 = n))

/-- Free entries of STRM_VG_BIND. -/
def Common.freeBinds (c : Common kd) : List Nat := ((List.range 32).map (fun i => i + 1)).filter (fun i => decide (c.reg 0x4800 i = 0))

/-- Binds a session's streams, in template order. -/
def Common.bindSession (c : Common kd) (n : Nat) (q : Session) : Common kd :=
  (c.freeBinds.zip (bindList q)).foldl (fun (a : Common _) e =>
    a.setReg 0x4800 e.1 (n * 2 ^ 32 + nth 0 e.2.1.b 1 % 256 * 2 ^ 24 + e.2.2.2 % 256 * 2 ^ 16 + e.2.2.1 % 65536)) c

/-- Frees a session's bindings. -/
def Common.unbindSession (c : Common kd) (n : Nat) : Common kd := (c.bindsOf n).foldl (fun (a : Common _) i => a.setReg 0x4800 i 0) c

/-! ## Admission at a die (R295, Table 8-6) -/

/-- Writes of the other sessions that hold something here. -/
def Common.otherWrites (c : Common kd) (k : Nat) : List (Nat × Nat × Nat × Nat) :=
  (c.liveRecords.filter (fun j => decide (j ≠ k) && decide ((c.session j).refusal.1 = 0))).flatMap (fun j => dieWrites (c.session j))

/-- Whether an object that a session writes is enabled, or written, by another. -/
def Common.writesClash (c : Common kd) (k : Nat) : Bool :=
  let others := c.otherWrites k
  let held := enables others
  (dieWrites (c.session k)).any (fun w => decide (w.1 ∈ held) || others.any (fun o => decide (o.1 = w.1 ∧ o.2.1 = w.2.1)))

/-- RATE_OUT of the streams of every session here, the new one's among them. -/
def Common.dieRate (c : Common kd) : Nat :=
  (c.liveRecords.map (fun k => if (c.session k).held ∧ (c.session k).refusal.1 = 0 then
    ((bindList (c.session k)).map (fun e => e.1.rateOut)).sum else 0)).sum

/-- The first check that fails at a die: its code, or 0. -/
def Vangeg.dieCode (v : Vangeg) (k n : Nat) : Nat :=
  let q := v.c.session k
  if (dieTemplates q).any Template.bad then 10
  else if v.c.freeBinds.length < (bindList q).length then 1
  else if (v.dryRun n (dieWrites q)).isNone then 14
  else if v.c.writesClash k then 15
  else if v.c.linkLimit v.c.uplink < v.c.dieRate then 2
  else 0

/-- The whole PREPARE is held at a die: RECEIPT, the checks, and the ACK. A die that is no member acknowledges with DIES 0
and leaves the session. -/
def Vangeg.dieWhole (v : Vangeg) (k : Nat) : Vangeg :=
  let n := v.c.reg (0x4100 + k) 1
  let v0 := v.onC (fun c => ((c.setSession k { c.session k with held := true, ackSent := true }).setReg (0x4100 + k) 6
    (leAt (c.session k).desc 8 4)).opens .parents 3 0 0 n [])
  let q := v0.c.session k
  if !memberDie q.desc v0.c.logical then v0.onC (fun c => (c.sendAck 0 n 0 0 0xFFFFFFFF).endRecord k 6)
  else
    let code := v0.dieCode k n
    let refuser := if code = 0 then 0xFFFFFFFF else v0.c.logical
    let v1 := v0.onC (fun c => (((if code = 0 then c.bindSession n q else c.setSession k { q with refusal := (code, c.logical) }).setReg
      (0x4100 + k) 7 1).setResult k code refuser))
    v1.onC (fun c => c.sendAck code n 1 0 refuser)

/-- Leaves a session at a die: its bindings are freed and its record ends. -/
def Vangeg.dieLeave (v : Vangeg) (k n st : Nat) : Vangeg := v.onC (fun c => (c.unbindSession n).endRecord k st)

/-! ## Session messages -/

/-- A HEAD at a die. -/
def Vangeg.headRx (v : Vangeg) (busy : Bool) (b : List Nat) : Vangeg :=
  if leAt b 4 4 = 0 then v
  else match v.c.headRx busy b with
    | some c => { v with c := c }
    | none => v.onC (fun c => c.sendAck 1 (leAt b 4 4) 1 0 c.logical)

/-- SESSION_HEAD_RX (R288): `busy` tells which H and A the apex uses (R289). -/
def execSessionHeadRx (p : Part) (bytes : List Nat) (busy : Bool) (s : State) : Res :=
  onPart p (fun v => v.headRx busy bytes) (fun x => x.headRx busy bytes) s

/-- An ENTRY at a die. -/
def Vangeg.sliceRx (v : Vangeg) (n i : Nat) (b : List Nat) : Vangeg :=
  let r := v.c.sliceRx n i b
  let v1 := { v with c := r.1 }
  match r.2 with
  | none => v1
  | some k => v1.dieWhole k

/-- SESSION_ENTRY_RX (R288). -/
def execSessionEntryRx (p : Part) (session slice : Nat) (bytes : List Nat) (s : State) : Res :=
  onPart p (fun v => v.sliceRx session slice bytes) (fun x => x.sliceRx session slice bytes) s

/-- SESSION_COMMIT_RX (R289). -/
def execSessionCommitRx (p : Part) (session : Nat) (s : State) : Res :=
  onPart p (fun v => v.onC (Common.commitRx session)) (Shopostra.commitRx session) s

/-- A CANCEL at a die. -/
def Vangeg.cancelRx (n cause : Nat) (v : Vangeg) : Vangeg :=
  match v.c.sessionSlot n with
  | none => v
  | some k =>
    if v.c.sessionState k = 1 ∨ v.c.sessionState k = 2 then (v.onC (fun c => c.setReg (0x4100 + k) 8 cause)).dieLeave k n 6 else v

/-- SESSION_CANCEL_RX (R281). -/
def execSessionCancelRx (p : Part) (session cause : Nat) (s : State) : Res :=
  onPart p (Vangeg.cancelRx session cause) (Shopostra.cancelRx session cause) s

/-- T_act at a die: its writes are applied. -/
def Vangeg.activate (n : Nat) (v : Vangeg) : Vangeg :=
  let r := v.c.activateRecord n
  match r.2 with
  | none => v
  | some k => ({ v with c := r.1 }).applyWrites n (dieWrites (r.1.session k))

/-- SESSION_ACTIVATE (R289). -/
def execSessionActivate (p : Part) (session : Nat) (s : State) : Res :=
  onPart p (Vangeg.activate session) (Shopostra.activate session) s

/-- An orphan at a die. -/
def Vangeg.orphan (n : Nat) (v : Vangeg) : Vangeg :=
  let r := v.c.orphanRecord n
  match r.2 with
  | none => v
  | some _ => ({ v with c := r.1 }).onC (fun c => c.unbindSession n)

/-- SESSION_ORPHAN_TIMEOUT (R293). -/
def execSessionOrphanTimeout (p : Part) (session : Nat) (s : State) : Res :=
  onPart p (Vangeg.orphan session) (Shopostra.orphan session) s

/-- A CLOSE at a die. -/
def Vangeg.closeRx (n stop : Nat) (v : Vangeg) : Vangeg :=
  let r := v.c.closeRx n stop
  let v1 := { v with c := r.1 }
  if r.2 then v1.onC (fun c => c.unbindSession n) else v1

/-- SESSION_CLOSE_RX (R294): `stop` is the TIME value of T_stop. -/
def execSessionCloseRx (p : Part) (session stop : Nat) (s : State) : Res :=
  onPart p (Vangeg.closeRx session stop) (Shopostra.closeRx session stop) s

/-! ## T_stop (R294) -/

/-- Writes 0 to an ENABLE subindex. -/
def Vangeg.disable (n : Nat) (v : Vangeg) (idx : Nat) : Vangeg :=
  match enableSub idx with
  | none => v
  | some sub => if 0x3610 ≤ idx ∧ idx < 0x3620 then (ruleSigGroup (idx - 0x3610) sub 0 (some n) v).1
    else (v.applyWrite v.c.ownReq idx sub 0).1

/-- The source number behind which a stream's END record waits: that of its last waiting unit. -/
def Common.endSource (c : Common kd) (cls tag : Nat) : Nat :=
  match (c.bud.waiting.filter (fun u => decide (u.cls = cls) && u.msgs.any (fun m => match m with
    | .data _ t _ _ _ => decide (t = tag)
    | _ => false))).getLast? with
  | some u => u.source
  | none => 97

/-- The END record of a stream. Its last interval is the last latch tick for dump images, the last grid instant where the
template has an interval, and free otherwise. -/
def Vangeg.sendEnd (n : Nat) (stop : Ticks) (v : Vangeg) (e : Template × Nat × Nat) : Vangeg :=
  let interval := leAt e.1.b 24 4
  let free := v.c.drawFree 48
  let r : Common _ × Nat := match nth 0 e.1.b 1, v.pawn.lastLatch with
    | 0, some t => (v.c, v.c.stamp t)
    | _, _ => if interval = 0 then free else (v.c, v.c.stamp (gridFloor interval (stop - 1)))
  let cls := nth 0 e.1.b 2
  let bytes := [0xEE, 0, 0, 0] ++ bytesLE 4 n ++ bytesLE 6 r.2 ++ [0, 0]
  { v with c := (r.1.submit (linkUnit cls r.1.dataPort 1 (r.1.endSource cls e.2.1) true
      [.data .activeParent e.2.1 e.2.2 r.1.logical bytes])).1 }

/-- T_stop at a die: what the session enabled is disabled, every stream ends, and the die is drained. -/
def Vangeg.stopSession (n : Nat) (v : Vangeg) : Vangeg :=
  let r := v.c.stopRecord n
  match r.2 with
  | none => v
  | some k =>
    let q := r.1.session k
    let v1 := (enables (dieWrites q)).foldl (Vangeg.disable n) { v with c := r.1 }
    let v2 := (bindList q).foldl (Vangeg.sendEnd n (q.tStop.getD 0)) v1
    v2.onC (fun c => ((((c.unbindSession n).setSession k { c.session k with drainSent := true }).closes .parents 8 n
      (bytesLE 4 1 ++ bytesLE 4 0))).endRecord k 5)

/-- SESSION_STOP (R294). -/
def execSessionStop (p : Part) (session : Nat) (s : State) : Res :=
  onPart p (Vangeg.stopSession session) (Shopostra.stopSession session) s

/-! ## Castle: the state held for L reaches the spare (R44, R478) -/

/-- An entry from its 64 bytes (Table 8-1). -/
def parseEntry (b : List Nat) : Entry :=
  { entryFree (leAt b 4 4) with
    state := nth 0 b 0, kind := nth 0 b 1, cls := nth 0 b 2, route := nth 0 b 3, session := leAt b 8 4, outStream := leAt b 12 2,
    outEpoch := nth 0 b 14, inPorts := leAt b 16 6, inCount := leAt b 22 2, interval := leAt b 24 4, elements := leAt b 28 4,
    redDesc := leAt b 32 2, tanSlot := leAt b 34 2, rateIn := leAt b 36 4, rateOut := leAt b 40 4, frames := leAt b 44 8,
    stale := leAt b 52 4, missing := leAt b 56 4 }

/-- Objects that carry stream bindings and slice state at a die, and detector bindings at a Shopostra. -/
def castleObject (kind : Part) (idx sub : Nat) : Bool :=
  match kind with
  | .vangeg => decide ((idx = 0x4800 ∧ 1 ≤ sub ∧ sub ≤ 32) ∨ (0x3810 ≤ idx ∧ idx < 0x3850 ∧ 1 ≤ sub ∧ sub ≤ 7))
  | .shopostra => decide (0x6100 ≤ idx ∧ idx < 0x6400 ∧ 1 ≤ sub)

/-- The objects delivered to a spare. -/
def Common.takeObjects (c : Common kd) (l : List (Nat × Nat × Nat)) : Common kd :=
  (l.filter (fun o => castleObject c.kind o.1 o.2.1)).foldl (fun (a : Common _) o => a.setReg o.1 o.2.1 o.2.2) c

/-- The saved image that comes with a Castle while STOPPED is restored at the resume (R478). -/
def Common.takeSaved (c : Common kd) (image : Option (List (Nat × Nat) × List (Nat × Nat))) : Common kd :=
  match image with
  | none => c
  | some i => if c.stopped then c.onFlag (fun f => { f with
      saved := some { t := c.now, slots := [], values := i.1, windows := i.2 }, restore := true }) else c

/-- The spare die S receives what is held for L, and acknowledges. -/
def Vangeg.castleState (l : Nat) (objects : List (Nat × Nat × Nat)) (image : Option (List (Nat × Nat) × List (Nat × Nat)))
    (v : Vangeg) : Vangeg :=
  v.onC (fun c => ((c.takeObjects objects).takeSaved image).message .parents "CASTLE_ACK" [l])

/-- CASTLE_STATE_DELIVERY (R44): a spare receives the entries, bindings and slice state held for L. -/
def execCastleStateDelivery (p : Part) (l : Nat) (entries : List (Nat × List Nat)) (objects : List (Nat × Nat × Nat))
    (image : Option (List (Nat × Nat) × List (Nat × Nat))) (s : State) : Res :=
  onPart p (fun v => if v.c.isSpare then v.castleState l objects image else v)
    (fun x => if x.c.isSpare then
        (x.onC (fun c => (c.takeObjects objects).takeSaved image)).castleState l (entries.map (fun e => (e.1, parseEntry e.2)))
      else x) s

end Sys2Proof.Machine
end

