-- ==== Sys2Proof/Machine/Frames.lean ====
section
/-! DEFINITION. Frames received (R230 to R235, R283) and what each one carries, delivered to its unit; and the start of a
board cycle (R69). -/

namespace Sys2Proof.Machine

variable {kd : Part}

/-! ## Carrying commands on within one -/

/-- The state after a meaning; the state before where it has none. -/
def after_ (f : State → Res) (s : State) : State :=
  match f s with
  | .next t => t
  | _ => s

/-- The common units of a part of the machine. -/
def State.com (s : State) (p : Part) : Common p :=
  match p with
  | .vangeg => s.vg.c
  | .shopostra => s.sx.c

/-- Whether a part runs. -/
def State.runs (s : State) (p : Part) : Bool :=
  match p with
  | .vangeg => !s.vg.bnd.inReset
  | .shopostra => s.sx.runs

/-! ## CONTROL payloads (R234, R288, R452, R499, R587) -/

/-- Which H and A a HEAD was made with: those of an idle apex where its instants agree with them (R289). -/
def headBusy (c : Common kd) (b : List Nat) : Bool :=
  let act := c.timeOf (leAt b 16 16)
  let deadline := c.timeOf (leAt b 32 16)
  !decide (actInstant (deadline + (c.depth - 1) * usT 250) = act)

/-- A session message, by OP (Table 8-5). -/
def sessionMessage (p : Part) (port : Nat) (b : List Nat) (s : State) : Res :=
  let n := leAt b 4 4
  match nth 0 b 0 with
  | 1 => execSessionHeadRx p b (headBusy (s.com p) b) s
  | 2 => execSessionEntryRx p n (leAt b 2 2) ((b.drop 16).take 192) s
  | 3 => execSessionReceiptRx port n s
  | 4 => execSessionAckRx port n (nth 0 b 1) (leAt b 8 4) (leAt b 12 4) (leAt b 16 4) s
  | 5 => execSessionCommitRx p n s
  | 6 => execSessionCancelRx p n (nth 0 b 1) s
  | 7 => execSessionCloseRx p n (leAt b 16 16) s
  | 8 => execDrainDoneRx port n (leAt b 8 4) (leAt b 12 4) s
  | 9 => execSessionQueryRx port n s
  | _ => .next s

/-- Whether a port of a part leads upward: to a parent or partner. -/
def fromAbove (p : Part) (port : Nat) : Bool :=
  match p with
  | .vangeg => true
  | .shopostra => (childIndex port).isNone

/-- A record, by TYPE. A record whose TYPE a part does not act on changes nothing. -/
def controlRecord (p : Part) (port lane source : Nat) (b : List Nat) (s : State) : Res :=
  let t := nth 0 b 0
  let up := decide (p = .shopostra)
  if t = 0x50 then execHeartbeatRx p port source b s
  else if t = 0x53 ∧ up then execParentRevokeRx port b s
  else if t = 0x51 then execLivenessNoticeRx p (fromAbove p port) b s
  else if t = 0x5F then execRehearsalRecordRx p (fromAbove p port) b s
  else if t = 0x61 then execSnapCountRx p port b s
  else if t = 0x70 ∧ up then execForwardedRecordRx port (leAt b 4 4) ((b.drop 8).take (leAt b 8 2)) s
  else if t = 0x71 ∧ !up then execForwardAckRx port (leAt b 4 4) s
  else if t = 0x72 ∧ !up then execDieCountsRx (leAt b 1 4) (leAt b 5 4) s
  else if t = 0x73 ∧ !up then execCalRecordRx lane (b.drop 1) s
  else if t = 0x38 then execVerdictRecordRx p b [] s
  else if t = 0x40 ∧ up then execErrorReportRx b s
  else if t = 3 ∨ t = 4 ∨ t = 8 ∨ t = 9 then (if up then sessionMessage p port b s else .next s)
  else if 1 ≤ t ∧ t ≤ 7 then sessionMessage p port b s
  else .next s

/-- A change of TEMPO_MODE broadcast by the apex is held for S (R55). -/
def Common.learnMode (mode switch : Nat) (c : Common kd) : Common kd :=
  { c with tempo := { c.tempo with switchAt := some (c.timeOf switch, mode) } }

/-- The path of a request that arrives on a port. -/
def pathOf (p : Part) (port : Nat) : Path := if fromAbove p port then .upper port else .child port

/-- What a CONTROL frame carries, delivered. -/
def controlBody (p : Part) (port lane source : Nat) (b : CtlBody) (s : State) : Res :=
  match b with
  | .request q => onPart p (Vangeg.request (pathOf p port) source q) (Shopostra.request (pathOf p port) source q) s
  | .response q => execControlResponseRx p port q s
  | .tempoMode m t => onPart p (fun v => v.onC (Common.learnMode m t))
      (fun x => (x.onC (Common.learnMode m t)).passDown .children "TEMPO_MODE" [m, t]) s
  | .tempoEpoch e => onPart p (fun v => v.onC (fun c => c.setReg 0x1201 0 e))
      (fun x => (x.onC (fun c => c.setReg 0x1201 0 e)).passDown .children "TEMPO_EPOCH" [e]) s
  | .assign phys l => onPart p (fun v => v.onC (fun c => c.learnAssign phys l)) (Shopostra.learnAssign phys l) s
  | .castleBind l k x t => onPart p (fun v => v) (Shopostra.learnCastle l k x t) s
  | .castleCancel l => onPart p (fun v => v) (Shopostra.cancelCastle l) s
  | .castleAck l => onPart p (fun v => v) (Shopostra.castleAck l) s
  | .other t f => controlRecord p port lane source (t :: f) s

/-- A CONTROL frame in its turn: the end-to-end check (R234), then its payload. -/
def controlFrame (p : Part) (port lane : Nat) (f : Frame) (b : CtlBody) (s : State) : Res :=
  if f.e2eOk then controlBody p port lane f.source b s
  else onC p (fun c => ((c.violation port lane 0x060F).bump 0x130C (port + 1)).baseline 36) s

/-- Whether a payload is a heartbeat or a parent-revoke record, which take no credit and no place in the reorder window
(R432). -/
def isHeartbeat (b : FrameBody) : Bool :=
  match b with
  | .control (.other t _) => decide (t = 0x50 ∨ t = 0x53)
  | _ => false

/-! ## DATA messages (R283, R307, R361, R398, R624) -/

/-- The instant on an entry's grid that the stamp of a message names. -/
def Shopostra.messageInstant (x : Shopostra) (tag : Nat) (m : List Nat) : Ticks :=
  gridFloor (x.entry tag).interval (x.c.extend (leAt m 8 6))

/-- An input of an entry with FORWARD: re-sent to the parent with its originator's SOURCE (R624), staged raw (R361), and
logged (R330). -/
def Shopostra.forwardInput (x : Shopostra) (tag source : Nat) (m : List Nat) : Shopostra :=
  let e := x.entry tag
  let x1 := x.logInput tag source (x.messageInstant tag m) false m
  let x2 := x1.sendUp e.cls tag source m
  if e.toTangent then x2.rawInput tag source m else x2

/-- A whole message of an entry, by what the entry is. -/
def Shopostra.message (x : Shopostra) (tag port source : Nat) (m : List Nat) : Shopostra :=
  let e := x.entry tag
  if nth 0 m 0 = 0xEE ∧ m.length = 16 ∧ e.kind ≠ 3 then x.endPort tag port
  else if e.kind = 3 ∧ nth 0 m 0 = 0xEE ∧ leAt m 4 4 = e.session ∧ m.length = 16 then x.endPort tag port
  else if e.forwards then x.forwardInput tag source m
  else if e.kind = 3 then (x.logInput tag source (x.messageInstant tag m) false m).chordRecord tag source m
  else if e.kind = 4 then (x.logInput tag source (x.messageInstant tag m) false m).roundInput tag port source m
  else if e.redDesc = 0xFFFF then x
  else x.reduceInput tag port source m

/-- A frame of the recent-input log's mirror: queue 7, STREAM 0 (R331). -/
def isMirror (f : Frame) : Bool := decide (f.queue = 7 ∧ f.stream = 0)

/-- A mirrored log record from its bytes (R330). -/
def Shopostra.mirrorIn (x : Shopostra) (b : List Nat) : Shopostra :=
  let n := leAt b 16 4
  if x.hist.lost then x
  else x.onRed (fun q => { q with log := q.log ++
    [{ stream := leAt b 0 2, epoch := nth 0 b 2, shard := decide (nth 0 b 3 % 2 = 1), source := leAt b 4 4,
       instant := x.c.extend (leAt b 8 6), message := (b.drop 24).take n, mirror := true }] })

/-- A DATA frame in its turn at a Shopostra: the fence of R446, the binding set (R623), the stream table (R283), then the
assembly of its message (R230). -/
def Shopostra.dataFrame (port lane : Nat) (f : Frame) (bytes : List Nat) (x : Shopostra) : Shopostra :=
  if x.c.liveState port = 3 ∨ x.c.liveState port = 4 then x.onC (fun c => c.bump 0x7004 4)
  else if f.source ∉ x.c.bindingSet port then
    let x1 := x.onC (fun c => (c.violation port lane 0x0611).bump 0x130D (port + 1))
    if (port, f.source) ∈ x.fleet.moved then x1.onC (fun c => c.bump 0x7011 6) else x1
  else if isMirror f then
    let q := x.c.assemble port f bytes
    match q.2 with
    | none => { x with c := q.1 }
    | some m => ({ x with c := q.1 }).mirrorIn m
  else
    let r := x.acceptFrame port lane f.stream f.epoch
    if !r.2 then r.1
    else
      let q := r.1.c.assemble port f bytes
      match q.2 with
      | none => { r.1 with c := q.1 }
      | some m => ({ r.1 with c := q.1 }).message f.stream port f.source m

/-- A DATA frame at a Vangeg, which has no stream table (Table 6-8). -/
def Vangeg.dataFrame (port lane : Nat) (f : Frame) (v : Vangeg) : Vangeg :=
  if f.source ∈ v.c.bindingSet port then v.onC (fun c => c.violation port lane 0x0610)
  else v.onC (fun c => (c.violation port lane 0x0611).bump 0x130D (port + 1))

/-! ## Reception -/

/-- A frame in its turn: its credit is freed, and its content delivered. -/
def deliver (p : Part) (port lane : Nat) (s : State) (f : Frame) : State :=
  let s1 := after_ (onC p (fun c => c.freeFrame port f.queue)) s
  match f.body with
  | .control b => after_ (controlFrame p port lane f b) s1
  | .data bytes => after_ (onPart p (Vangeg.dataFrame port lane f) (Shopostra.dataFrame port lane f (bytes.take f.len))) s1

/-- Runs a step of a port's receiver, then delivers the frames that it releases. -/
def receiveWith (p : Part) (port lane : Nat) (f : Common p → Common p × List Frame) (s : State) : Res :=
  if s.runs p then
    let ready := (f (s.com p)).2
    .next (ready.foldl (deliver p port lane) (after_ (onC p (fun c => (f c).1)) s))
  else .next s

/-- A heartbeat's link checks: it has its own buffer and no LSEQ (R432). -/
def Common.heartbeatReceive (c : Common kd) (port lane : Nat) (f : Frame) : Common kd × Bool :=
  if !c.portUp port then (c, false)
  else if !c.laneUsable port lane then (c.violation port lane 0x0616, false)
  else if !f.fecOk then (c.bump 0x1309 (port + 1), false)
  else if !f.hchkOk then ((c.violation port lane 0x0603).bump 0x1309 (port + 1), false)
  else (c, true)

/-- A frame arrives on a lane of a port: captured for a cut (R473), checked, and delivered in its turn. -/
def receiveFrame (p : Part) (port lane : Nat) (f : Frame) (s : State) : Res :=
  if isHeartbeat f.body then
    let good := ((s.com p).heartbeatReceive port lane f).2
    let s1 := after_ (onC p (fun c => (c.heartbeatReceive port lane f).1)) s
    match f.body with
    | .control b => if good then controlFrame p port lane f b s1 else .next s1
    | .data _ => .next s1
  else receiveWith p port lane (fun c => (let r := c.linkReceive port lane f; (r.1.capture port lane f, r.2))) s

/-- CONTROL_FRAME_RX (R234). -/
def execControlFrameRx (p : Part) (port lane : Nat) (f : Frame) (b : CtlBody) (s : State) : Res :=
  receiveFrame p port lane { f with body := .control b } s

/-- DATA_FRAME_RX (R283). -/
def execDataFrameRx (p : Part) (port lane : Nat) (f : Frame) (bytes : List Nat) (s : State) : Res :=
  receiveFrame p port lane { f with body := .data bytes } s

/-- REORDER_GAP_TIMEOUT (R231): 1 µs after the frame of the queue that is held longest. -/
def execReorderGapTimeout (p : Part) (port queue : Nat) (s : State) : Res :=
  receiveWith p port 0 (fun c =>
    match (c.port port).held.filter (fun h => decide (h.1.queue = queue)) with
    | [] => (c, [])
    | h :: l =>
      let first := l.foldl (fun m k => min m k.2) h.2
      (c.arrive (first + usT 1)).gapTimeout port queue) s

/-! ## Board cycles (R69) -/

/-- The start of the next board cycle. -/
def Common.nextCycle (c : Common kd) : Common kd := c.arrive (cycleStart c.now + cycleT)

/-- What the common units do at a board-cycle start: budgets, ports, and time sources. -/
def Common.cycleWork (ports : Bool) (rest : List WorkUnit) (c : Common kd) : Common kd :=
  let c1 := c.budgetCycle rest
  let c2 := if ports then (List.range c1.portCount).foldl (fun (a : Common _) p => a.portCycle p) c1 else c1
  ((c2.countRuns).checkSource).countParents

/-- A board-cycle start at a Vangeg whose hub runs. -/
def Vangeg.cycle (v : Vangeg) : Vangeg :=
  let v0 := v.sendCoalesced
  let v1 := v0.onC Common.nextCycle
  if !v1.bnd.pllLocked then v1
  else
    let v2 := (v1.onC (Common.cycleWork true v1.hostRest)).suspectCheck
    ((((v2.heartbeats).unfence).takeBaseline).takeSlots.drainAll).onC Common.queries

/-- A board-cycle start at a Shopostra. -/
def Shopostra.cycle (x : Shopostra) : Shopostra :=
  let x0 := x.onC Common.dropMirrors
  let x1 := x0.onC Common.nextCycle
  let x2 := (x1.onC (Common.cycleWork x1.pkg.portsReleased [])).suspectCheck
  (((x2.heartbeats).unfence).remap).onC Common.queries

/-- BOARD_CYCLE_START (R69). -/
def execBoardCycleStart (p : Part) (s : State) : Res := onPart p Vangeg.cycle Shopostra.cycle s

end Sys2Proof.Machine
end

