-- ==== Sys2Proof/Machine/Dispatch.lean ====
section
/-! DEFINITION. The dispatch of commands to their meanings: one arm per row of spec/opcode_table.json. -/

namespace Sys2Proof.Machine

/-- The effect of a command on everything but the queue. -/
def exec (i : Instr) (s : State) : Host.Outcome State Fault Refusal :=
  match i with
  | .boardCycleStart p => Sys2Proof.Machine.execBoardCycleStart p s
  | .activeParentSwitch p own => Sys2Proof.Machine.execActiveParentSwitch p own s
  | .mirrorApexTakeover => Sys2Proof.Machine.execMirrorApexTakeover s
  | .levelRoleWrite r v => Sys2Proof.Machine.execLevelRoleWrite r v s
  | .liveAssign r v role port => Sys2Proof.Machine.execLiveAssign r v role port s
  | .castleSubmit r v passed cls => Sys2Proof.Machine.execCastleSubmit r v passed cls s
  | .castleStateDelivery p l entries objects image => Sys2Proof.Machine.execCastleStateDelivery p l entries objects image s
  | .castleAckDeadline l => Sys2Proof.Machine.execCastleAckDeadline l s
  | .castleInstant p l port => Sys2Proof.Machine.execCastleInstant p l port s
  | .tempoModeWrite p r v => Sys2Proof.Machine.execTempoModeWrite p r v s
  | .tempoModeSwitch p => Sys2Proof.Machine.execTempoModeSwitch p s
  | .tempoEpochWrite p r v => Sys2Proof.Machine.execTempoEpochWrite p r v s
  | .tempoIncrWrite p r v => Sys2Proof.Machine.execTempoIncrWrite p r v s
  | .tempoStep p r v => Sys2Proof.Machine.execTempoStep p r v s
  | .tempoCmpArm p r n v => Sys2Proof.Machine.execTempoCmpArm p r n v s
  | .tempoCmpFire p n => Sys2Proof.Machine.execTempoCmpFire p n s
  | .tempoSourceValid p lane => Sys2Proof.Machine.execTempoSourceValid p lane s
  | .tempoSourceLost p => Sys2Proof.Machine.execTempoSourceLost p s
  | .tempoLock p => Sys2Proof.Machine.execTempoLock p s
  | .tempoUnlock p => Sys2Proof.Machine.execTempoUnlock p s
  | .tempoSourceSelWrite r v => Sys2Proof.Machine.execTempoSourceSelWrite r v s
  | .ptpMessageRx port m => Sys2Proof.Machine.execPtpMessageRx port m s
  | .ptpMessageTx port kind => Sys2Proof.Machine.execPtpMessageTx port kind s
  | .esmcRx ql => Sys2Proof.Machine.execEsmcRx ql s
  | .ppsEdge t => Sys2Proof.Machine.execPpsEdge t s
  | .tempoTodWrite r v => Sys2Proof.Machine.execTempoTodWrite r v s
  | .timeDownSend p lane => Sys2Proof.Machine.execTimeDownSend p lane s
  | .timeDownRx p lane kind mode state hops seq a b dwell => Sys2Proof.Machine.execTimeDownRx p lane kind mode state hops seq a b dwell s
  | .timeUpRx p lane kind mode seq => Sys2Proof.Machine.execTimeUpRx p lane kind mode seq s
  | .timeSourceReturn p => Sys2Proof.Machine.execTimeSourceReturn p s
  | .tempoDisagreement p => Sys2Proof.Machine.execTempoDisagreement p s
  | .linkAsymWrite p r sub v => Sys2Proof.Machine.execLinkAsymWrite p r sub v s
  | .chordEvent receive msg peer => Sys2Proof.Machine.execChordEvent receive msg peer s
  | .chordRecordRx tag source msg => Sys2Proof.Machine.execChordRecordRx tag source msg s
  | .chordRecordExpire => Sys2Proof.Machine.execChordRecordExpire s
  | .chordFit => Sys2Proof.Machine.execChordFit s
  | .hrpRequest op tag idx sub word data priv pasid => Sys2Proof.Machine.execHrpRequest op tag idx sub word data priv pasid s
  | .hmwWriteResponse id resp => Sys2Proof.Machine.execHmwWriteResponse id resp s
  | .hmwSquashAck => Sys2Proof.Machine.execHmwSquashAck s
  | .errReport cls unit addr job => Sys2Proof.Machine.execErrReport cls unit addr job s
  | .pwrReqRise island => Sys2Proof.Machine.execPwrReqRise island s
  | .islandSaveComplete island moved => Sys2Proof.Machine.execIslandSaveComplete island moved s
  | .pwrReqFall island => Sys2Proof.Machine.execPwrReqFall island s
  | .islandRestoreComplete island => Sys2Proof.Machine.execIslandRestoreComplete island s
  | .pwrClockStopTimeout island => Sys2Proof.Machine.execPwrClockStopTimeout island s
  | .testIsoAckRise block => Sys2Proof.Machine.execTestIsoAckRise block s
  | .testIsoAckTimeout block => Sys2Proof.Machine.execTestIsoAckTimeout block s
  | .testIsoAckFall block => Sys2Proof.Machine.execTestIsoAckFall block s
  | .vangegColdReset timeout => Sys2Proof.Machine.execVangegColdReset timeout s
  | .hubPllLock => Sys2Proof.Machine.execHubPllLock s
  | .warmResetRequest => Sys2Proof.Machine.execWarmResetRequest s
  | .warmResetSaveDone => Sys2Proof.Machine.execWarmResetSaveDone s
  | .warmResetRelease => Sys2Proof.Machine.execWarmResetRelease s
  | .warmResetRestoreDone => Sys2Proof.Machine.execWarmResetRestoreDone s
  | .fuseProgramDone p err => Sys2Proof.Machine.execFuseProgramDone p err s
  | .i3cCcc k => Sys2Proof.Machine.execI3cCcc k s
  | .i3cPrivateWrite bytes => Sys2Proof.Machine.execI3cPrivateWrite bytes s
  | .i3cPrivateRead => Sys2Proof.Machine.execI3cPrivateRead s
  | .pawnConfigWrite r cell k v => Sys2Proof.Machine.execPawnConfigWrite r cell k v s
  | .pawnValueWrite r cell k v => Sys2Proof.Machine.execPawnValueWrite r cell k v s
  | .pawnReloadWrite r cell k v => Sys2Proof.Machine.execPawnReloadWrite r cell k v s
  | .pawnCellOwnerWrite r cell v => Sys2Proof.Machine.execPawnCellOwnerWrite r cell v s
  | .pawnOverflow cell k inc => Sys2Proof.Machine.execPawnOverflow cell k inc s
  | .sampleRecordReady block group pc ctx pasid => Sys2Proof.Machine.execSampleRecordReady block group pc ctx pasid s
  | .sampleCaptureTimeout block group => Sys2Proof.Machine.execSampleCaptureTimeout block group s
  | .pawnCmdSubmit r v => Sys2Proof.Machine.execPawnCmdSubmit r v s
  | .pawnCmdStart => Sys2Proof.Machine.execPawnCmdStart s
  | .pawnCmdStop => Sys2Proof.Machine.execPawnCmdStop s
  | .pawnCmdRestart => Sys2Proof.Machine.execPawnCmdRestart s
  | .pawnCmdClearOvf => Sys2Proof.Machine.execPawnCmdClearOvf s
  | .pawnLatchPeriodWrite r v => Sys2Proof.Machine.execPawnLatchPeriodWrite r v s
  | .latchPeriodChange => Sys2Proof.Machine.execLatchPeriodChange s
  | .latchTick => Sys2Proof.Machine.execLatchTick s
  | .bwWindowClose window => Sys2Proof.Machine.execBwWindowClose window s
  | .pawnBwSrcWrite r window v => Sys2Proof.Machine.execPawnBwSrcWrite r window v s
  | .dumpDestEnable r host v => Sys2Proof.Machine.execDumpDestEnable r host v s
  | .ringRptrWrite r ring v => Sys2Proof.Machine.execRingRptrWrite r ring v s
  | .ringWritesAnswered ring => Sys2Proof.Machine.execRingWritesAnswered ring s
  | .mirrorWriteAnswered ring => Sys2Proof.Machine.execMirrorWriteAnswered ring s
  | .counterParityError cell => Sys2Proof.Machine.execCounterParityError cell s
  | .saveStoreEccError island => Sys2Proof.Machine.execSaveStoreEccError island s
  | .imageBufferParityError host => Sys2Proof.Machine.execImageBufferParityError host s
  | .traceRecord src ret da ctx pasid => Sys2Proof.Machine.execTraceRecord src ret da ctx pasid s
  | .traceFrontOverflowExit src => Sys2Proof.Machine.execTraceFrontOverflowExit src s
  | .tracePacketCommit src => Sys2Proof.Machine.execTracePacketCommit src s
  | .trcCmpWrite r cmp sub v => Sys2Proof.Machine.execTrcCmpWrite r cmp sub v s
  | .trcCmdSubmit r v => Sys2Proof.Machine.execTrcCmdSubmit r v s
  | .trcStartEdge => Sys2Proof.Machine.execTrcStartEdge s
  | .trcStopEdge => Sys2Proof.Machine.execTrcStopEdge s
  | .trcSrcConfigWrite r src sub v => Sys2Proof.Machine.execTrcSrcConfigWrite r src sub v s
  | .trcBufRead r src => Sys2Proof.Machine.execTrcBufRead r src s
  | .traceFeParityError src => Sys2Proof.Machine.execTraceFeParityError src s
  | .traceBufferEccError src seq => Sys2Proof.Machine.execTraceBufferEccError src seq s
  | .slotSchedule p port lane slot => Sys2Proof.Machine.execSlotSchedule p port lane slot s
  | .guardWindow p port lane code => Sys2Proof.Machine.execGuardWindow p port lane code s
  | .controlFrameRx p port lane f b => Sys2Proof.Machine.execControlFrameRx p port lane f b s
  | .dataFrameRx p port lane f bytes => Sys2Proof.Machine.execDataFrameRx p port lane f bytes s
  | .reorderGapTimeout p port queue => Sys2Proof.Machine.execReorderGapTimeout p port queue s
  | .creditWordRx p port queue cum => Sys2Proof.Machine.execCreditWordRx p port queue cum s
  | .creditSyncRx p port lane queue cum => Sys2Proof.Machine.execCreditSyncRx p port lane queue cum s
  | .laneWordRx p port u0 u1 => Sys2Proof.Machine.execLaneWordRx p port u0 u1 s
  | .laneWordMissing p port => Sys2Proof.Machine.execLaneWordMissing p port s
  | .laneDegrade p port lane lost corr uncorr ser => Sys2Proof.Machine.execLaneDegrade p port lane lost corr uncorr ser s
  | .laneRestore p port lane => Sys2Proof.Machine.execLaneRestore p port lane s
  | .portEnableWrite p r port v => Sys2Proof.Machine.execPortEnableWrite p r port v s
  | .trainingLock p port lane => Sys2Proof.Machine.execTrainingLock p port lane s
  | .identRx p port lane ident => Sys2Proof.Machine.execIdentRx p port lane ident s
  | .identPeriodicSend p port => Sys2Proof.Machine.execIdentPeriodicSend p port s
  | .portTimeComplete p port serial => Sys2Proof.Machine.execPortTimeComplete p port serial s
  | .trainingTimeout p port => Sys2Proof.Machine.execTrainingTimeout p port s
  | .portFailedExpiry p port => Sys2Proof.Machine.execPortFailedExpiry p port s
  | .portDown p port => Sys2Proof.Machine.execPortDown p port s
  | .portCreditsWrite p r queue v => Sys2Proof.Machine.execPortCreditsWrite p r queue v s
  | .laserInputChange input state => Sys2Proof.Machine.execLaserInputChange input state s
  | .engineFault engine => Sys2Proof.Machine.execEngineFault engine s
  | .unitReady p cls slice source port link hmw intr iso => Sys2Proof.Machine.execUnitReady p cls slice source port link hmw intr iso s
  | .unitRetry p => Sys2Proof.Machine.execUnitRetry p s
  | .isoBudgetAbort => Sys2Proof.Machine.execIsoBudgetAbort s
  | .budAmountWrite p r idx sub v => Sys2Proof.Machine.execBudAmountWrite p r idx sub v s
  | .budShapeWrite p r port sub v => Sys2Proof.Machine.execBudShapeWrite p r port sub v s
  | .gclSwitchSubmit p r port v => Sys2Proof.Machine.execGclSwitchSubmit p r port v s
  | .gclSwitchCancel p r port => Sys2Proof.Machine.execGclSwitchCancel p r port s
  | .gclSwitch p port => Sys2Proof.Machine.execGclSwitch p port s
  | .budgetParityError p cls => Sys2Proof.Machine.execBudgetParityError p cls s
  | .gclParityError p port => Sys2Proof.Machine.execGclParityError p port s
  | .strmDescDataWrite r v => Sys2Proof.Machine.execStrmDescDataWrite r v s
  | .sessionOpen r v => Sys2Proof.Machine.execSessionOpen r v s
  | .sessionHeadRx p bytes busy => Sys2Proof.Machine.execSessionHeadRx p bytes busy s
  | .sessionEntryRx p session slice bytes => Sys2Proof.Machine.execSessionEntryRx p session slice bytes s
  | .sessionTagCopyRx session tags => Sys2Proof.Machine.execSessionTagCopyRx session tags s
  | .sessionReceiptRx port session => Sys2Proof.Machine.execSessionReceiptRx port session s
  | .prepareResendCheck session => Sys2Proof.Machine.execPrepareResendCheck session s
  | .sessionAckRx port session result dies positions refuser => Sys2Proof.Machine.execSessionAckRx port session result dies positions refuser s
  | .sessionAckDeadline session => Sys2Proof.Machine.execSessionAckDeadline session s
  | .sessionDecide session => Sys2Proof.Machine.execSessionDecide session s
  | .sessionCommitRx p session => Sys2Proof.Machine.execSessionCommitRx p session s
  | .sessionCancelRx p session cause => Sys2Proof.Machine.execSessionCancelRx p session cause s
  | .sessionQueryRx port session => Sys2Proof.Machine.execSessionQueryRx port session s
  | .sessionActivate p session => Sys2Proof.Machine.execSessionActivate p session s
  | .sessionOrphanTimeout p session => Sys2Proof.Machine.execSessionOrphanTimeout p session s
  | .sessionClose r v => Sys2Proof.Machine.execSessionClose r v s
  | .sessionCloseRx p session stop => Sys2Proof.Machine.execSessionCloseRx p session stop s
  | .sessionStop p session => Sys2Proof.Machine.execSessionStop p session s
  | .endRecordRx port tag epoch => Sys2Proof.Machine.execEndRecordRx port tag epoch s
  | .drainTimeout tag port => Sys2Proof.Machine.execDrainTimeout tag port s
  | .entryDrained tag told => Sys2Proof.Machine.execEntryDrained tag told s
  | .drainDoneRx port session dies timeouts => Sys2Proof.Machine.execDrainDoneRx port session dies timeouts s
  | .sessionRecordExpire p session => Sys2Proof.Machine.execSessionRecordExpire p session s
  | .redDescDataWrite r v => Sys2Proof.Machine.execRedDescDataWrite r v s
  | .redDescCommit r v => Sys2Proof.Machine.execRedDescCommit r v s
  | .intervalDeadline tag instant => Sys2Proof.Machine.execIntervalDeadline tag instant s
  | .logMirrorRx stream epoch shard source instant message => Sys2Proof.Machine.execLogMirrorRx stream epoch shard source instant message s
  | .logRecordExpire => Sys2Proof.Machine.execLogRecordExpire s
  | .redReadoutRead r => Sys2Proof.Machine.execRedReadoutRead r s
  | .redQuantileRead r sub => Sys2Proof.Machine.execRedQuantileRead r sub s
  | .redReplaySubmit r v reachable => Sys2Proof.Machine.execRedReplaySubmit r v reachable s
  | .replayRecordsDone records lost => Sys2Proof.Machine.execReplayRecordsDone records lost s
  | .reductionCellFault cell hit => Sys2Proof.Machine.execReductionCellFault cell hit s
  | .logCrcFailure stream source instant => Sys2Proof.Machine.execLogCrcFailure stream source instant s
  | .tangentRunStart => Sys2Proof.Machine.execTangentRunStart s
  | .tangentPhaseStart slot => Sys2Proof.Machine.execTangentPhaseStart slot s
  | .slotRunComplete slot => Sys2Proof.Machine.execSlotRunComplete slot s
  | .tileFault tile quadrant => Sys2Proof.Machine.execTileFault tile quadrant s
  | .programLoad r => Sys2Proof.Machine.execProgramLoad r s
  | .programUnload r => Sys2Proof.Machine.execProgramUnload r s
  | .tanLoadDataWrite r v => Sys2Proof.Machine.execTanLoadDataWrite r v s
  | .tanSlotSeedWrite r slot v => Sys2Proof.Machine.execTanSlotSeedWrite r slot v s
  | .sigTapBeat unit audit bytes => Sys2Proof.Machine.execSigTapBeat unit audit bytes s
  | .sigStepEnd unit job epoch bytes => Sys2Proof.Machine.execSigStepEnd unit job epoch bytes s
  | .roundInputWaitTimeout group epoch => Sys2Proof.Machine.execRoundInputWaitTimeout group epoch s
  | .sigGroupWrite r group sub v => Sys2Proof.Machine.execSigGroupWrite r group sub v s
  | .roundInputRx tag port source msg => Sys2Proof.Machine.execRoundInputRx tag port source msg s
  | .roundDeadline tag job group epoch => Sys2Proof.Machine.execRoundDeadline tag job group epoch s
  | .verdictRecordRx p record refs => Sys2Proof.Machine.execVerdictRecordRx p record refs s
  | .sigCleanJobWrite r v => Sys2Proof.Machine.execSigCleanJobWrite r v s
  | .sigResume r v => Sys2Proof.Machine.execSigResume r v s
  | .auditReplayEnd unit bytes => Sys2Proof.Machine.execAuditReplayEnd unit bytes s
  | .auditDeadline unit => Sys2Proof.Machine.execAuditDeadline unit s
  | .minorityQueryRx job group epoch refs => Sys2Proof.Machine.execMinorityQueryRx job group epoch refs s
  | .minorityAnswerRx job group epoch die => Sys2Proof.Machine.execMinorityAnswerRx job group epoch die s
  | .minorityDeadline session job => Sys2Proof.Machine.execMinorityDeadline session job s
  | .taintMapCompute session job logs => Sys2Proof.Machine.execTaintMapCompute session job logs s
  | .taintNoticeRx job epoch => Sys2Proof.Machine.execTaintNoticeRx job epoch s
  | .repeatComplete unit bytes => Sys2Proof.Machine.execRepeatComplete unit bytes s
  | .repeatDeadline unit => Sys2Proof.Machine.execRepeatDeadline unit s
  | .classEntryExpire => Sys2Proof.Machine.execClassEntryExpire s
  | .healthSample therm volt => Sys2Proof.Machine.execHealthSample therm volt s
  | .errorReportRx bytes => Sys2Proof.Machine.execErrorReportRx bytes s
  | .sigAccumulatorParity unit lost => Sys2Proof.Machine.execSigAccumulatorParity unit lost s
  | .roundEccError tag job group epoch lost => Sys2Proof.Machine.execRoundEccError tag job group epoch lost s
  | .heartbeatRx p port source bytes => Sys2Proof.Machine.execHeartbeatRx p port source bytes s
  | .parentRevokeRx port bytes => Sys2Proof.Machine.execParentRevokeRx port bytes s
  | .leaseExpiry p => Sys2Proof.Machine.execLeaseExpiry p s
  | .deadDeclaration port => Sys2Proof.Machine.execDeadDeclaration port s
  | .partnerDeadWaitEnd => Sys2Proof.Machine.execPartnerDeadWaitEnd s
  | .liveFenceCmd r v => Sys2Proof.Machine.execLiveFenceCmd r v s
  | .fenceCommandInstant l at_ => Sys2Proof.Machine.execFenceCommandInstant l at_ s
  | .livenessNoticeRx p down bytes => Sys2Proof.Machine.execLivenessNoticeRx p down bytes s
  | .controlResponseRx p port q => Sys2Proof.Machine.execControlResponseRx p port q s
  | .liveGambit r v => Sys2Proof.Machine.execLiveGambit r v s
  | .gambitRun kind target tag dur rep start => Sys2Proof.Machine.execGambitRun kind target tag dur rep start s
  | .rehearsalRecordRx p down bytes => Sys2Proof.Machine.execRehearsalRecordRx p down bytes s
  | .leaseParityError => Sys2Proof.Machine.execLeaseParityError s
  | .livenessStateParity port => Sys2Proof.Machine.execLivenessStateParity port s
  | .flagSnapshotSubmit r v => Sys2Proof.Machine.execFlagSnapshotSubmit r v s
  | .flagStopSubmit r v => Sys2Proof.Machine.execFlagStopSubmit r v s
  | .flagResumeSubmit r v => Sys2Proof.Machine.execFlagResumeSubmit r v s
  | .flagCancelSubmit r v => Sys2Proof.Machine.execFlagCancelSubmit r v s
  | .flagSymbolSend id => Sys2Proof.Machine.execFlagSymbolSend id s
  | .flagWordRx p port lane kind hops id arg crcOk => Sys2Proof.Machine.execFlagWordRx p port lane kind hops id arg crcOk s
  | .triggerCopyRx id kind t => Sys2Proof.Machine.execTriggerCopyRx id kind t s
  | .snapshotAction p id => Sys2Proof.Machine.execSnapshotAction p id s
  | .stopAction p id => Sys2Proof.Machine.execStopAction p id s
  | .resumeAction p id => Sys2Proof.Machine.execResumeAction p id s
  | .snapCountRx p port bytes => Sys2Proof.Machine.execSnapCountRx p port bytes s
  | .captureTimeout p port id => Sys2Proof.Machine.execCaptureTimeout p port id s
  | .savedImageRx source values windows => Sys2Proof.Machine.execSavedImageRx source values windows s
  | .histSeek r v => Sys2Proof.Machine.execHistSeek r v s
  | .histRead r words => Sys2Proof.Machine.execHistRead r words s
  | .recRead p r words => Sys2Proof.Machine.execRecRead p r words s
  | .eventRecordStore p sev type payload => Sys2Proof.Machine.execEventRecordStore p sev type payload s
  | .forwardedRecordRx port pos bytes => Sys2Proof.Machine.execForwardedRecordRx port pos bytes s
  | .forwardAckRx port pos => Sys2Proof.Machine.execForwardAckRx port pos s
  | .forwardResendTimeout port pos => Sys2Proof.Machine.execForwardResendTimeout port pos s
  | .dieCountsRx pcycles hours => Sys2Proof.Machine.execDieCountsRx pcycles hours s
  | .ophoursTick p => Sys2Proof.Machine.execOphoursTick p s
  | .countersJournalWrite => Sys2Proof.Machine.execCountersJournalWrite s
  | .persistCopy => Sys2Proof.Machine.execPersistCopy s
  | .recDieSet r v => Sys2Proof.Machine.execRecDieSet r v s
  | .exportSend ring => Sys2Proof.Machine.execExportSend ring s
  | .historyEccError ring pos addr => Sys2Proof.Machine.execHistoryEccError ring pos addr s
  | .norFailure sector => Sys2Proof.Machine.execNorFailure sector s
  | .hbmStackLoss stack => Sys2Proof.Machine.execHbmStackLoss stack s
  | .bistTestStart => Sys2Proof.Machine.execBistTestStart s
  | .wrapperOpComplete value => Sys2Proof.Machine.execWrapperOpComplete value s
  | .bistStepTimeout => Sys2Proof.Machine.execBistStepTimeout s
  | .bistResult => Sys2Proof.Machine.execBistResult s
  | .bistRequestSubmit p r v => Sys2Proof.Machine.execBistRequestSubmit p r v s
  | .bistStressTimeout p => Sys2Proof.Machine.execBistStressTimeout p s
  | .bistPlanWrite r block sub v => Sys2Proof.Machine.execBistPlanWrite r block sub v s
  | .fuseBurnSubmit p r v => Sys2Proof.Machine.execFuseBurnSubmit p r v s
  | .elementTestStart element => Sys2Proof.Machine.execElementTestStart element s
  | .elementTestComplete result repair => Sys2Proof.Machine.execElementTestComplete result repair s
  | .directorParityError p => Sys2Proof.Machine.execDirectorParityError p s
  | .sxColdReset torn => Sys2Proof.Machine.execSxColdReset torn s
  | .bootCoreStart => Sys2Proof.Machine.execBootCoreStart s
  | .bootExtensionDone => Sys2Proof.Machine.execBootExtensionDone s
  | .recoveryFetchRetry => Sys2Proof.Machine.execRecoveryFetchRetry s
  | .recoveryFetchDone image => Sys2Proof.Machine.execRecoveryFetchDone image s
  | .updateFetch r => Sys2Proof.Machine.execUpdateFetch r s
  | .updateFetchDone image => Sys2Proof.Machine.execUpdateFetchDone image s
  | .updateVerify r => Sys2Proof.Machine.execUpdateVerify r s
  | .updateCommit r => Sys2Proof.Machine.execUpdateCommit r s
  | .norSectorDone same => Sys2Proof.Machine.execNorSectorDone same s
  | .managementReset r => Sys2Proof.Machine.execManagementReset r s
  | .coldResetRequest r => Sys2Proof.Machine.execColdResetRequest r s
  | .secFloorWrite r v => Sys2Proof.Machine.execSecFloorWrite r v s
  | .mgtParamCommit r v => Sys2Proof.Machine.execMgtParamCommit r v s
  | .mgtDatagramRx src q => Sys2Proof.Machine.execMgtDatagramRx src q s
  | .mgtLinkChange port up => Sys2Proof.Machine.execMgtLinkChange port up s
  | .sxCalCommit r v => Sys2Proof.Machine.execSxCalCommit r v s
  | .sxCalDataWrite r v => Sys2Proof.Machine.execSxCalDataWrite r v s
  | .calRecordRx lane fields => Sys2Proof.Machine.execCalRecordRx lane fields s
  | .sxSensorSample therm volt power => Sys2Proof.Machine.execSxSensorSample therm volt power s
  | .engineRecovery engine => Sys2Proof.Machine.execEngineRecovery engine s
  | .mgtSramEccError addr => Sys2Proof.Machine.execMgtSramEccError addr s
  | .sliceBind r slice => Sys2Proof.Machine.execSliceBind r slice s
  | .sliceReset r slice => Sys2Proof.Machine.execSliceReset r slice s
  | .sliceResetUnbind r slice => Sys2Proof.Machine.execSliceResetUnbind r slice s
  | .sliceDrainTimeout slice => Sys2Proof.Machine.execSliceDrainTimeout slice s
  | .sliceResetComplete slice => Sys2Proof.Machine.execSliceResetComplete slice s
  | .squashAckLate => Sys2Proof.Machine.execSquashAckLate s
  | .protDriverPasidWrite r v => Sys2Proof.Machine.execProtDriverPasidWrite r v s
  | .dbgChallengeRead p r => Sys2Proof.Machine.execDbgChallengeRead p r s
  | .dbgAuthSubmit p r sig => Sys2Proof.Machine.execDbgAuthSubmit p r sig s
  | .dbgAuthEnd p r v => Sys2Proof.Machine.execDbgAuthEnd p r v s
  | .dbgAuthExpiry p => Sys2Proof.Machine.execDbgAuthExpiry p s
  | .dbgLockoutEnd p => Sys2Proof.Machine.execDbgLockoutEnd p s
  | .sliceTableParity slice => Sys2Proof.Machine.execSliceTableParity slice s
  | .matrixParityError p => Sys2Proof.Machine.execMatrixParityError p s
  | .dictRead p r idx sub word => Sys2Proof.Machine.execDictRead p r idx sub word s
  | .dictWrite p r idx sub word data => Sys2Proof.Machine.execDictWrite p r idx sub word data s
  | .dictWriteFence p r idx sub word data => Sys2Proof.Machine.execDictWriteFence p r idx sub word data s
  | .dictBlockRead p r idx sub word count offset => Sys2Proof.Machine.execDictBlockRead p r idx sub word count offset s
  | .dictFence p r => Sys2Proof.Machine.execDictFence p r s
  | .fenceReqWrite p r v => Sys2Proof.Machine.execFenceReqWrite p r v s
  | .partFenceComplete p => Sys2Proof.Machine.execPartFenceComplete p s
  | .stagingExpiry p => Sys2Proof.Machine.execStagingExpiry p s
  | .controlTimeout source reqId => Sys2Proof.Machine.execControlTimeout source reqId s
  | .registerWrite p r idx sub v => Sys2Proof.Machine.execRegisterWrite p r idx sub v s
  | .powerOnReset kind side pos recovery => Sys2Proof.Machine.execPowerOnReset kind side pos recovery s
  | .resetPin kind side pos recovery => Sys2Proof.Machine.execResetPin kind side pos recovery s
  | .refclkLoss clk => Sys2Proof.Machine.execRefclkLoss clk s
  | .railFault site reading => Sys2Proof.Machine.execRailFault site reading s
  | .laserPresenceChange input absent => Sys2Proof.Machine.execLaserPresenceChange input absent s
  | .blockClockEdge block evts slots => Sys2Proof.Machine.execBlockClockEdge block evts slots s
  | .cleanEpochHoldEnd => Sys2Proof.Machine.execCleanEpochHoldEnd s
  | .refclkReturn clk => Sys2Proof.Machine.execRefclkReturn clk s
  | .resetPinAssert porst => Sys2Proof.Machine.execResetPinAssert porst s
  | .vangegResetAssert => Sys2Proof.Machine.execVangegResetAssert s
  | .updateVerifyDone => Sys2Proof.Machine.execUpdateVerifyDone s
  | .calibrationCommitDone => Sys2Proof.Machine.execCalibrationCommitDone s
  | .recoveryPortFallback => Sys2Proof.Machine.execRecoveryPortFallback s
  | .relayRecordFree source reqId => Sys2Proof.Machine.execRelayRecordFree source reqId s

end Sys2Proof.Machine
end

