-- ==== Sys2Proof/Machine/Step.lean ====
section
/-! DEFINITION. One step of the machine: the command at the front of the queue, or, with none waiting, one tick of each
part's master counter (R58). -/

namespace Sys2Proof.Machine

/-- A tick at a Vangeg: its counter runs once the hub PLL has locked (R131). -/
def Vangeg.tick (v : Vangeg) : Vangeg := if v.bnd.inReset || !v.bnd.pllLocked then v else v.onC Common.tick

/-- A tick at a Shopostra that runs. -/
def Shopostra.tick (x : Shopostra) : Shopostra := if x.runs then x.onC Common.tick else x

/-- What a step does on an empty queue: the master counters count. -/
def State.tick (s : State) : State := { s with vg := s.vg.tick, sx := s.sx.tick }

/-- One step: the command at the front of the queue, on the state with the queue's rest. -/
def step (s : State) : Host.Outcome State Fault Refusal :=
  match s.pending with
  | [] => .next s.tick
  | c :: rest => exec c { s with pending := rest }

/-- The state with the command that a word spells put at the front of the queue; unchanged where it spells none. -/
def State.withFetchWord (s : State) (nbits w : Nat) : State :=
  match decodeTableWord nbits w with
  | some c => { s with pending := c :: s.pending }
  | none => s

end Sys2Proof.Machine
end

