-- ==== Sys2Proof/WellFormed.lean ====
section
/-! DEFINITION. The part that a command addresses, and the ranges of the operands that a sender keeps to. No meaning rests
on these ranges: a command outside them has the effect, or the want of one, that its meaning gives it. -/

namespace Sys2Proof

/-- The part that a command addresses (R1, R2): the sender names it, or only one part takes such a command. -/
def Instr.part : Instr → Part
  | .boardCycleStart p => p
  | .activeParentSwitch p _ => p
  | .mirrorApexTakeover => .shopostra
  | .levelRoleWrite _ _ => .shopostra
  | .liveAssign _ _ _ _ => .shopostra
  | .castleSubmit _ _ _ _ => .shopostra
  | .castleStateDelivery p _ _ _ _ => p
  | .castleAckDeadline _ => .shopostra
  | .castleInstant p _ _ => p
  | .tempoModeWrite p _ _ => p
  | .tempoModeSwitch p => p
  | .tempoEpochWrite p _ _ => p
  | .tempoIncrWrite p _ _ => p
  | .tempoStep p _ _ => p
  | .tempoCmpArm p _ _ _ => p
  | .tempoCmpFire p _ => p
  | .tempoSourceValid p _ => p
  | .tempoSourceLost p => p
  | .tempoLock p => p
  | .tempoUnlock p => p
  | .tempoSourceSelWrite _ _ => .shopostra
  | .ptpMessageRx _ _ => .shopostra
  | .ptpMessageTx _ _ => .shopostra
  | .esmcRx _ => .shopostra
  | .ppsEdge _ => .shopostra
  | .tempoTodWrite _ _ => .shopostra
  | .timeDownSend p _ => p
  | .timeDownRx p _ _ _ _ _ _ _ _ _ => p
  | .timeUpRx p _ _ _ _ => p
  | .timeSourceReturn p => p
  | .tempoDisagreement p => p
  | .linkAsymWrite p _ _ _ => p
  | .chordEvent _ _ _ => .vangeg
  | .chordRecordRx _ _ _ => .shopostra
  | .chordRecordExpire => .shopostra
  | .chordFit => .shopostra
  | .hrpRequest _ _ _ _ _ _ _ _ => .vangeg
  | .hmwWriteResponse _ _ => .vangeg
  | .hmwSquashAck => .vangeg
  | .errReport _ _ _ _ => .vangeg
  | .pwrReqRise _ => .vangeg
  | .islandSaveComplete _ _ => .vangeg
  | .pwrReqFall _ => .vangeg
  | .islandRestoreComplete _ => .vangeg
  | .pwrClockStopTimeout _ => .vangeg
  | .testIsoAckRise _ => .vangeg
  | .testIsoAckTimeout _ => .vangeg
  | .testIsoAckFall _ => .vangeg
  | .vangegColdReset _ => .vangeg
  | .hubPllLock => .vangeg
  | .warmResetRequest => .vangeg
  | .warmResetSaveDone => .vangeg
  | .warmResetRelease => .vangeg
  | .warmResetRestoreDone => .vangeg
  | .fuseProgramDone p _ => p
  | .i3cCcc _ => .vangeg
  | .i3cPrivateWrite _ => .vangeg
  | .i3cPrivateRead => .vangeg
  | .pawnConfigWrite _ _ _ _ => .vangeg
  | .pawnValueWrite _ _ _ _ => .vangeg
  | .pawnReloadWrite _ _ _ _ => .vangeg
  | .pawnCellOwnerWrite _ _ _ => .vangeg
  | .pawnOverflow _ _ _ => .vangeg
  | .sampleRecordReady _ _ _ _ _ => .vangeg
  | .sampleCaptureTimeout _ _ => .vangeg
  | .pawnCmdSubmit _ _ => .vangeg
  | .pawnCmdStart => .vangeg
  | .pawnCmdStop => .vangeg
  | .pawnCmdRestart => .vangeg
  | .pawnCmdClearOvf => .vangeg
  | .pawnLatchPeriodWrite _ _ => .vangeg
  | .latchPeriodChange => .vangeg
  | .latchTick => .vangeg
  | .bwWindowClose _ => .vangeg
  | .pawnBwSrcWrite _ _ _ => .vangeg
  | .dumpDestEnable _ _ _ => .vangeg
  | .ringRptrWrite _ _ _ => .vangeg
  | .ringWritesAnswered _ => .vangeg
  | .mirrorWriteAnswered _ => .vangeg
  | .counterParityError _ => .vangeg
  | .saveStoreEccError _ => .vangeg
  | .imageBufferParityError _ => .vangeg
  | .traceRecord _ _ _ _ _ => .vangeg
  | .traceFrontOverflowExit _ => .vangeg
  | .tracePacketCommit _ => .vangeg
  | .trcCmpWrite _ _ _ _ => .vangeg
  | .trcCmdSubmit _ _ => .vangeg
  | .trcStartEdge => .vangeg
  | .trcStopEdge => .vangeg
  | .trcSrcConfigWrite _ _ _ _ => .vangeg
  | .trcBufRead _ _ => .vangeg
  | .traceFeParityError _ => .vangeg
  | .traceBufferEccError _ _ => .vangeg
  | .slotSchedule p _ _ _ => p
  | .guardWindow p _ _ _ => p
  | .controlFrameRx p _ _ _ _ => p
  | .dataFrameRx p _ _ _ _ => p
  | .reorderGapTimeout p _ _ => p
  | .creditWordRx p _ _ _ => p
  | .creditSyncRx p _ _ _ _ => p
  | .laneWordRx p _ _ _ => p
  | .laneWordMissing p _ => p
  | .laneDegrade p _ _ _ _ _ _ => p
  | .laneRestore p _ _ => p
  | .portEnableWrite p _ _ _ => p
  | .trainingLock p _ _ => p
  | .identRx p _ _ _ => p
  | .identPeriodicSend p _ => p
  | .portTimeComplete p _ _ => p
  | .trainingTimeout p _ => p
  | .portFailedExpiry p _ => p
  | .portDown p _ => p
  | .portCreditsWrite p _ _ _ => p
  | .laserInputChange _ _ => .shopostra
  | .engineFault _ => .shopostra
  | .unitReady p _ _ _ _ _ _ _ _ => p
  | .unitRetry p => p
  | .isoBudgetAbort => .vangeg
  | .budAmountWrite p _ _ _ _ => p
  | .budShapeWrite p _ _ _ _ => p
  | .gclSwitchSubmit p _ _ _ => p
  | .gclSwitchCancel p _ _ => p
  | .gclSwitch p _ => p
  | .budgetParityError p _ => p
  | .gclParityError p _ => p
  | .strmDescDataWrite _ _ => .shopostra
  | .sessionOpen _ _ => .shopostra
  | .sessionHeadRx p _ _ => p
  | .sessionEntryRx p _ _ _ => p
  | .sessionTagCopyRx _ _ => .shopostra
  | .sessionReceiptRx _ _ => .shopostra
  | .prepareResendCheck _ => .shopostra
  | .sessionAckRx _ _ _ _ _ _ => .shopostra
  | .sessionAckDeadline _ => .shopostra
  | .sessionDecide _ => .shopostra
  | .sessionCommitRx p _ => p
  | .sessionCancelRx p _ _ => p
  | .sessionQueryRx _ _ => .shopostra
  | .sessionActivate p _ => p
  | .sessionOrphanTimeout p _ => p
  | .sessionClose _ _ => .shopostra
  | .sessionCloseRx p _ _ => p
  | .sessionStop p _ => p
  | .endRecordRx _ _ _ => .shopostra
  | .drainTimeout _ _ => .shopostra
  | .entryDrained _ _ => .shopostra
  | .drainDoneRx _ _ _ _ => .shopostra
  | .sessionRecordExpire p _ => p
  | .redDescDataWrite _ _ => .shopostra
  | .redDescCommit _ _ => .shopostra
  | .intervalDeadline _ _ => .shopostra
  | .logMirrorRx _ _ _ _ _ _ => .shopostra
  | .logRecordExpire => .shopostra
  | .redReadoutRead _ => .shopostra
  | .redQuantileRead _ _ => .shopostra
  | .redReplaySubmit _ _ _ => .shopostra
  | .replayRecordsDone _ _ => .shopostra
  | .reductionCellFault _ _ => .shopostra
  | .logCrcFailure _ _ _ => .shopostra
  | .tangentRunStart => .shopostra
  | .tangentPhaseStart _ => .shopostra
  | .slotRunComplete _ => .shopostra
  | .tileFault _ _ => .shopostra
  | .programLoad _ => .shopostra
  | .programUnload _ => .shopostra
  | .tanLoadDataWrite _ _ => .shopostra
  | .tanSlotSeedWrite _ _ _ => .shopostra
  | .sigTapBeat _ _ _ => .vangeg
  | .sigStepEnd _ _ _ _ => .vangeg
  | .roundInputWaitTimeout _ _ => .vangeg
  | .sigGroupWrite _ _ _ _ => .vangeg
  | .roundInputRx _ _ _ _ => .shopostra
  | .roundDeadline _ _ _ _ => .shopostra
  | .verdictRecordRx p _ _ => p
  | .sigCleanJobWrite _ _ => .vangeg
  | .sigResume _ _ => .shopostra
  | .auditReplayEnd _ _ => .vangeg
  | .auditDeadline _ => .vangeg
  | .minorityQueryRx _ _ _ _ => .vangeg
  | .minorityAnswerRx _ _ _ _ => .shopostra
  | .minorityDeadline _ _ => .shopostra
  | .taintMapCompute _ _ _ => .shopostra
  | .taintNoticeRx _ _ => .vangeg
  | .repeatComplete _ _ => .vangeg
  | .repeatDeadline _ => .vangeg
  | .classEntryExpire => .shopostra
  | .healthSample _ _ => .vangeg
  | .errorReportRx _ => .shopostra
  | .sigAccumulatorParity _ _ => .vangeg
  | .roundEccError _ _ _ _ _ => .shopostra
  | .heartbeatRx p _ _ _ => p
  | .parentRevokeRx _ _ => .shopostra
  | .leaseExpiry p => p
  | .deadDeclaration _ => .shopostra
  | .partnerDeadWaitEnd => .shopostra
  | .liveFenceCmd _ _ => .shopostra
  | .fenceCommandInstant _ _ => .shopostra
  | .livenessNoticeRx p _ _ => p
  | .controlResponseRx p _ _ => p
  | .liveGambit _ _ => .shopostra
  | .gambitRun _ _ _ _ _ _ => .shopostra
  | .rehearsalRecordRx p _ _ => p
  | .leaseParityError => .vangeg
  | .livenessStateParity _ => .shopostra
  | .flagSnapshotSubmit _ _ => .shopostra
  | .flagStopSubmit _ _ => .shopostra
  | .flagResumeSubmit _ _ => .shopostra
  | .flagCancelSubmit _ _ => .shopostra
  | .flagSymbolSend _ => .shopostra
  | .flagWordRx p _ _ _ _ _ _ _ => p
  | .triggerCopyRx _ _ _ => .shopostra
  | .snapshotAction p _ => p
  | .stopAction p _ => p
  | .resumeAction p _ => p
  | .snapCountRx p _ _ => p
  | .captureTimeout p _ _ => p
  | .savedImageRx _ _ _ => .shopostra
  | .histSeek _ _ => .shopostra
  | .histRead _ _ => .shopostra
  | .recRead p _ _ => p
  | .eventRecordStore p _ _ _ => p
  | .forwardedRecordRx _ _ _ => .shopostra
  | .forwardAckRx _ _ => .vangeg
  | .forwardResendTimeout _ _ => .vangeg
  | .dieCountsRx _ _ => .vangeg
  | .ophoursTick p => p
  | .countersJournalWrite => .shopostra
  | .persistCopy => .shopostra
  | .recDieSet _ _ => .shopostra
  | .exportSend _ => .shopostra
  | .historyEccError _ _ _ => .shopostra
  | .norFailure _ => .shopostra
  | .hbmStackLoss _ => .shopostra
  | .bistTestStart => .vangeg
  | .wrapperOpComplete _ => .vangeg
  | .bistStepTimeout => .vangeg
  | .bistResult => .vangeg
  | .bistRequestSubmit p _ _ => p
  | .bistStressTimeout p => p
  | .bistPlanWrite _ _ _ _ => .vangeg
  | .fuseBurnSubmit p _ _ => p
  | .elementTestStart _ => .shopostra
  | .elementTestComplete _ _ => .shopostra
  | .directorParityError p => p
  | .sxColdReset _ => .shopostra
  | .bootCoreStart => .shopostra
  | .bootExtensionDone => .shopostra
  | .recoveryFetchRetry => .shopostra
  | .recoveryFetchDone _ => .shopostra
  | .updateFetch _ => .shopostra
  | .updateFetchDone _ => .shopostra
  | .updateVerify _ => .shopostra
  | .updateCommit _ => .shopostra
  | .norSectorDone _ => .shopostra
  | .managementReset _ => .shopostra
  | .coldResetRequest _ => .shopostra
  | .secFloorWrite _ _ => .shopostra
  | .mgtParamCommit _ _ => .shopostra
  | .mgtDatagramRx _ _ => .shopostra
  | .mgtLinkChange _ _ => .shopostra
  | .sxCalCommit _ _ => .shopostra
  | .sxCalDataWrite _ _ => .shopostra
  | .calRecordRx _ _ => .vangeg
  | .sxSensorSample _ _ _ => .shopostra
  | .engineRecovery _ => .shopostra
  | .mgtSramEccError _ => .shopostra
  | .sliceBind _ _ => .vangeg
  | .sliceReset _ _ => .vangeg
  | .sliceResetUnbind _ _ => .vangeg
  | .sliceDrainTimeout _ => .vangeg
  | .sliceResetComplete _ => .vangeg
  | .squashAckLate => .vangeg
  | .protDriverPasidWrite _ _ => .vangeg
  | .dbgChallengeRead p _ => p
  | .dbgAuthSubmit p _ _ => p
  | .dbgAuthEnd p _ _ => p
  | .dbgAuthExpiry p => p
  | .dbgLockoutEnd p => p
  | .sliceTableParity _ => .vangeg
  | .matrixParityError p => p
  | .dictRead p _ _ _ _ => p
  | .dictWrite p _ _ _ _ _ => p
  | .dictWriteFence p _ _ _ _ _ => p
  | .dictBlockRead p _ _ _ _ _ _ => p
  | .dictFence p _ => p
  | .fenceReqWrite p _ _ => p
  | .partFenceComplete p => p
  | .stagingExpiry p => p
  | .controlTimeout _ _ => .shopostra
  | .registerWrite p _ _ _ _ => p
  | .powerOnReset _ _ _ _ => .shopostra
  | .resetPin _ _ _ _ => .shopostra
  | .refclkLoss _ => .shopostra
  | .railFault _ _ => .shopostra
  | .laserPresenceChange _ _ => .shopostra
  | .blockClockEdge _ _ _ => .vangeg
  | .cleanEpochHoldEnd => .vangeg
  | .refclkReturn _ => .shopostra
  | .resetPinAssert _ => .shopostra
  | .vangegResetAssert => .vangeg
  | .updateVerifyDone => .shopostra
  | .calibrationCommitDone => .shopostra
  | .recoveryPortFallback => .shopostra
  | .relayRecordFree _ _ => .shopostra

/-- A number below its bound. -/
def below (n v : Nat) : Bool := decide (v < n)

/-- A port that the part may have: 48 at a Shopostra, at most 2 at a Vangeg (R220, R252). -/
def portOk (p : Part) (port : Nat) : Bool :=
  match p with
  | .vangeg => below 2 port
  | .shopostra => below 48 port

/-- A list of bytes. -/
def bytesOk (l : List Nat) : Bool := l.all (below 256)

/-- The fields of a requester within their widths: a 3-bit level, a 20-bit PASID, 32-bit tag and source. -/
def Req.ok (r : Req) : Bool := below 8 r.priv && below (2 ^ 20) r.pasid && below (2 ^ 32) r.tag && below (2 ^ 32) r.source

/-- The header fields of a frame within their widths (R231): class and queue in 3 bits each. -/
def Frame.ok (f : Frame) : Bool := below 8 f.cls && below 8 f.queue && below (2 ^ 32) f.source

/-- The operands of a command within their ranges. -/
def Instr.wf : Instr → Bool
  | .boardCycleStart _ => true
  | .activeParentSwitch _ _ => true
  | .mirrorApexTakeover => true
  | .levelRoleWrite r v => r.ok && below (2 ^ 128) v
  | .liveAssign r v _ port => r.ok && below (2 ^ 128) v && portOk .shopostra port
  | .castleSubmit r v _ _ => r.ok && below (2 ^ 128) v
  | .castleStateDelivery _ _ _ _ _ => true
  | .castleAckDeadline _ => true
  | .castleInstant _ _ port => below 49 port
  | .tempoModeWrite _ r v => r.ok && below (2 ^ 128) v
  | .tempoModeSwitch _ => true
  | .tempoEpochWrite _ r v => r.ok && below (2 ^ 128) v
  | .tempoIncrWrite _ r v => r.ok && below (2 ^ 128) v
  | .tempoStep _ r v => r.ok && below (2 ^ 128) v
  | .tempoCmpArm _ r _ v => r.ok && below (2 ^ 128) v
  | .tempoCmpFire _ _ => true
  | .tempoSourceValid _ lane => below 96 lane
  | .tempoSourceLost _ => true
  | .tempoLock _ => true
  | .tempoUnlock _ => true
  | .tempoSourceSelWrite r v => r.ok && below (2 ^ 128) v
  | .ptpMessageRx port _ => portOk .shopostra port
  | .ptpMessageTx port _ => portOk .shopostra port
  | .esmcRx _ => true
  | .ppsEdge _ => true
  | .tempoTodWrite r v => r.ok && below (2 ^ 128) v
  | .timeDownSend _ lane => below 96 lane
  | .timeDownRx _ lane _ _ _ _ _ _ _ _ => below 96 lane
  | .timeUpRx _ lane _ _ _ => below 96 lane
  | .timeSourceReturn _ => true
  | .tempoDisagreement _ => true
  | .linkAsymWrite _ r sub v => r.ok && below 256 sub && below (2 ^ 128) v
  | .chordEvent _ _ _ => true
  | .chordRecordRx _ _ msg => bytesOk msg
  | .chordRecordExpire => true
  | .chordFit => true
  | .hrpRequest op _ idx sub _ data priv pasid => below 4 op && below 65536 idx && below 256 sub && below (2 ^ 64) data && below 8 priv && below (2 ^ 20) pasid
  | .hmwWriteResponse id resp => below 64 id && below 4 resp
  | .hmwSquashAck => true
  | .errReport _ _ _ _ => true
  | .pwrReqRise island => below 64 island
  | .islandSaveComplete island _ => below 64 island
  | .pwrReqFall island => below 64 island
  | .islandRestoreComplete island => below 64 island
  | .pwrClockStopTimeout island => below 64 island
  | .testIsoAckRise block => below 64 block
  | .testIsoAckTimeout block => below 64 block
  | .testIsoAckFall block => below 64 block
  | .vangegColdReset _ => true
  | .hubPllLock => true
  | .warmResetRequest => true
  | .warmResetSaveDone => true
  | .warmResetRelease => true
  | .warmResetRestoreDone => true
  | .fuseProgramDone _ _ => true
  | .i3cCcc _ => true
  | .i3cPrivateWrite bytes => bytesOk bytes
  | .i3cPrivateRead => true
  | .pawnConfigWrite r cell k v => r.ok && below 256 cell && below 8 k && below (2 ^ 128) v
  | .pawnValueWrite r cell k v => r.ok && below 256 cell && below 8 k && below (2 ^ 128) v
  | .pawnReloadWrite r cell k v => r.ok && below 256 cell && below 8 k && below (2 ^ 128) v
  | .pawnCellOwnerWrite r cell v => r.ok && below 256 cell && below (2 ^ 128) v
  | .pawnOverflow cell k _ => below 256 cell && below 8 k
  | .sampleRecordReady block _ _ _ _ => below 64 block
  | .sampleCaptureTimeout block _ => below 64 block
  | .pawnCmdSubmit r v => r.ok && below (2 ^ 128) v
  | .pawnCmdStart => true
  | .pawnCmdStop => true
  | .pawnCmdRestart => true
  | .pawnCmdClearOvf => true
  | .pawnLatchPeriodWrite r v => r.ok && below (2 ^ 128) v
  | .latchPeriodChange => true
  | .latchTick => true
  | .bwWindowClose window => below 16 window
  | .pawnBwSrcWrite r window v => r.ok && below 16 window && below (2 ^ 128) v
  | .dumpDestEnable r _ v => r.ok && below (2 ^ 128) v
  | .ringRptrWrite r ring v => r.ok && below 6 ring && below (2 ^ 128) v
  | .ringWritesAnswered ring => below 6 ring
  | .mirrorWriteAnswered ring => below 6 ring
  | .counterParityError cell => below 256 cell
  | .saveStoreEccError island => below 64 island
  | .imageBufferParityError _ => true
  | .traceRecord src _ _ _ _ => below 16 src
  | .traceFrontOverflowExit src => below 16 src
  | .tracePacketCommit src => below 16 src
  | .trcCmpWrite r cmp sub v => r.ok && below 8 cmp && below 256 sub && below (2 ^ 128) v
  | .trcCmdSubmit r v => r.ok && below (2 ^ 128) v
  | .trcStartEdge => true
  | .trcStopEdge => true
  | .trcSrcConfigWrite r src sub v => r.ok && below 16 src && below 256 sub && below (2 ^ 128) v
  | .trcBufRead r src => r.ok && below 16 src
  | .traceFeParityError src => below 16 src
  | .traceBufferEccError src _ => below 16 src
  | .slotSchedule p port lane _ => portOk p port && below 2 lane
  | .guardWindow p port lane _ => portOk p port && below 2 lane
  | .controlFrameRx p port lane f _ => portOk p port && below 2 lane && f.ok
  | .dataFrameRx p port lane f bytes => portOk p port && below 2 lane && f.ok && bytesOk bytes
  | .reorderGapTimeout p port queue => portOk p port && below 8 queue
  | .creditWordRx p port queue _ => portOk p port && below 8 queue
  | .creditSyncRx p port lane queue _ => portOk p port && below 2 lane && below 8 queue
  | .laneWordRx p port _ _ => portOk p port
  | .laneWordMissing p port => portOk p port
  | .laneDegrade p port lane _ _ _ _ => portOk p port && below 2 lane
  | .laneRestore p port lane => portOk p port && below 2 lane
  | .portEnableWrite p r port v => r.ok && portOk p port && below (2 ^ 128) v
  | .trainingLock p port lane => portOk p port && below 2 lane
  | .identRx p port lane _ => portOk p port && below 2 lane
  | .identPeriodicSend p port => portOk p port
  | .portTimeComplete p port _ => portOk p port
  | .trainingTimeout p port => portOk p port
  | .portFailedExpiry p port => portOk p port
  | .portDown p port => portOk p port
  | .portCreditsWrite _ r queue v => r.ok && below 8 queue && below (2 ^ 128) v
  | .laserInputChange input _ => below 2 input
  | .engineFault engine => below 8 engine
  | .unitReady p _ _ _ port _ _ _ _ => portOk p port
  | .unitRetry _ => true
  | .isoBudgetAbort => true
  | .budAmountWrite _ r idx sub _ => r.ok && below 65536 idx && below 256 sub
  | .budShapeWrite p r port sub v => r.ok && portOk p port && below 256 sub && below (2 ^ 128) v
  | .gclSwitchSubmit p r port v => r.ok && portOk p port && below (2 ^ 128) v
  | .gclSwitchCancel p r port => r.ok && portOk p port
  | .gclSwitch p port => portOk p port
  | .budgetParityError _ _ => true
  | .gclParityError p port => portOk p port
  | .strmDescDataWrite r v => r.ok && below (2 ^ 128) v
  | .sessionOpen r v => r.ok && below (2 ^ 128) v
  | .sessionHeadRx _ bytes _ => bytesOk bytes
  | .sessionEntryRx _ _ _ bytes => bytesOk bytes
  | .sessionTagCopyRx _ _ => true
  | .sessionReceiptRx port _ => portOk .shopostra port
  | .prepareResendCheck _ => true
  | .sessionAckRx port _ _ _ _ _ => portOk .shopostra port
  | .sessionAckDeadline _ => true
  | .sessionDecide _ => true
  | .sessionCommitRx _ _ => true
  | .sessionCancelRx _ _ _ => true
  | .sessionQueryRx port _ => portOk .shopostra port
  | .sessionActivate _ _ => true
  | .sessionOrphanTimeout _ _ => true
  | .sessionClose r v => r.ok && below (2 ^ 128) v
  | .sessionCloseRx _ _ _ => true
  | .sessionStop _ _ => true
  | .endRecordRx port _ _ => portOk .shopostra port
  | .drainTimeout _ port => portOk .shopostra port
  | .entryDrained _ _ => true
  | .drainDoneRx port _ _ _ => portOk .shopostra port
  | .sessionRecordExpire _ _ => true
  | .redDescDataWrite r v => r.ok && below (2 ^ 128) v
  | .redDescCommit r v => r.ok && below (2 ^ 128) v
  | .intervalDeadline _ _ => true
  | .logMirrorRx stream _ _ _ _ message => below 64 stream && bytesOk message
  | .logRecordExpire => true
  | .redReadoutRead r => r.ok
  | .redQuantileRead r sub => r.ok && below 256 sub
  | .redReplaySubmit r v _ => r.ok && below (2 ^ 128) v
  | .replayRecordsDone _ _ => true
  | .reductionCellFault _ _ => true
  | .logCrcFailure stream _ _ => below 64 stream
  | .tangentRunStart => true
  | .tangentPhaseStart _ => true
  | .slotRunComplete _ => true
  | .tileFault tile _ => below 48 tile
  | .programLoad r => r.ok
  | .programUnload r => r.ok
  | .tanLoadDataWrite r v => r.ok && below (2 ^ 128) v
  | .tanSlotSeedWrite r _ v => r.ok && below (2 ^ 128) v
  | .sigTapBeat _ _ bytes => bytesOk bytes
  | .sigStepEnd _ _ _ bytes => bytesOk bytes
  | .roundInputWaitTimeout _ _ => true
  | .sigGroupWrite r _ sub v => r.ok && below 256 sub && below (2 ^ 128) v
  | .roundInputRx _ port _ msg => portOk .shopostra port && bytesOk msg
  | .roundDeadline _ _ _ _ => true
  | .verdictRecordRx _ record _ => bytesOk record
  | .sigCleanJobWrite r v => r.ok && below (2 ^ 128) v
  | .sigResume r v => r.ok && below (2 ^ 128) v
  | .auditReplayEnd _ bytes => bytesOk bytes
  | .auditDeadline _ => true
  | .minorityQueryRx _ _ _ _ => true
  | .minorityAnswerRx _ _ _ _ => true
  | .minorityDeadline _ _ => true
  | .taintMapCompute _ _ _ => true
  | .taintNoticeRx _ _ => true
  | .repeatComplete _ bytes => bytesOk bytes
  | .repeatDeadline _ => true
  | .classEntryExpire => true
  | .healthSample _ _ => true
  | .errorReportRx bytes => bytesOk bytes
  | .sigAccumulatorParity _ _ => true
  | .roundEccError _ _ _ _ _ => true
  | .heartbeatRx p port _ bytes => portOk p port && bytesOk bytes
  | .parentRevokeRx port bytes => portOk .shopostra port && bytesOk bytes
  | .leaseExpiry _ => true
  | .deadDeclaration port => portOk .shopostra port
  | .partnerDeadWaitEnd => true
  | .liveFenceCmd r v => r.ok && below (2 ^ 128) v
  | .fenceCommandInstant _ _ => true
  | .livenessNoticeRx _ _ bytes => bytesOk bytes
  | .controlResponseRx p port _ => portOk p port
  | .liveGambit r v => r.ok && below (2 ^ 128) v
  | .gambitRun _ _ _ _ _ _ => true
  | .rehearsalRecordRx _ _ bytes => bytesOk bytes
  | .leaseParityError => true
  | .livenessStateParity port => portOk .shopostra port
  | .flagSnapshotSubmit r v => r.ok && below (2 ^ 128) v
  | .flagStopSubmit r v => r.ok && below (2 ^ 128) v
  | .flagResumeSubmit r v => r.ok && below (2 ^ 128) v
  | .flagCancelSubmit r v => r.ok && below (2 ^ 128) v
  | .flagSymbolSend _ => true
  | .flagWordRx p port lane _ _ _ _ _ => portOk p port && below 2 lane
  | .triggerCopyRx _ _ _ => true
  | .snapshotAction _ _ => true
  | .stopAction _ _ => true
  | .resumeAction _ _ => true
  | .snapCountRx p port bytes => portOk p port && bytesOk bytes
  | .captureTimeout p port _ => portOk p port
  | .savedImageRx _ _ _ => true
  | .histSeek r v => r.ok && below (2 ^ 128) v
  | .histRead r _ => r.ok
  | .recRead _ r _ => r.ok
  | .eventRecordStore _ _ _ payload => bytesOk payload
  | .forwardedRecordRx port _ bytes => portOk .shopostra port && bytesOk bytes
  | .forwardAckRx _ _ => true
  | .forwardResendTimeout _ _ => true
  | .dieCountsRx _ _ => true
  | .ophoursTick _ => true
  | .countersJournalWrite => true
  | .persistCopy => true
  | .recDieSet r v => r.ok && below (2 ^ 128) v
  | .exportSend _ => true
  | .historyEccError _ _ _ => true
  | .norFailure _ => true
  | .hbmStackLoss stack => below 2 stack
  | .bistTestStart => true
  | .wrapperOpComplete _ => true
  | .bistStepTimeout => true
  | .bistResult => true
  | .bistRequestSubmit _ r v => r.ok && below (2 ^ 128) v
  | .bistStressTimeout _ => true
  | .bistPlanWrite r block sub v => r.ok && below 64 block && below 256 sub && below (2 ^ 128) v
  | .fuseBurnSubmit _ r v => r.ok && below (2 ^ 128) v
  | .elementTestStart _ => true
  | .elementTestComplete _ _ => true
  | .directorParityError _ => true
  | .sxColdReset _ => true
  | .bootCoreStart => true
  | .bootExtensionDone => true
  | .recoveryFetchRetry => true
  | .recoveryFetchDone _ => true
  | .updateFetch r => r.ok
  | .updateFetchDone _ => true
  | .updateVerify r => r.ok
  | .updateCommit r => r.ok
  | .norSectorDone _ => true
  | .managementReset r => r.ok
  | .coldResetRequest r => r.ok
  | .secFloorWrite r v => r.ok && below (2 ^ 128) v
  | .mgtParamCommit r v => r.ok && below (2 ^ 128) v
  | .mgtDatagramRx _ _ => true
  | .mgtLinkChange port _ => below 2 port
  | .sxCalCommit r v => r.ok && below (2 ^ 128) v
  | .sxCalDataWrite r v => r.ok && below (2 ^ 128) v
  | .calRecordRx lane _ => below 96 lane
  | .sxSensorSample _ _ _ => true
  | .engineRecovery engine => below 8 engine
  | .mgtSramEccError _ => true
  | .sliceBind r slice => r.ok && below 64 slice
  | .sliceReset r slice => r.ok && below 64 slice
  | .sliceResetUnbind r slice => r.ok && below 64 slice
  | .sliceDrainTimeout slice => below 64 slice
  | .sliceResetComplete slice => below 64 slice
  | .squashAckLate => true
  | .protDriverPasidWrite r v => r.ok && below (2 ^ 128) v
  | .dbgChallengeRead _ r => r.ok
  | .dbgAuthSubmit _ r _ => r.ok
  | .dbgAuthEnd _ r v => r.ok && below (2 ^ 128) v
  | .dbgAuthExpiry _ => true
  | .dbgLockoutEnd _ => true
  | .sliceTableParity slice => below 64 slice
  | .matrixParityError _ => true
  | .dictRead _ r idx sub _ => r.ok && below 65536 idx && below 256 sub
  | .dictWrite _ r idx sub _ _ => r.ok && below 65536 idx && below 256 sub
  | .dictWriteFence _ r idx sub _ _ => r.ok && below 65536 idx && below 256 sub
  | .dictBlockRead _ r idx sub _ _ _ => r.ok && below 65536 idx && below 256 sub
  | .dictFence _ r => r.ok
  | .fenceReqWrite _ r v => r.ok && below (2 ^ 128) v
  | .partFenceComplete _ => true
  | .stagingExpiry _ => true
  | .controlTimeout _ _ => true
  | .registerWrite _ r idx sub _ => r.ok && below 65536 idx && below 256 sub
  | .powerOnReset _ _ _ _ => true
  | .resetPin _ _ _ _ => true
  | .refclkLoss clk => below 2 clk
  | .railFault _ _ => true
  | .laserPresenceChange input _ => below 2 input
  | .blockClockEdge block _ _ => below 64 block
  | .cleanEpochHoldEnd => true
  | .refclkReturn clk => below 2 clk
  | .resetPinAssert _ => true
  | .vangegResetAssert => true
  | .updateVerifyDone => true
  | .calibrationCommitDone => true
  | .recoveryPortFallback => true
  | .relayRecordFree _ _ => true

end Sys2Proof
end

