-- ==== Sys2Proof/Safety.lean ====
section
/-! DEFINITION. The terms in which statements speak of a run: when a part runs, when an access is admitted, what the
bookkeeping of messages and records may change, and the invariant of the outputs. -/

namespace Sys2Proof.Machine

variable {kd : Part}

/-- The state a command leaves, where it leaves one. -/
def Res.state? : Res → Option State
  | .next t => some t
  | _ => none

/-- The command leaves a next state that satisfies `P`. -/
def Gives (c : Instr) (s : State) (P : State → Prop) : Prop := ∃ t : State, exec c s = .next t ∧ P t

/-- Objects that count messages, records, reports, units and losses: what any effect that tells of itself may change. -/
def accounting : List Nat := [0x1032, 0x1310, 0x1405, 0x2910, 0x2C00, 0x3604, 0x3705, 0x3707, 0x3803, 0x6010]

/-- The output pins that follow the state at the end of every command. -/
def Pin.driven : Pin → Bool
  | .fenceOut => true | .hmwSqValid => true | .errReady => true | .thermtripN => true | .lasEn _ => true
  | .clkOut => true
  | _ => false

/-- What offering units changes of the budget enforcer: the amounts used, and the units that wait, run or end. -/
def Budget.Books (b d : Budget) : Prop :=
  ∃ used consumed waiting running lost issuing queues stalled,
    d = { b with used := used, consumed := consumed, waiting := waiting, running := running, lostUnits := lost,
                 issuing := issuing, queues := queues, stalled := stalled }

/-- What answering changes of the dictionary's transactions: the serial numbers, the stored I3C response, and the stagings
and relayed requests that end. -/
def Ctl.Books (b d : Ctl) : Prop :=
  ∃ serial i3c since stagings relayed,
    d = { b with serial := serial, i3c := i3c, i3cSince := since, stagings := stagings, relayed := relayed }

/-- `d` is `c` after messages, records or reports: what was sent earlier stands, and only the counts, the logs, the
books of the dictionary and the budget enforcer, the free values drawn and the driven pins may differ. -/
structure Quiet (c d : Common kd) : Prop where
  reg : ∀ idx sub, idx ∉ accounting → d.reg idx sub = c.reg idx sub
  now : d.now = c.now
  out : ∃ l, d.out = l ++ c.out
  pin : ∀ p, p.driven = false → d.pin p = c.pin p
  tempo : d.tempo = c.tempo
  dbg : d.dbg = c.dbg
  ports : d.ports = c.ports
  bindings : d.bindings = c.bindings
  bist : d.bist = c.bist
  strm : d.strm = c.strm
  live : d.live = c.live
  flag : d.flag = c.flag
  bud : c.bud.Books d.bud
  ctl : c.ctl.Books d.ctl

/-- `w` is `v` after the bookkeeping of `Quiet`, and of host writes, rings and the images they carry. -/
structure QuietV (v w : Vangeg) : Prop where
  c : Quiet v.c w.c
  slices : w.slices = v.slices
  trc : w.trc = v.trc
  sig : w.sig = v.sig
  bnd : ∃ ws wq, w.bnd = { v.bnd with writes := ws, writeQueue := wq }
  pawn : ∃ agg rings, w.pawn = { v.pawn with agg := agg, rings := rings }

/-- `y` is `x` after the bookkeeping of `Quiet`. -/
structure QuietX (x y : Shopostra) : Prop where
  c : Quiet x.c y.c
  fleet : y.fleet = x.fleet
  mgt : y.mgt = x.mgt
  pkg : y.pkg = x.pkg
  hist : y.hist = x.hist
  table : y.table = x.table
  red : y.red = x.red
  tan : y.tan = x.tan
  ver : y.ver = x.ver

/-- `t` is `s` after bookkeeping alone, the queue included. -/
structure State.Near (s t : State) : Prop where
  vg : QuietV s.vg t.vg
  sx : QuietX s.sx t.sx
  pending : t.pending = s.pending

/-- A message has left the part, or stands in a unit that waits for its budget. -/
def Common.carries (c : Common kd) (m : Msg) : Prop := m ∈ c.out ∨ ∃ u ∈ c.bud.waiting, m ∈ u.msgs

/-- The path of a request takes its response: a return port is ACTIVE or DEGRADED (R590). -/
def Common.reaches (c : Common kd) (r : Req) : Bool :=
  match r.path with
  | .upper p => c.portUp p
  | .child p => c.portUp p
  | _ => true

/-- The request was answered: a response with its tag, this abort code and this data has left on its path. -/
def Common.answered (c : Common kd) (r : Req) (a : Option Abort) (data : Nat) : Prop :=
  ∃ q : CtlResponse, Msg.response r.path q ∈ c.out ∧ q.reqId = r.tag ∧ q.abort = abortCode a ∧ q.data = data

/-- A change of the common units of one part. -/
def State.on (s : State) (p : Part) (f : Common p → Common p) : State :=
  match p, f with
  | .vangeg, f => { s with vg := s.vg.onC f }
  | .shopostra, f => { s with sx := s.sx.onC f }

/-- A change of the Vangeg. -/
def State.onVg (s : State) (f : Vangeg → Vangeg) : State := { s with vg := f s.vg }

/-- A change of the Shopostra. -/
def State.onSx (s : State) (f : Shopostra → Shopostra) : State := { s with sx := f s.sx }

/-- A value within the type of its object (R577). -/
def Common.fits (c : Common kd) (idx sub v : Nat) : Bool :=
  match findRow idx sub with
  | some o => c.valueFits o.ty v
  | none => false

/-- The part runs and its dictionary admits the write of a value: the object exists, path, level, matrix and slice admit
the requester, the object may be written, the value is within its type, and the requester's slice is not under reset
(R553 to R559, R570, R577, R579; the order of Table 19-7). What the object's own rule says comes after. -/
def State.admits (s : State) (p : Part) (r : Req) (idx sub v : Nat) : Bool :=
  match p with
  | .vangeg => !s.vg.bnd.inReset && decide (s.vg.c.gate r idx sub true (s.vg.sliceAdmits r idx sub) = none) &&
      s.vg.c.fits idx sub v && !s.vg.requesterResetting r
  | .shopostra => s.sx.runs && decide (s.sx.c.gate r idx sub true true = none) && s.sx.c.fits idx sub v

/-- The outputs that follow the state are as it says, and no unit is in transit inside the part: FENCE_OUT is 1 while the
Vangeg is fenced or in reset (R125, R439, R440), HMW_SQ_VALID while a squash is in progress (R107), ERR_READY while the hub
runs and fewer than 256 reports wait (R115, R424), THERMTRIP_N is low while a trip is latched (R609), and a laser input is
enabled while the Shopostra runs with its ports released and the module present (R613, R616); the clock output carries what
TEMPO_CLKOUT_SEL selects while the Shopostra runs (R79). -/
structure State.Outputs (s : State) : Prop where
  vgTransit : s.vg.c.bud.issuing = [] ∧ s.vg.c.bud.lostUnits = []
  sxTransit : s.sx.c.bud.issuing = [] ∧ s.sx.c.bud.lostUnits = []
  fenceOut : s.vg.c.pin .fenceOut = b2n (s.vg.bnd.inReset || decide (s.vg.c.reg 0x7001 2 ≠ 0))
  squash : s.vg.c.pin .hmwSqValid = b2n s.vg.bnd.squash.isSome
  errReady : s.vg.c.pin .errReady =
    b2n (s.vg.bnd.pllLocked && decide ((s.vg.c.bud.waiting.filter fun u => decide (u.cls = 4)).length < 256))
  thermtrip : s.sx.c.pin .thermtripN = b2n (!s.sx.pkg.tripped)
  lasers : ∀ i, i < 2 → s.sx.c.pin (.lasEn i) =
    b2n (s.sx.runs && s.sx.pkg.portsReleased && decide (s.sx.c.pin (.lasPresN i) = 0))
  clkOut : s.sx.c.pin .clkOut = if s.sx.runs then s.sx.c.reg 0x1235 0 else 0

/-- Commands that act on a Vangeg held in reset: those that put it there and take it out (R131). -/
def vangegReset : Instr → Bool
  | .vangegColdReset _ => true
  | .vangegResetAssert => true
  | _ => false

/-- Commands that act on the package of a Shopostra whether or not it runs: pins, clocks and lasers (R601, R613 to R617). -/
def packageCommand : Instr → Bool
  | .resetPinAssert _ => true
  | .powerOnReset _ _ _ _ => true
  | .resetPin _ _ _ _ => true
  | .refclkLoss _ => true
  | .refclkReturn _ => true
  | .laserPresenceChange _ _ => true
  | _ => false

/-- What the access decision answers before an object's own rules (R553 to R559, R574 to R579). -/
def State.gate (s : State) (p : Part) (r : Req) (idx sub : Nat) (write : Bool) : Option Abort :=
  match p with
  | .vangeg => s.vg.c.gate r idx sub write (s.vg.sliceAdmits r idx sub)
  | .shopostra => s.sx.c.gate r idx sub write true

/-- The part runs, and the requester's slice is not under reset (R570). -/
def State.serves (s : State) (p : Part) (r : Req) : Bool :=
  match p with
  | .vangeg => !s.vg.bnd.inReset && !s.vg.requesterResetting r
  | .shopostra => s.sx.runs

/-- The value that an admitted read finds, once the requester's stagings of other objects are discarded. -/
def State.value (s : State) (p : Part) (r : Req) (idx sub : Nat) : Option Nat :=
  match p with
  | .vangeg => ((s.vg.onC (Common.dropOther r idx sub)).value idx sub).toOption
  | .shopostra => ((s.sx.onC (Common.dropOther r idx sub)).value idx sub).toOption

/-- The bytes that an admitted block read finds. -/
def State.blob (s : State) (p : Part) (r : Req) (idx sub : Nat) : Option (List Nat) :=
  match p with
  | .vangeg => ((s.vg.onC (Common.dropOther r idx sub)).blob idx sub).toOption
  | .shopostra => ((s.sx.onC (Common.dropOther r idx sub)).blob idx sub).toOption

/-- The value is stored as it is written: a write clears nothing, the object has no rule of its own at the part, and the
value is in the range of its table. -/
def plainValue (p : Part) (r : Req) (idx sub v : Nat) : Bool :=
  !clears idx sub && objRange idx sub v &&
  (match p with
   | .vangeg => (Vangeg.ruleOf r idx sub v).isNone && (Common.ruleOf (kd := .vangeg) idx sub v).isNone
   | .shopostra => (Shopostra.ruleOf r idx sub v).isNone && (Common.ruleOf (kd := .shopostra) idx sub v).isNone)

/-- Nothing that the part accepted before a fence is still under way (R594). -/
def State.settled (s : State) (p : Part) (n : Nat) : Bool :=
  match p with
  | .vangeg => s.vg.settled n
  | .shopostra => s.sx.c.settled n

end Sys2Proof.Machine
end

