-- ==== Sys2Proof/Certificates/Slice0/Obligations.lean ====
section
/-! DEFINITION. The statements for the provers. -/

open Sys2Proof Sys2Proof.Machine

/-- Admitted writes of the Tempo objects complete with the effect of their rules
An admitted write of TEMPO_MODE or TEMPO_EPOCH at an apex with no session schedules the change at the first second boundary at least 2 s later, or takes the epoch. TEMPO_INCR in manual mode, TEMPO_STEP, TEMPO_CMP (arming and disarming), TEMPO_SOURCE_SEL, TEMPO_TOD and TEMPO_LINK_ASYM take the value their rules give. Beyond the effect only bookkeeping changes. -/
def Obligations.TempoWritesTakeEffect : Prop :=
  (∀ (s : State) (r : Req) (v : Nat), s.admits .shopostra r 0x1200 0 v = true → v ≤ 1 → s.sx.c.reg 0x1012 0 = 3 →
    s.sx.fleet.actingApex = true → s.sx.c.inSession = false →
    ∃ S, S % secT 1 = 0 ∧ s.sx.c.now + secT 2 ≤ S ∧ S < s.sx.c.now + secT 3 ∧
      Gives (.tempoModeWrite .shopostra r v) s
        (s.on .shopostra fun c => { c with tempo := { c.tempo with switchAt := some (S, v) } }).Near) ∧
  (∀ (s : State) (r : Req) (v : Nat), s.admits .shopostra r 0x1201 0 v = true → s.sx.c.reg 0x1012 0 = 3 →
    s.sx.fleet.actingApex = true → s.sx.c.inSession = false →
    Gives (.tempoEpochWrite .shopostra r v) s (s.on .shopostra fun c => c.setReg 0x1201 0 v).Near) ∧
  (∀ (s : State) (p : Part) (r : Req) (v : Nat), s.admits p r 0x1204 0 v = true →
    (s.com p).reg 0x1205 0 * 9999 ≤ v * 10000 → v * 10000 ≤ (s.com p).reg 0x1205 0 * 10001 → (s.com p).reg 0x1206 0 ≠ 0 →
    Gives (.tempoIncrWrite p r v) s (s.on p fun c => c.setReg 0x1204 0 v).Near) ∧
  (∀ (s : State) (p : Part) (r : Req) (v : Nat), s.admits p r 0x1207 0 v = true → (s.com p).inSession = false →
    Gives (.tempoStep p r v) s fun t =>
      (t.com p).now = (((s.com p).now : Int) + ofTwos 64 v * (2 ^ 24 : Nat)).toNat ∧
      (∀ l e, (l, e) ∈ (t.com p).tempo.exch → e.offsets = [])) ∧
  (∀ (s : State) (p : Part) (r : Req) (n v : Nat), s.admits p r 0x1210 n v = true → v ≠ 0 →
    (s.com p).now < (s.com p).timeOf v →
    Gives (.tempoCmpArm p r n v) s
      (s.on p fun c => (c.setReg 0x1210 n (storedForm .time v)).setReg 0x1211 n 1).Near) ∧
  (∀ (s : State) (p : Part) (r : Req) (n : Nat), s.admits p r 0x1210 n 0 = true →
    Gives (.tempoCmpArm p r n 0) s (s.on p fun c => (c.setReg 0x1210 n 0).setReg 0x1211 n 0).Near) ∧
  (∀ (s : State) (r : Req) (v : Nat), s.admits .shopostra r 0x120D 0 v = true → v ≤ 3 → s.sx.c.reg 0x1012 0 = 3 →
    Gives (.tempoSourceSelWrite r v) s fun t => t.sx.c.reg 0x120D 0 = v) ∧
  (∀ (s : State) (r : Req) (v : Nat), s.admits .shopostra r 0x120F 0 v = true → s.sx.c.reg 0x1012 0 = 3 →
    Gives (.tempoTodWrite r v) s
      (s.on .shopostra fun c => { c with tempo := { c.tempo with tod := some (c.timeOf v / secT 1) } }).Near) ∧
  (∀ (s : State) (p : Part) (r : Req) (n v : Nat), s.admits p r 0x1221 n v = true → 1 ≤ n → n ≤ 48 →
    Gives (.linkAsymWrite p r n v) s (s.on p fun c => c.setReg 0x1221 n (v % 2 ^ 32)).Near)

/-- A format switch, a compare instant and the moves between Tempo states do what their rules say
At its instant a format switch puts the new mode in force and leaves none pending; an armed compare object reads fired; ACQUIRING goes to LOCKED after 80 board cycles within 4 ns and back after 8 above; a source that is lost leaves LOCKED for HOLDOVER with the slew term zero and the rate term kept; a source that becomes valid leaves FREERUN or HOLDOVER for ACQUIRING; parent A valid for 8,000 board cycles becomes the source again; parents that differ for 8 board cycles are reported. -/
def Obligations.TempoInstantsTakeEffect : Prop :=
  (∀ (s : State) (p : Part) (S m : Nat), s.runs p = true → (s.com p).tempo.switchAt = some (S, m) →
    Gives (.tempoModeSwitch p) s fun t =>
      (t.com p).mode = m ∧ (t.com p).now = max (s.com p).now S ∧ (t.com p).tempo.switchAt = none ∧
      (t.com p).tempo.switchedAt = some S) ∧
  (∀ (s : State) (p : Part) (n : Nat), s.runs p = true → (s.com p).reg 0x1211 n = 1 →
    Gives (.tempoCmpFire p n) s
      (s.on p fun c => (c.arrive (c.timeOf (c.reg 0x1210 n))).setReg 0x1211 n 2).Near) ∧
  (∀ (s : State) (p : Part), s.runs p = true → (s.com p).tempoState = 1 → 80 ≤ (s.com p).tempo.lowRun →
    Gives (.tempoLock p) s fun t =>
      (t.com p).tempoState = 2 ∧ (t.com p).reg 0x120C 0 = 0 ∧ (t.com p).tempo.everLocked = true) ∧
  (∀ (s : State) (p : Part), s.runs p = true → (s.com p).tempoState = 2 → 8 ≤ (s.com p).tempo.highRun →
    Gives (.tempoUnlock p) s fun t => (t.com p).tempoState = 1) ∧
  (∀ (s : State) (p : Part), s.runs p = true → (s.com p).sourceOrder ≠ [] → (s.com p).bestLane = none →
    (s.com p).tempoState = 2 →
    Gives (.tempoSourceLost p) s fun t =>
      (t.com p).tempoState = 3 ∧ (t.com p).tempo.slew = 0 ∧ (t.com p).tempo.source = none ∧
      (t.com p).reg 0x1204 0 = (s.com p).reg 0x1204 0 ∧ (t.com p).reg 0x120B 0 = 0) ∧
  (∀ (s : State) (p : Part) (lane : Nat), s.runs p = true → (s.com p).laneValid lane = true →
    lane ∈ (s.com p).sourceOrder.flatten → (s.com p).tempoState = 0 ∨ (s.com p).tempoState = 3 →
    (s.com p).tempo.source = none →
    Gives (.tempoSourceValid p lane) s fun t => (t.com p).tempoState = 1 ∧ (t.com p).tempo.source = some lane) ∧
  (∀ (s : State) (p : Part) (a : List Nat) (rest : List (List Nat)) (l : Nat), s.runs p = true →
    (s.com p).sourceOrder = a :: rest → a.find? (fun l => (s.com p).laneValid l) = some l → 8000 ≤ (s.com p).tempo.returnRun →
    Gives (.timeSourceReturn p) s
      (s.on p fun c => { c with tempo := { c.tempo with source := some l } }).Near) ∧
  (∀ (s : State) (p : Part), s.runs p = true → 8 ≤ (s.com p).tempo.diffRun →
    Gives (.tempoDisagreement p) s
      (s.on p fun c => { c with tempo := { c.tempo with diffRun := 0 } }).Near)

/-- Clock sources at an apex and the exchange of TIME frames do what their rules say
An unsupported PTP message is counted; an announce or sync of the domain on a slave port makes the PTP source valid and takes its clock class or seconds; a delay request on a master port is answered; a master port sends its message; an ESMC level decides SyncE validity; a 1PPS edge within 100 ns, or while not LOCKED, makes the 1PPS source valid, and one further away is counted as rejected. A DOWN frame opens an exchange, its receiver answers with an UP frame, and the UP frame that answers it closes it. -/
def Obligations.ClockSourcesAndTimeFramesTakeEffect : Prop :=
  (∀ (s : State) (port : Nat), s.sx.runs = true →
    Gives (.ptpMessageRx port .unsupported) s (s.on .shopostra fun c => c.bump 0x1237 0).Near) ∧
  (∀ (s : State) (port cls : Nat) (utc : Int), s.sx.runs = true →
    s.sx.c.reg 0x1231 (port + 1) = 1 ∨ s.sx.c.reg 0x1231 (port + 1) = 3 →
    Gives (.ptpMessageRx port (.announce (s.sx.c.reg 0x1230 0) cls utc)) s fun t =>
      t.sx.c.tempo.gmClass = cls ∧ t.sx.c.tempo.ptpValid = true ∧ t.sx.c.reg 0x1233 0 = toTwos 16 utc) ∧
  (∀ (s : State) (port sec : Nat) (o : Int), s.sx.runs = true →
    s.sx.c.reg 0x1231 (port + 1) = 1 ∨ s.sx.c.reg 0x1231 (port + 1) = 3 →
    Gives (.ptpMessageRx port (.sync (s.sx.c.reg 0x1230 0) o sec)) s fun t =>
      t.sx.c.tempo.ptpValid = true ∧ t.sx.c.tempo.tod = some sec) ∧
  (∀ (s : State) (port seq : Nat), s.sx.runs = true →
    s.sx.c.reg 0x1231 (port + 1) = 2 ∨ s.sx.c.reg 0x1231 (port + 1) = 3 →
    Gives (.ptpMessageRx port (.delayReq (s.sx.c.reg 0x1230 0) seq)) s fun t =>
      s.Near t ∧ .ptp port 9 [s.sx.c.reg 0x1230 0, seq, s.sx.c.now / ns] ∈ t.sx.c.out) ∧
  (∀ (s : State) (port : Nat), s.sx.runs = true →
    Gives (.ptpMessageRx port .lost) s fun t => t.sx.c.tempo.ptpValid = false) ∧
  (∀ (s : State) (port kind : Nat), s.sx.runs = true →
    s.sx.c.reg 0x1231 (port + 1) = 2 ∨ s.sx.c.reg 0x1231 (port + 1) = 3 →
    Gives (.ptpMessageTx port kind) s fun t => s.Near t ∧ ∃ k,
      (s.sx.c.tempoState ≠ 2 ∨ s.sx.c.reg 0x1012 0 = 3 → k = s.sx.c.clockClass) ∧
      .ptp port kind [s.sx.c.reg 0x1230 0, k, s.sx.c.now / secT 1, s.sx.c.now / ns % 1000000000,
        s.sx.c.reg 0x1232 0] ∈ t.sx.c.out) ∧
  (∀ (s : State) (ql : Nat), s.sx.runs = true →
    Gives (.esmcRx ql) s fun t =>
      t.sx.c.tempo.synceValid = decide (ql ≤ s.sx.c.tempo.minQl) ∧ t.sx.c.reg 0x1234 0 = ql % 16) ∧
  (∀ (s : State) (t0 : Nat), s.sx.runs = true →
    s.sx.c.tempoState ≠ 2 ∨ (s.sx.c.now ≤ t0 ∧ t0 % secT 1 = 0) →
    Gives (.ppsEdge t0) s fun t => t.sx.c.tempo.ppsValid = true ∧ t.sx.c.tempo.ppsRejects = 0) ∧
  (∀ (s : State) (k : Nat), s.sx.runs = true → s.sx.c.tempoState = 2 → s.sx.c.tempo.ppsRejects = 0 →
    s.sx.c.now ≤ k * secT 1 + nsT 200 →
    Gives (.ppsEdge (k * secT 1 + nsT 200)) s fun t =>
      t.sx.c.tempo.ppsRejects = 1 ∧ t.sx.c.reg 0x1238 0 = (s.sx.c.bump 0x1238 0).reg 0x1238 0) ∧
  (∀ (s : State) (p : Part) (lane : Nat), s.runs p = true → 3 ≤ (s.com p).portState ((s.com p).lanePort lane) →
    (s.com p).portState ((s.com p).lanePort lane) ≤ 5 →
    Gives (.timeDownSend p lane) s fun t =>
      let seq := (((s.com p).exchange lane).seq + 1) % 65536
      let c := s.com p
      let e := (t.com p).exchange lane
      e.seq = seq ∧ e.t1 = c.now ∧ e.answered = false ∧
      .time (.lane (c.lanePort lane) (c.laneIn lane)) (c.timeFields 0 seq (c.stampU c.portU c.now)
        (if (c.exchange lane).answered then c.stampU c.portU (c.exchange lane).t4 else 0)) ∈ (t.com p).out) ∧
  (∀ (s : State) (p : Part) (lane kind state hops seq a b dwell : Nat), s.runs p = true → kind ≤ 1 →
    ((s.com p).exchange lane).open_ = none →
    Gives (.timeDownRx p lane kind (s.com p).mode state hops seq a b dwell) s fun t =>
      let c := s.com p
      let e := (t.com p).exchange lane
      (t.com p).now = c.now + dwell * 2 ^ 24 ∧ e.open_ = some (seq, c.extend a, c.now, c.now + dwell * 2 ^ 24) ∧
      e.senderLocked = decide (state / 4 % 4 = 2) ∧ e.modeErrors = 0) ∧
  (∀ (s : State) (p : Part) (lane kind seq : Nat), s.runs p = true → kind ≤ 1 →
    ((s.com p).exchange lane).answered = false → ((s.com p).exchange lane).seq = seq →
    Gives (.timeUpRx p lane kind (s.com p).mode seq) s fun t =>
      let e := (t.com p).exchange lane
      e.t4 = (s.com p).now ∧ e.answered = true ∧ e.lastDone = some (s.com p).now)

/-- A level role, an assignment, a change of the active parent and a takeover complete as their rules say
An admitted write of SX_LEVEL_ROLE outside every session stores the role; LIVE_ASSIGN at the apex puts an unassigned part and address in the map and, for a part behind a port, binds the address there; parent B becomes the active parent at a board-cycle start; a pending takeover makes the member the active, acting apex at a board-cycle start; a board-cycle start brings Tempo to the next multiple of 125 us, and does nothing else at a Vangeg whose PLL is not locked than send its coalesced reports. Beyond the effect only bookkeeping changes. -/
def Obligations.RolesAndAddressesTakeEffect : Prop :=
  (∀ (s : State) (r : Req) (v : Nat), s.admits .shopostra r 0x1012 0 v = true → v ≤ 4 → s.sx.c.inSession = false →
    Gives (.levelRoleWrite r v) s
      (s.onSx fun x => (x.onC fun c => c.setReg 0x1012 0 v).onFleet fun f =>
        { f with actingApex := decide (v = 3) && f.active }).Near) ∧
  (∀ (s : State) (r : Req) (l role port : Nat), s.admits .shopostra r 0x7010 2 l = true → logicalOk l = true →
    (if physKind s.sx.fleet.assignPhys = 0 then tierOf l = 0 else tierOf l = role + 1) →
    s.sx.fleet.actingApex = true → s.sx.holder l = none → s.sx.holds s.sx.fleet.assignPhys = false →
    s.sx.dieCount < 1048576 →
    Gives (.liveAssign r l role port) s
      (s.onSx fun x => (x.onFleet fun f => { f with map := putKey f.map l (f.assignPhys, 0) }).onC fun c =>
        let c1 := c.setReg 0x7010 3 0
        if s.sx.fleet.assignPhys = s.sx.c.phys then c1.setReg 0x1011 0 l else c1.bind_ port l).Near) ∧
  (∀ (s : State) (p : Part), s.runs p = true →
    Gives (.activeParentSwitch p false) s (s.on p fun c => c.toCycleStart.setReg 0x1015 0 1).Near) ∧
  (∀ (s : State), s.sx.runs = true →
    Gives (.activeParentSwitch .shopostra true) s
      (s.onSx fun x => (x.onFleet fun f => { f with active := true }).onC Common.toCycleStart).Near) ∧
  (∀ (s : State), s.sx.runs = true → s.sx.c.live.takeover = true → s.sx.c.flag.copied = [] →
    Gives .mirrorApexTakeover s
      (s.onSx fun x => (x.onFleet fun f => { f with active := true, actingApex := true }).onC fun c =>
        c.toCycleStart.onLive fun l => { l with takeover := false }).Near) ∧
  (∀ (s : State), s.vg.bnd.inReset = false → s.vg.bnd.pllLocked = false →
    Gives (.boardCycleStart .vangeg) s (s.onVg fun v => v.sendCoalesced.onC Common.nextCycle).Near) ∧
  (∀ (s : State) (p : Part), s.runs p = true →
    Gives (.boardCycleStart p) s fun t => (t.com p).now = cycleStart (s.com p).now + cycleT)

/-- A Castle is accepted, acknowledged or cancelled, and takes effect at its instant
An admitted Castle instant at the apex, for an address declared down and a usable spare, is pending with the next Castle count; with no acknowledgement 1 ms before T* the apex cancels it; at T* a Vangeg that is the spare takes the address, and at a Shopostra the address is bound to the port that leads to the spare, if any, and to no other, and the Castle is no longer pending; a spare takes the objects and entries delivered for the address. Beyond the effect only bookkeeping changes. -/
def Obligations.CastleTakesEffect : Prop :=
  (∀ (s : State) (r : Req) (v cls l sp xp gen : Nat), s.admits .shopostra r 0x7011 3 v = true →
    s.sx.c.reg 0x7011 1 = l → s.sx.c.reg 0x7011 2 = sp → s.sx.holder l = some (xp, gen) →
    isCycleStart (s.sx.c.timeOf v) = true → s.sx.c.now + msT 4 ≤ s.sx.c.timeOf v →
    (physKind xp = 0 ↔ physKind sp = 0) → s.sx.fleet.actingApex = true →
    s.sx.c.live.down.any (fun d => decide (d.1 = l)) = true → s.sx.holds sp = false ∨ sp = xp → cls ≤ 2 →
    s.sx.fleet.castling l sp = false → s.sx.c.nearSwitch (s.sx.c.timeOf v) = false →
    Gives (.castleSubmit r v true cls) s
      (s.onSx fun x => (x.onFleet fun f => { f with
          map := putKey f.map l (xp, (gen + 1) % 2 ^ 32),
          castles := f.castles ++ [{ l := l, s := sp, at_ := x.c.timeOf v, acked := false }] }).onC fun c =>
        (c.setReg 0x7011 3 (storedForm .time v)).setReg 0x7011 4 1).Near) ∧
  (∀ (s : State) (l : Nat) (k : Castle), s.sx.runs = true → s.sx.fleet.castles.find? (fun k => decide (k.l = l)) = some k →
    s.sx.fleet.actingApex = true → k.acked = false →
    Gives (.castleAckDeadline l) s
      (s.onSx fun x => (x.onFleet fun f => { f with castles := f.castles.filter fun q => decide (q.l ≠ l) }).onC fun c =>
        (c.arrive (k.at_ - msT 1)).setReg 0x7011 4 3).Near) ∧
  (∀ (s : State) (l port : Nat), s.vg.bnd.inReset = false → s.vg.c.isSpare = true →
    Gives (.castleInstant .vangeg l port) s (s.on .vangeg fun c => c.setReg 0x1011 0 l).Near) ∧
  (∀ (s : State) (l port : Nat) (k : Castle), s.sx.runs = true → l ≠ 0xFFFFFFFF →
    s.sx.fleet.castles.find? (fun k => decide (k.l = l)) = some k →
    Gives (.castleInstant .shopostra l port) s fun t =>
      t.sx.c.now = max s.sx.c.now k.at_ ∧ (port < 48 → l ∈ t.sx.c.bindingSet port) ∧
      (∀ q, q ≠ port → l ∉ t.sx.c.bindingSet q) ∧
      t.sx.fleet.castles.find? (fun k => decide (k.l = l)) = none ∧
      (s.sx.fleet.actingApex = true → t.sx.c.reg 0x7011 4 = 2 ∧ (t.sx.holder l).map Prod.fst = some k.s)) ∧
  (∀ (s : State) (l idx sub v : Nat) (entries : List (Nat × List Nat)), s.vg.bnd.inReset = false → s.vg.c.isSpare = true →
    castleObject .vangeg idx sub = true →
    Gives (.castleStateDelivery .vangeg l entries [(idx, sub, v)] none) s
      (s.on .vangeg fun c => c.setReg idx sub v).Near) ∧
  (∀ (s : State) (l tag : Nat) (b : List Nat), s.sx.runs = true → s.sx.c.isSpare = true →
    Gives (.castleStateDelivery .shopostra l [(tag, b)] [] none) s
      (s.onSx fun x => x.setEntry tag (parseEntry b)).Near)

/-- Chord events and records, their expiry and the fit do what their rules say
A receive event at a die leaves as a chord record under the KIND 3 binding, waits, or is counted lost; a record at the lowest position above both dies waits for its partner, and when the partner of the other direction has come the pair gains one matched message; records 2 board cycles old leave, counted; a fit with CHORD_ENABLE at 1 empties the window. -/
def Obligations.ChordsTakeEffect : Prop :=
  (∀ (s : State) (msg peer tag e : Nat), s.vg.bnd.inReset = false → s.vg.c.kindBinding 3 = some (tag, e) →
    s.vg.c.boundTag tag = some e →
    Gives (.chordEvent true msg peer) s fun t => s.Near t ∧
      (t.vg.c.carries (.data .activeParent tag e s.vg.c.logical
          (bytesLE 4 msg ++ bytesLE 4 peer ++ bytesLE 6 (s.vg.c.stamp s.vg.c.now) ++ [1, 0])) ∨
        t.vg.c.reg 0x1405 4 = (s.vg.c.bump 0x1405 4).reg 0x1405 4)) ∧
  (∀ (s : State) (receive : Bool) (msg peer : Nat), s.vg.bnd.inReset = false → s.vg.c.kindBinding 3 = none →
    Gives (.chordEvent receive msg peer) s fun t =>
      t.vg.c.reg 0x1405 4 = (s.vg.c.bump 0x1405 4).reg 0x1405 4) ∧
  (∀ (s : State) (tag source : Nat) (m : List Nat), s.sx.runs = true → s.sx.c.reg 0x1240 0 = 1 →
    s.sx.c.matchesPair source (leAt m 4 4) = true → nth 0 m 14 % 2 = 0 → s.sx.c.tempo.chordWaiting = [] →
    Gives (.chordRecordRx tag source m) s
      (s.on .shopostra fun c => { c with tempo := { c.tempo with
        chordWaiting := [{ msgId := leAt m 0 4, a := source, b := leAt m 4 4, stamp := leAt m 8 6, dir := 0 }] } }).Near) ∧
  (∀ (s : State) (tag source : Nat) (m : List Nat) (w : ChordWait), s.sx.runs = true → s.sx.c.reg 0x1240 0 = 1 →
    s.sx.c.matchesPair source (leAt m 4 4) = true → nth 0 m 14 % 2 = 1 → s.sx.c.tempo.chordWaiting = [w] →
    w.msgId = leAt m 0 4 → w.a = leAt m 4 4 → w.b = source → w.dir = 0 →
    Gives (.chordRecordRx tag source m) s
      (s.on .shopostra fun c => { c with tempo := { c.tempo with
        chordWaiting := [],
        chordPairs := addTransit c.tempo.chordPairs w.a w.b (stampDiff (leAt m 8 6) w.stamp) } }).Near) ∧
  (∀ (s : State), s.sx.runs = true →
    Gives .chordRecordExpire s fun t =>
      (∀ w, w ∈ t.sx.c.tempo.chordWaiting ↔
        w ∈ s.sx.c.tempo.chordWaiting ∧ s.sx.c.now < s.sx.c.extend w.stamp + 2 * cycleT) ∧
      t.sx.c.tempo.chordWaiting.length + t.sx.c.tempo.chordExpired =
        s.sx.c.tempo.chordWaiting.length + s.sx.c.tempo.chordExpired) ∧
  (∀ (s : State), s.sx.runs = true → s.sx.c.reg 0x1240 0 ≠ 0 →
    Gives .chordFit s fun t => t.sx.c.tempo.chordPairs = [] ∧
      (∀ d o n f, (d, o, n, f) ∈ t.sx.c.tempo.chordResult → 3 ≤ n ∧ (f = true ↔ s.sx.c.reg 0x1243 0 < o.natAbs)))

/-- The save and restore handshake of a power island does what its rules say
With the hub PLL locked: PWR_REQ rising takes an island that is On to Saving, and on an island that is Restoring only the request is remembered; when the save completes with the request still high the island is Saved and acknowledged, and with it low an island that no warm reset saved is acknowledged and begins its restore; PWR_REQ falling begins the restore of a Saved island; when the restore completes with the request low and no warm reset waiting to save it, the island is On and PWR_ACK is 0; a block clock that stops for 4 us is counted and completes the save. -/
def Obligations.PowerIslandsTakeEffect : Prop :=
  (∀ (s : State) (i : Nat), s.vg.bnd.inReset = false → s.vg.bnd.pllLocked = true → s.vg.c.islandState i = 0 →
    Gives (.pwrReqRise i) s fun t => t.vg.c.islandState i = 1 ∧ t.vg.c.pin (.pwrReq i) = 1) ∧
  (∀ (s : State) (i : Nat), s.vg.bnd.inReset = false → s.vg.c.islandState i = 3 →
    Gives (.pwrReqRise i) s (s.on .vangeg fun c => c.setPin (.pwrReq i) 1).Near) ∧
  (∀ (s : State) (i moved : Nat), s.vg.bnd.inReset = false → s.vg.c.islandState i = 1 → s.vg.c.pin (.pwrReq i) = 1 →
    Gives (.islandSaveComplete i moved) s fun t => t.vg.c.islandState i = 2 ∧ t.vg.c.pin (.pwrAck i) = 1) ∧
  (∀ (s : State) (i moved : Nat), s.vg.bnd.inReset = false → s.vg.c.islandState i = 1 → s.vg.c.pin (.pwrReq i) = 0 →
    (s.vg.island i).warm = false →
    Gives (.islandSaveComplete i moved) s fun t => t.vg.c.islandState i = 3 ∧ t.vg.c.pin (.pwrAck i) = 1) ∧
  (∀ (s : State) (i : Nat), s.vg.bnd.inReset = false → s.vg.bnd.pllLocked = true → s.vg.c.islandState i = 2 →
    (s.vg.island i).warm = false →
    Gives (.pwrReqFall i) s fun t => t.vg.c.islandState i = 3 ∧ t.vg.c.pin (.pwrReq i) = 0) ∧
  (∀ (s : State) (i : Nat), s.vg.bnd.inReset = false → s.vg.c.islandState i = 3 → s.vg.c.pin (.pwrReq i) = 0 →
    s.vg.bnd.warmSince = none ∨ s.vg.bnd.warmRestoring = true →
    Gives (.islandRestoreComplete i) s fun t => t.vg.c.islandState i = 0 ∧ t.vg.c.pin (.pwrAck i) = 0) ∧
  (∀ (s : State) (i : Nat), s.vg.bnd.inReset = false → s.vg.c.islandState i = 1 → s.vg.c.pin (.pwrReq i) = 1 →
    Gives (.pwrClockStopTimeout i) s fun t =>
      t.vg.c.islandState i = 2 ∧ t.vg.c.reg 0x1102 0 = (s.vg.c.bump 0x1102 0).reg 0x1102 0)

/-- Cold reset, hub lock and host warm reset of a Vangeg do what their rules say
While VG_CRST_N is low the part is in reset with FENCE_OUT 1; when it rises the fuses stand as they were, the fuse status tells their check, and every object that the fuses do not load reads its reset value, but for the constants of the integration; at hub lock each island follows PWR_REQ and the register port opens; WRST_REQ asserts the reset request and saves every island that is On; WRST_ACK rises when nothing is being saved and no slice is resetting; on release the islands saved for it with PWR_REQ low begin their restore; WRST_ACK falls when none restores. -/
def Obligations.VangegResetsTakeEffect : Prop :=
  (∀ (s : State),
    Gives .vangegResetAssert s fun t => t.vg.bnd.inReset = true ∧ t.vg.bnd.pllLocked = false ∧
      t.vg.c.pin .vgCrstN = 0 ∧ t.vg.c.pin .fenceOut = 1 ∧ t.sx = s.sx) ∧
  (∀ (s : State) (timeout : Bool), s.vg.bnd.inReset = true →
    Gives (.vangegColdReset timeout) s fun t =>
      t.vg.bnd.inReset = false ∧ t.vg.bnd.pllLocked = false ∧ t.vg.bnd.fuses = s.vg.bnd.fuses ∧ t.sx = s.sx ∧
      t.vg.c.reg 0x1023 0 = (if timeout then 2 else if fusesMatch s.vg.bnd.fuses then 0 else 1) ∧
      (∀ idx sub, idx ∉ [0x1000, 0x1010, 0x1022, 0x1023, 0x3571, 0x3801] →
        t.vg.c.reg idx sub =
          if integrationKey (key idx sub) then s.vg.c.reg idx sub else State.reset.vg.c.reg idx sub)) ∧
  (∀ (s : State), s.vg.bnd.inReset = false → s.vg.bnd.pllLocked = false → s.vg.c.reg 0x1021 0 < 256 →
    Gives .hubPllLock s fun t => t.vg.bnd.pllLocked = true ∧ t.vg.c.pin .hrpReady = 1 ∧
      ∀ i, i < s.vg.c.reg 0x1021 0 → t.vg.c.pin (.pwrAck i) = s.vg.c.pin (.pwrReq i) ∧
        t.vg.c.islandState i = if s.vg.c.pin (.pwrReq i) = 1 then 2 else 0) ∧
  (∀ (s : State), s.vg.bnd.inReset = false → s.vg.bnd.warmSince = none →
    Gives .warmResetRequest s fun t => t.vg.bnd.warmSince = some s.vg.c.now ∧ t.vg.bnd.warmRestoring = false ∧
      t.vg.c.pin .wrstReq = 1 ∧
      (∀ i, i < s.vg.c.reg 0x1021 0 → s.vg.c.islandState i = 0 → t.vg.c.islandState i = 1)) ∧
  (∀ (s : State), s.vg.bnd.inReset = false → s.vg.bnd.warmSince.isSome = true → s.vg.bnd.warmRestoring = false →
    s.vg.warmBusy = false →
    Gives .warmResetSaveDone s (s.on .vangeg fun c => c.setPin .wrstAck 1).Near) ∧
  (∀ (s : State), s.vg.bnd.inReset = false → s.vg.bnd.warmSince.isSome = true → s.vg.c.pin .wrstAck = 1 →
    Gives .warmResetRelease s fun t => t.vg.bnd.warmRestoring = true ∧ t.vg.c.pin .wrstReq = 0 ∧
      t.vg.c.reg 0x1104 0 = (s.vg.c.bump 0x1104 0).reg 0x1104 0 ∧
      ∀ i, i < s.vg.c.reg 0x1021 0 → s.vg.c.islandState i = 2 → (s.vg.island i).warm = true → s.vg.c.pin (.pwrReq i) = 0 →
        t.vg.c.islandState i = 3) ∧
  (∀ (s : State), s.vg.bnd.inReset = false → s.vg.bnd.warmRestoring = true →
    (∀ i, i < s.vg.c.reg 0x1021 0 → s.vg.c.islandState i ≠ 3) →
    Gives .warmResetRestoreDone s fun t =>
      t.vg.bnd.warmSince = none ∧ t.vg.bnd.warmRestoring = false ∧ t.vg.c.pin .wrstAck = 0)

/-- Responses and squashes on the host memory write port, I3C transfers and error reports do what their rules say
A response 0 retires the write of its identifier, a response 1 or 2 also counts a loss; an acknowledged squash leaves no write of its PASID and, with none waiting, no squash in progress; the I3C commands that the spec answers from fuses answer with them, and a private read returns the stored response; a private write of a bad operation code is answered with the protocol code; a report accepted on the error intake is sent with its code and class, or counted as reserved; the CLEAN_EPOCH hold ends at its instant. -/
def Obligations.HostPortsTakeEffect : Prop :=
  (∀ (s : State) (id : Nat) (w : HostWrite), s.vg.bnd.inReset = false → s.vg.bnd.writes.find? (fun w => decide (w.id = id)) = some w →
    s.vg.bnd.writeQueue = [] → s.vg.c.bud.issuing = [] →
    Gives (.hmwWriteResponse id 0) s fun t => s.Near t ∧
      t.vg.bnd.writes = s.vg.bnd.writes.filter fun x => decide (x.id ≠ w.id)) ∧
  (∀ (s : State) (id resp : Nat) (w : HostWrite), s.vg.bnd.inReset = false →
    s.vg.bnd.writes.find? (fun w => decide (w.id = id)) = some w → resp = 1 ∨ resp = 2 →
    Gives (.hmwWriteResponse id resp) s fun t => t.vg.c.reg 0x1024 0 = (s.vg.c.bump 0x1024 0).reg 0x1024 0) ∧
  (∀ (s : State) (pasid t0 : Nat), s.vg.bnd.inReset = false → s.vg.bnd.squash = some (pasid, t0) → s.vg.bnd.squashNext = [] →
    s.vg.bnd.writeQueue = [] → s.vg.c.bud.issuing = [] →
    Gives .hmwSquashAck s fun t => t.vg.bnd.squash = none ∧ t.vg.c.pin .hmwSqValid = 0 ∧
      ∀ w ∈ t.vg.bnd.writes, w.pasid ≠ pasid ∧ w ∈ s.vg.bnd.writes) ∧
  (∀ (s : State), s.vg.bnd.inReset = false → s.vg.bnd.pllLocked = true →
    Gives (.i3cCcc .getpid) s fun t => s.Near t ∧
      .i3c (bytesLE 6 (bits (nth 0 s.vg.bnd.fuses 1) 63 16)).reverse ∈ t.vg.c.out) ∧
  (∀ (s : State) (tag abort data : Nat), s.vg.bnd.inReset = false → s.vg.bnd.pllLocked = true →
    s.vg.c.ctl.i3c = some (tag, abort, data) → s.vg.c.ctl.i3cSince ≠ s.vg.c.now →
    Gives .i3cPrivateRead s fun t => s.Near t ∧
      .i3c ([0, tag % 256] ++ bytesLE 2 abort ++ bytesLE 8 data) ∈ t.vg.c.out) ∧
  (∀ (s : State) (b : List Nat), s.vg.bnd.inReset = false → s.vg.bnd.pllLocked = true → 3 < nth 0 b 0 →
    Gives (.i3cPrivateWrite b) s fun t => s.Near t ∧
      t.vg.c.ctl.i3c = some (nth 0 b 1, Abort.protocol.code, 0)) ∧
  (∀ (s : State) (cls unit addr job : Nat), s.vg.bnd.inReset = false → s.vg.c.pin .errReady = 1 → cls ∈ [2, 3, 6, 7] →
    Gives (.errReport cls unit addr job) s fun t => s.Near t ∧
      ∃ fields, .record .parents 0x40 fields ∈ t.vg.c.out ∧ nth 0 fields 2 = 0x0C ∧ nth 0 fields 21 = unit ∧
        nth 0 fields 22 = cls ∧ (fields.drop 31).take 8 = bytesLE 8 addr) ∧
  (∀ (s : State) (t0 : Nat), s.vg.bnd.inReset = false → s.vg.bnd.cleanHold = some t0 → s.vg.bnd.cleanNext = none →
    Gives .cleanEpochHoldEnd s fun t => t.vg.c.now = max s.vg.c.now t0 ∧ t.vg.bnd.cleanHold = none ∧
      t.vg.c.pin .cleanEpoch = s.vg.c.pin .cleanEpoch)

/-- The steps of a block test do what Table 16-3 says
The director at a board-cycle start takes the test it has chosen when the budget covers it; TEST_ISO_ACK rising takes step 1 to 2; without it in time the test ends with result 5 and is counted; each wrapper instruction that completes as Table 16-3 demands takes the test to its next step; a step out of its bound goes to step 5 with its result; the ISO budget running out ends it with result 4; TEST_ISO_ACK falling closes the isolation time; a test out of isolation ends with its result stored. Beyond the effect only bookkeeping changes. -/
def Obligations.TestIsolationTakesEffect : Prop :=
  (∀ (s : State) (q : Test), s.vg.bnd.inReset = false → isCycleStart s.vg.c.now = true → s.vg.c.reg 0x3500 0 = 1 →
    s.vg.c.bist.stopped = false → s.vg.c.bist.current = none → s.vg.c.chooseTest = some q →
    s.vg.c.neverFits (s.vg.c.testUnit q.unit) 0 = false → s.vg.c.neverFits (s.vg.c.testUnit q.unit) 3 = false →
    s.vg.c.covers (s.vg.c.testUnit q.unit) 0 = true → s.vg.c.covers (s.vg.c.testUnit q.unit) 3 = true →
    Gives .bistTestStart s fun t => t.vg.c.bist.current = some q ∧ t.vg.c.pin (.testIso q.unit) = 1 ∧
      t.vg.c.bud.isoReserved = s.vg.c.bud.isoReserved + s.vg.c.plan q.unit 5) ∧
  (∀ (s : State) (q : Test), s.vg.bnd.inReset = false → s.vg.c.bist.current = some q → q.step = 1 →
    Gives (.testIsoAckRise q.unit) s
      (s.on .vangeg fun c => (c.setPin (.testIsoAck q.unit) 1).setTest (some { q with step := 2, last := 1, stepAt := c.now })).Near) ∧
  (∀ (s : State) (q : Test), s.vg.bnd.inReset = false → s.vg.c.bist.current = some q → q.step = 1 →
    Gives (.testIsoAckTimeout q.unit) s
      (s.on .vangeg fun c => (((c.arrive (q.stepAt + nsT (min 10000 (c.plan q.unit 6)))).setPin (.testIso q.unit) 0).bump
        0x1105 0).setTest (some { q with result := 5, step := 6 })).Near) ∧
  (∀ (s : State) (q : Test) (v : Nat), s.vg.bnd.inReset = false → s.vg.c.bist.current = some q → q.step = 2 → bitOf v 0 = true →
    Gives (.wrapperOpComplete v) s
      (s.on .vangeg fun c => c.setTest (some { q with step := 3, last := 2, stepAt := c.now })).Near) ∧
  (∀ (s : State) (q : Test) (v volt : Nat), s.vg.bnd.inReset = false → s.vg.c.bist.current = some q → q.step = 3 →
    s.vg.c.plan q.unit 10 ≤ v → v ≤ s.vg.c.plan q.unit 11 →
    s.vg.c.reg 0x1111 (s.vg.c.plan q.unit 12 % 16 + 1) = volt →
    volt ≤ s.vg.c.reg 0x1112 (s.vg.c.plan q.unit 12 % 16 + 1) + s.vg.c.plan q.unit 13 →
    s.vg.c.reg 0x1112 (s.vg.c.plan q.unit 12 % 16 + 1) ≤ volt + s.vg.c.plan q.unit 13 →
    Gives (.wrapperOpComplete v) s
      (s.on .vangeg fun c => c.setTest (some { q with clk := v, volt := volt, step := 4, last := 3, stepAt := c.now })).Near) ∧
  (∀ (s : State) (q : Test) (v : Nat), s.vg.bnd.inReset = false → s.vg.c.bist.current = some q → q.step = 4 →
    bitOf v 63 = true → bitOf v 62 = false → s.vg.c.pin (.testIsoAck q.unit) = 1 →
    Gives (.wrapperOpComplete v) s
      (s.on .vangeg fun c => c.setTest (some { q with reg := v, result := 0, step := 5, last := 4, stepAt := c.now })).Near) ∧
  (∀ (s : State) (q : Test) (v : Nat), s.vg.bnd.inReset = false → s.vg.c.bist.current = some q → q.step = 5 →
    Gives (.wrapperOpComplete v) s
      (s.on .vangeg fun c => (c.setPin (.testIso q.unit) 0).setTest (some { q with step := 6, last := 5 })).Near) ∧
  (∀ (s : State) (q : Test), s.vg.bnd.inReset = false → s.vg.c.bist.current = some q → q.step = 4 →
    s.vg.c.pin (.testIsoAck q.unit) = 1 →
    Gives .bistStepTimeout s
      (s.on .vangeg fun c =>
        let c1 := c.arrive (q.stepAt + nsT (c.plan q.unit 8))
        c1.setTest (some { q with result := 8, step := 5, stepAt := c1.now })).Near) ∧
  (∀ (s : State) (q : Test), s.vg.bnd.inReset = false → s.vg.c.bist.current = some q → q.step < 6 →
    Gives .isoBudgetAbort s
      (s.on .vangeg fun c =>
        let c1 := c.arrive (q.isoAt.getD c.now + nsT (c.plan q.unit 5 - c.reg 0x1403 0))
        (c1.setPin (.testIso q.unit) 0).setTest (some { q with
          result := 4, step := if c.pin (.testIsoAck q.unit) = 1 then 5 else 6, stepAt := c1.now })).Near) ∧
  (∀ (s : State) (q : Test), s.vg.bnd.inReset = false → s.vg.c.bist.current = some q →
    Gives (.testIsoAckFall q.unit) s fun t => t.vg.c.pin (.testIsoAck q.unit) = 0 ∧
      t.vg.c.bist.current = some { q with isoNs := (s.vg.c.now - q.isoAt.getD s.vg.c.now) / ns }) ∧
  (∀ (s : State) (q : Test), s.vg.bnd.inReset = false → s.vg.c.bist.current = some q → q.step = 6 →
    s.vg.c.pin (.testIsoAck q.unit) = 0 →
    Gives .bistResult s fun t => t.vg.c.bist.current = none ∧ t.vg.c.reg (0x3510 + q.unit) 15 = q.result)

/-- Plans, requests, fuse burns and element tests do what their rules say
An admitted plan within R517 is stored; an admitted request is queued with its margin, and the oldest whose wait ends leaves with result 3; a burn at P0 over the CONTROL path of a valid entry programs the first free fuse word, and its end moves the entry or reports; a due element is taken out of service at a board-cycle start and tested, and its result is kept; a parity error in the director stops all testing with BIST_SUMMARY 0. -/
def Obligations.SelfTestWritesTakeEffect : Prop :=
  (∀ (s : State) (r : Req) (b sub v : Nat) (f : Nat → Nat), s.admits .vangeg r (0x3510 + b) sub v = true →
    (f = fun n => if n = sub then v else s.vg.c.plan b n) →
    f 1 ≤ 1 → f 2 ≤ 3 → f 3 % 256 ≤ 79 → f 3 / 256 ≤ 79 → f 6 ≤ 10000 → f 12 ≤ 15 → f 14 ≤ 15 → f 5 ≤ 125000 →
    f 6 + f 7 + 1000 + f 8 + f 9 + s.vg.c.reg 0x1403 0 ≤ f 5 → (∀ q, s.vg.c.bist.current = some q → q.unit ≠ b) →
    Gives (.bistPlanWrite r b sub v) s (s.on .vangeg fun c => (c.setReg (0x3510 + b) sub v).summarise).Near) ∧
  (∀ (s : State) (p : Part) (r : Req) (v : Nat), s.admits p r 0x3504 3 v = true →
    (match p with | .vangeg => v ≤ s.vg.c.plan (s.vg.c.reg 0x3504 1) 14 | .shopostra => v = 0) →
    (s.com p).testedUnit ((s.com p).reg 0x3504 1) = true → (s.com p).bist.requests.length < 8 →
    Gives (.bistRequestSubmit p r v) s
      (s.on p fun c =>
        let qs := c.bist.requests ++ [(c.reg 0x3504 1, c.reg 0x3504 2, v, c.now)]
        ((c.onBist fun b => { b with requests := qs }).setReg 0x3504 3 v).setReg 0x3504 4 qs.length).Near) ∧
  (∀ (s : State) (p : Part) (q : Nat × Nat × Nat × Ticks) (rest : List (Nat × Nat × Nat × Ticks)), s.runs p = true →
    (s.com p).bist.requests = q :: rest →
    Gives (.bistStressTimeout p) s fun t => (t.com p).bist.requests = rest ∧
      (t.com p).now = max (s.com p).now (q.2.2.2 + secT ((s.com p).reg 0x3502 0)) ∧ (q.1, 3) ∈ (t.com p).bist.results) ∧
  (∀ (s : State) (r : Req) (v i : Nat), s.admits .vangeg r 0x3572 0 v = true → fusePath r.path = true → r.priv = 0 →
    v < s.vg.c.reg 0x3570 0 → (List.range 24).find? (fun i => decide (nth 0 (s.vg.bnd.fuses.drop 24) i = 0)) = some i →
    bitOf (s.vg.c.reg 0x3570 (v + 1)) 63 = true → s.vg.c.bist.burn = none →
    Gives (.fuseBurnSubmit .vangeg r v) s fun t => t.vg.c.reg 0x3573 0 = 1 ∧
      t.vg.c.bist.burn = some (v, 24 + i, s.vg.c.reg 0x3570 (v + 1)) ∧ t.vg.bnd.burning = some (24 + i, s.vg.c.reg 0x3570 (v + 1))) ∧
  (∀ (s : State) (p : Part) (e w x : Nat), s.runs p = true → (s.com p).bist.burn = some (e, w, x) →
    Gives (.fuseProgramDone p false) s fun t => (t.com p).bist.burn = none ∧ (t.com p).reg 0x3573 0 = 2 ∧
      (t.com p).reg 0x3570 (e + 1) = 0 ∧ (t.com p).reg 0x3571 (w - 23) = x) ∧
  (∀ (s : State) (p : Part) (e w x : Nat), s.runs p = true → (s.com p).bist.burn = some (e, w, x) →
    Gives (.fuseProgramDone p true) s fun t => (t.com p).bist.burn = none ∧ (t.com p).reg 0x3573 0 = 3 ∧
      t.vg.bnd.fuses = s.vg.bnd.fuses ∧ t.sx.pkg.fuseRepairs = s.sx.pkg.fuseRepairs) ∧
  (∀ (s : State) (e : Nat), s.sx.runs = true → isCycleStart s.sx.c.now = true → isElement e = true →
    s.sx.c.reg 0x3500 0 = 1 → s.sx.c.bist.stopped = false → s.sx.c.bist.current = none → s.sx.c.elementDue e = true →
    s.sx.c.elemState e = 1 ∨ (s.sx.c.elemState e = 0 ∧ s.sx.spares e = true) →
    Gives (.elementTestStart e) s fun t => t.sx.c.elemState e = 1 ∧
      t.sx.c.bist.current = some { newTest e 0 0xFFFF none s.sx.c.now with isoAt := none }) ∧
  (∀ (s : State) (q : Test) (repair : Nat), s.sx.runs = true → s.sx.c.bist.current = some q →
    s.sx.c.bist.faults = [] → s.sx.c.elemState q.unit = 1 →
    Gives (.elementTestComplete 0 repair) s fun t => t.sx.c.bist.current = none ∧ (q.unit, 0) ∈ t.sx.c.bist.results ∧
      (q.unit, 0) ∈ t.sx.tan.changed) ∧
  (∀ (s : State) (p : Part), s.runs p = true →
    Gives (.directorParityError p) s fun t => (t.com p).bist.stopped = true ∧ (t.com p).bist.current = none ∧
      (t.com p).reg 0x3501 0 = 0)

/-- Admitted writes of the counter objects complete with the effect of their rules
A configuration of a known event, a value of a disabled counter, a reload value and an owner are stored; a latch period that divides a second is in the object at once and in force at the first second boundary at least 1 ms later; a bandwidth source restarts its window; a counting command 2 us ahead is queued; enabling a dump destination starts its sequence at 0. Beyond the effect of the first four only bookkeeping changes. -/
def Obligations.PawnWritesTakeEffect : Prop :=
  (∀ (s : State) (r : Req) (cell k v b : Nat), k < 8 → s.admits .vangeg r (ctrIdx cell k) 2 v = true →
    s.vg.c.cellBlock cell = some b → eventReserved (bits v 31 20) = false → (bitOf v 14 = true → k ≠ 7) →
    (bitOf v 11 = true → s.vg.c.hasTrace b = true) → s.vg.c.chordGroup b (s.vg.c.cellGroup b cell) = false →
    Gives (.pawnConfigWrite r cell k v) s
      (s.on .vangeg fun c => c.setReg (ctrIdx cell k) 2 (bits v 31 20 * 2 ^ 20 + bits v 15 11 * 2 ^ 11 +
        b2n (bitOf (c.reg (ctrIdx cell k) 2) 10 && !bitOf v 10) * 2 ^ 10)).Near) ∧
  (∀ (s : State) (r : Req) (cell k v : Nat), k < 8 → s.admits .vangeg r (ctrIdx cell k) 1 v = true →
    bitOf (s.vg.c.reg (ctrIdx cell k) 2) 15 = false →
    Gives (.pawnValueWrite r cell k v) s (s.on .vangeg fun c => c.setReg (ctrIdx cell k) 1 v).Near) ∧
  (∀ (s : State) (r : Req) (cell k v : Nat), k < 8 → s.admits .vangeg r (ctrIdx cell k) 3 v = true →
    v ≤ 0xFFFFFFFFFFFFFFC0 →
    Gives (.pawnReloadWrite r cell k v) s (s.on .vangeg fun c => c.setReg (ctrIdx cell k) 3 v).Near) ∧
  (∀ (s : State) (r : Req) (cell v : Nat), cell < 256 →
    s.admits .vangeg r (0x2800 + cell / 128) (cell % 128 + 1) v = true →
    v = 0xFF ∨ (∃ b, s.vg.c.cellBlock cell = some b ∧ bitOf v 6 = false ∧ (bitOf v 7 = true → s.vg.c.hasTrace b = true)) →
    Gives (.pawnCellOwnerWrite r cell v) s
      (s.on .vangeg fun c => c.setReg (0x2800 + cell / 128) (cell % 128 + 1) v).Near) ∧
  (∀ (s : State) (r : Req) (v : Nat), s.admits .vangeg r 0x2900 0 v = true → v ≠ 0 → 1000000 % v = 0 →
    Gives (.pawnLatchPeriodWrite r v) s fun t => t.vg.c.reg 0x2900 0 = v ∧
      ∃ S, S % secT 1 = 0 ∧ s.vg.c.now + msT 1 ≤ S ∧ S < s.vg.c.now + msT 1 + secT 1 ∧
        t.vg.pawn.periodNext = some (S, v)) ∧
  (∀ (s : State) (r : Req) (w v : Nat), w < 16 → s.admits .vangeg r (0x2B00 + w) 1 v = true →
    v = 0xFFFF ∨ (s.vg.c.cellBlock (v / 8)).isSome = true →
    Gives (.pawnBwSrcWrite r w v) s fun t => t.vg.c.reg (0x2B00 + w) 1 = v ∧
      lookupD windowReset t.vg.pawn.windows w = windowReset) ∧
  (∀ (s : State) (r : Req) (v : Nat), s.admits .vangeg r 0x2902 4 v = true → r.priv ≤ 2 →
    s.vg.c.now + usT 2 ≤ s.vg.c.timeOf v → 1 ≤ s.vg.c.reg 0x2902 1 → s.vg.c.reg 0x2902 1 ≤ 4 →
    s.vg.c.targetOk (s.vg.c.reg 0x2902 2) = true → s.vg.c.reg 0x2902 3 ≠ 0 → s.vg.pawn.cmds.length < 8 →
    Gives (.pawnCmdSubmit r v) s fun t => t.vg.c.reg 0x2902 5 = 1 ∧
      t.vg.pawn.cmds = s.vg.pawn.cmds ++ [{ action := s.vg.c.reg 0x2902 1, target := s.vg.c.reg 0x2902 2,
                                            mask := s.vg.c.reg 0x2902 3, at_ := s.vg.c.timeOf v }]) ∧
  (∀ (s : State) (r : Req), s.admits .vangeg r 0x2910 1 1 = true → s.vg.c.reg 0x2910 1 = 0 →
    Gives (.dumpDestEnable r false 1) s fun t => t.vg.c.reg 0x2910 1 = 1 ∧ t.vg.pawn.agg.seq = 0) ∧
  (∀ (s : State) (r : Req), s.admits .vangeg r 0x2911 1 1 = true → s.vg.ringReg 0 0 = 0 →
    2 * s.vg.imageLength ≤ 2 ^ s.vg.ringReg 0 3 → s.vg.driverless 0 = false →
    Gives (.dumpDestEnable r true 1) s fun t => t.vg.ringReg 0 0 = 1 ∧ t.vg.ringReg 0 5 = 0 ∧ t.vg.ringReg 0 6 = 0 ∧
      t.vg.pawn.host = { seq := 0, held := [], gap := false })

/-- Clock edges, overflows, samples, latch ticks and windows do what their rules say
At an edge an enabled counter adds the increment of its event, and a slot accumulator counts; a counter that passes 2^64 wraps, takes its reload value if set, and shows OVF; a capture ends with its retire record from edge E+2, or without one from E+4,097, and takes the next sequence number; a latch tick copies every counter into its latch; a new period comes into force at its instant; a full bandwidth window is stored with its peak and starts again. -/
def Obligations.CountingTakesEffect : Prop :=
  (∀ (s : State) (b cell k evt : Nat), k < 8 → s.vg.bnd.inReset = false → s.vg.c.chordGroup b 0 = false →
    s.vg.islandFrozen (s.vg.c.blockIsland b) = false →
    (s.vg.c.blockCells b).filter (fun n => decide (s.vg.c.cellGroup b n = 0)) = [cell] →
    s.vg.c.stopped = false → s.vg.c.forceFilter cell = false →
    (∀ j, j < 8 → bitOf (s.vg.c.reg (ctrIdx cell j) 2) 15 = decide (j = k)) →
    bitOf (s.vg.c.reg (ctrIdx cell k) 2) 11 = false →
    (0 < k → bitOf (s.vg.c.reg (ctrIdx cell (k - 1)) 2) 14 = false) →
    (let prev := lookupD (0, 0) s.vg.pawn.prevEvt (b, 0)
     let n := eventIncrement (bits (s.vg.c.reg (ctrIdx cell k) 2) 31 20) 1 evt prev.1 prev.2
     s.vg.c.reg (ctrIdx cell k) 1 + n < 2 ^ 64 →
     Gives (.blockClockEdge b [(1, evt)] []) s fun t =>
       t.vg.c.reg (ctrIdx cell k) 1 = s.vg.c.reg (ctrIdx cell k) 1 + n ∧
       lookupD (0, 0) t.vg.pawn.prevEvt (b, 0) = (1, evt))) ∧
  (∀ (s : State) (b cls : Nat), s.vg.bnd.inReset = false → s.vg.islandFrozen (s.vg.c.blockIsland b) = false →
    1 ≤ s.vg.c.slotWidth b → b < 64 →
    Gives (.blockClockEdge b [] [cls]) s fun t =>
      t.vg.c.reg (0x2A00 + b) (cls % 4 + 1) = (s.vg.c.bump (0x2A00 + b) (cls % 4 + 1)).reg (0x2A00 + b) (cls % 4 + 1)) ∧
  (∀ (s : State) (cell k inc b : Nat), k < 8 → s.vg.bnd.inReset = false → s.vg.c.cellBlock cell = some b → s.vg.c.stopped = false →
    s.vg.islandFrozen (s.vg.c.blockIsland b) = false → s.vg.c.chordGroup b (s.vg.c.cellGroup b cell) = false →
    2 ^ 64 ≤ s.vg.c.reg (ctrIdx cell k) 1 + inc → bitOf (s.vg.c.reg (ctrIdx cell k) 2) 14 = false →
    Gives (.pawnOverflow cell k inc) s fun t =>
      let cfg := s.vg.c.reg (ctrIdx cell k) 2
      t.vg.c.reg (ctrIdx cell k) 1 = ((s.vg.c.reg (ctrIdx cell k) 1 + inc) % 2 ^ 64 +
        (if bitOf cfg 12 then s.vg.c.reg (ctrIdx cell k) 3 else 0)) % 2 ^ 64 ∧
      bitOf (t.vg.c.reg (ctrIdx cell k) 2) 10 = true ∧ (t.vg.cell cell).ovfSince = true) ∧
  (∀ (s : State) (b g pc ctx pasid : Nat) (q : (Nat × Nat) × Capture), s.vg.bnd.inReset = false →
    s.vg.pawn.captures.find? (fun q => decide (q.1 = (b, g))) = some q → 2 ≤ q.2.edges →
    Gives (.sampleRecordReady b g pc ctx pasid) s fun t => t.vg.pawn.captures = dropKey s.vg.pawn.captures (b, g) ∧
      t.vg.c.reg 0x2912 9 = (s.vg.c.bump 0x2912 9).reg 0x2912 9) ∧
  (∀ (s : State) (b g : Nat) (q : (Nat × Nat) × Capture), s.vg.bnd.inReset = false →
    s.vg.pawn.captures.find? (fun q => decide (q.1 = (b, g))) = some q → 4097 ≤ q.2.edges →
    Gives (.sampleCaptureTimeout b g) s fun t => t.vg.pawn.captures = dropKey s.vg.pawn.captures (b, g) ∧
      t.vg.c.reg 0x2912 9 = (s.vg.c.bump 0x2912 9).reg 0x2912 9) ∧
  (∀ (s : State), s.vg.bnd.inReset = false → s.vg.c.stopped = false →
    Gives .latchTick s fun t => t.vg.pawn.lastLatch = some s.vg.nextTick ∧ t.vg.c.now = max s.vg.c.now s.vg.nextTick ∧
      t.vg.c.reg 0x2901 0 = (s.vg.c.bump 0x2901 0).reg 0x2901 0 ∧
      ∀ cell k, cell ∈ s.vg.c.allCells → cell < 256 → k < 8 →
        t.vg.c.reg (ctrIdx cell k) 4 = s.vg.c.reg (ctrIdx cell k) 1) ∧
  (∀ (s : State) (S p : Nat), s.vg.bnd.inReset = false → s.vg.pawn.periodNext = some (S, p) →
    Gives .latchPeriodChange s fun t => t.vg.pawn.period = p ∧ t.vg.pawn.periodNext = none ∧
      t.vg.c.now = max s.vg.c.now S ∧ ∀ w q, (w, q) ∈ t.vg.pawn.windows → q = windowReset) ∧
  (∀ (s : State) (w : Nat) (q : Window), s.vg.bnd.inReset = false → w < 16 → lookupD windowReset s.vg.pawn.windows w = q →
    q.opened = true → s.vg.c.reg (0x2B00 + w) 2 % 2 ^ 10 + 1 ≤ q.ticks →
    Gives (.bwWindowClose w) s fun t => t.vg.c.reg (0x2B00 + w) 3 = q.total ∧
      t.vg.c.reg (0x2B00 + w) 4 = max q.total (s.vg.c.reg (0x2B00 + w) 4) ∧
      lookupD windowReset t.vg.pawn.windows w = { q with total := 0, ticks := 0 })

/-- A counting command acts on every counter it names, and counter faults are contained
At its instant the earliest pending command leaves the queue, and on every cell that it names each masked counter is started from 0, stopped, restarted from 0, or has OVF cleared, by its action. A parity error zeroes the cell and marks it LOST; a save-store error marks the island; an image-buffer error drops the newest image held. -/
def Obligations.CountingCommandsAndFaultsTakeEffect : Prop :=
  (∀ (s : State) (k : TimedCmd), s.vg.bnd.inReset = false → earliest s.vg.pawn.cmds = some k → k.action = 1 →
    (∀ cell ∈ s.vg.c.allCells, cell < 256) →
    Gives .pawnCmdStart s fun t => t.vg.pawn.cmds = s.vg.pawn.cmds.erase k ∧
      ∀ cell i, cell ∈ s.vg.c.allCells → s.vg.c.cmdHits k.target cell = true → i < 8 → bitOf k.mask i = true →
        t.vg.c.reg (ctrIdx cell i) 1 = 0 ∧ bitOf (t.vg.c.reg (ctrIdx cell i) 2) 15 = true) ∧
  (∀ (s : State) (k : TimedCmd), s.vg.bnd.inReset = false → earliest s.vg.pawn.cmds = some k → k.action = 2 →
    (∀ cell ∈ s.vg.c.allCells, cell < 256) →
    Gives .pawnCmdStop s fun t => t.vg.pawn.cmds = s.vg.pawn.cmds.erase k ∧
      ∀ cell i, cell ∈ s.vg.c.allCells → s.vg.c.cmdHits k.target cell = true → i < 8 → bitOf k.mask i = true →
        bitOf (t.vg.c.reg (ctrIdx cell i) 2) 15 = false) ∧
  (∀ (s : State) (k : TimedCmd), s.vg.bnd.inReset = false → earliest s.vg.pawn.cmds = some k → k.action = 3 →
    (∀ cell ∈ s.vg.c.allCells, cell < 256) →
    Gives .pawnCmdRestart s fun t => t.vg.pawn.cmds = s.vg.pawn.cmds.erase k ∧
      ∀ cell i, cell ∈ s.vg.c.allCells → s.vg.c.cmdHits k.target cell = true → i < 8 → bitOf k.mask i = true →
        t.vg.c.reg (ctrIdx cell i) 1 = 0) ∧
  (∀ (s : State) (k : TimedCmd), s.vg.bnd.inReset = false → earliest s.vg.pawn.cmds = some k → k.action = 4 →
    (∀ cell ∈ s.vg.c.allCells, cell < 256) →
    Gives .pawnCmdClearOvf s fun t => t.vg.pawn.cmds = s.vg.pawn.cmds.erase k ∧
      ∀ cell i, cell ∈ s.vg.c.allCells → s.vg.c.cmdHits k.target cell = true → i < 8 → bitOf k.mask i = true →
        bitOf (t.vg.c.reg (ctrIdx cell i) 2) 10 = false) ∧
  (∀ (s : State) (cell : Nat), s.vg.bnd.inReset = false → (s.vg.c.cellBlock cell).isSome = true → cell < 256 →
    Gives (.counterParityError cell) s fun t => (t.vg.cell cell).lostAgg = true ∧ (t.vg.cell cell).lostHost = true ∧
      ∀ k, k < 8 → t.vg.c.reg (ctrIdx cell k) 1 = 0) ∧
  (∀ (s : State) (i : Nat), s.vg.bnd.inReset = false →
    Gives (.saveStoreEccError i) s fun t => (t.vg.island i).eccBad = true) ∧
  (∀ (s : State) (serial : Nat), s.vg.bnd.inReset = false → s.vg.pawn.agg.held.getLast? = some serial →
    Gives (.imageBufferParityError false) s fun t => serial ∉ t.vg.pawn.agg.held ∧ t.vg.pawn.agg.gap = true) ∧
  (∀ (s : State) (u : RingUnit), s.vg.bnd.inReset = false → (s.vg.ring 0).waiting.getLast? = some u →
    Gives (.imageBufferParityError true) s fun t => (t.vg.ring 0).waiting = (s.vg.ring 0).waiting.dropLast)

/-- Reading a ring, and the answers to its writes, do what their rules say
An admitted RPTR between the old RPTR and WPTR is stored; a unit whose writes are all answered advances WPTR by its length and has its mirror written; the answered mirror write is no longer outstanding. -/
def Obligations.RingsTakeEffect : Prop :=
  (∀ (s : State) (r : Req) (k v : Nat), k < 6 → s.admits .vangeg r (ringIdx k) (ringSub k 6) v = true →
    s.vg.ringReg k 6 ≤ v → v ≤ s.vg.ringReg k 5 →
    Gives (.ringRptrWrite r k v) s fun t => t.vg.ringReg k 6 = v ∧ t.vg.ringReg k 5 = s.vg.ringReg k 5) ∧
  (∀ (s : State) (k : Nat) (u : RingUnit), k < 6 → s.vg.bnd.inReset = false → (s.vg.ring k).active = some u → u.issued = true →
    u.failed = false → s.vg.c.bud.waiting.any (fun w => decide (w.source = 100 + k)) = false → s.vg.unitBusy k u.id = false →
    Gives (.ringWritesAnswered k) s fun t => t.vg.ringReg k 5 = s.vg.ringReg k 5 + u.payload.length ∧
      (t.vg.ring k).mirrorOut = true) ∧
  (∀ (s : State) (k : Nat), k < 6 → s.vg.bnd.inReset = false → (s.vg.ring k).mirrorOut = true →
    s.vg.bnd.writes.any (fun w => decide (w.use = .mirror k)) = false →
    s.vg.bnd.writeQueue.any (fun w => decide (w.use = .mirror k)) = false →
    Gives (.mirrorWriteAnswered k) s fun t => (t.vg.ring k).mirrorOut = false)

/-- Trace records, overflow, commits and trace faults do what their rules say
The first retire record of a running source that may be traced gives SYNC and TIMESTAMP and leaves its operations in the run; a record of a stopped source leaves the packets alone; a front end in OVERFLOW with 256 bytes free closes the run, tells what was lost and runs again; the assembler appends the next packet where the partition has room; a parity error in a front end leaves one OVERFLOW packet and asks for SYNC; an uncorrectable word marks its chunk bad. -/
def Obligations.TraceTakesEffect : Prop :=
  (∀ (s : State) (src b ctx pasid : Nat) (r : RetRec), src < 16 → s.vg.bnd.inReset = false → s.vg.c.srcBlock src = some b →
    s.vg.c.pin (.testIsoAck b) = 0 → s.vg.c.srcState src = 1 → s.vg.excluded src ctx pasid = false →
    (s.vg.src src).syncDue = true → (s.vg.src src).run = 0 → (s.vg.src src).last = none → bitOf (s.vg.c.srcCtrl src) 1 = true →
    r.disc = false → r.count < 65536 → packetBytes (s.vg.src src).front + 24 ≤ 2048 →
    Gives (.traceRecord src (some r) none ctx pasid) s fun t =>
      (t.vg.src src).front = (s.vg.src src).front ++ [pktSync r.pc ctx pasid, pktStamp 1 (s.vg.srcStamp src)] ∧
      (t.vg.src src).run = r.count ∧ (t.vg.src src).syncDue = false ∧ (t.vg.src src).last = some (ctx, pasid) ∧
      (t.vg.src src).retired = some (ctx, pasid) ∧ t.vg.c.srcState src = 1) ∧
  (∀ (s : State) (src b ctx pasid : Nat) (r : Option RetRec) (d : Option DaRec), src < 16 → s.vg.bnd.inReset = false →
    s.vg.c.srcBlock src = some b → s.vg.c.pin (.testIsoAck b) = 0 → s.vg.c.srcState src = 0 →
    Gives (.traceRecord src r d ctx pasid) s fun t => (t.vg.src src).front = (s.vg.src src).front ∧
      (t.vg.src src).run = (s.vg.src src).run ∧ t.vg.c.srcState src = 0 ∧
      (t.vg.src src).retired = (if r.isSome then some (ctx, pasid) else (s.vg.src src).retired)) ∧
  (∀ (s : State) (src : Nat), src < 16 → s.vg.bnd.inReset = false → s.vg.c.srcState src = 3 →
    packetBytes (s.vg.src src).front + 256 ≤ 2048 →
    Gives (.traceFrontOverflowExit src) s fun t => t.vg.c.srcState src = 1 ∧
      (t.vg.src src).front = (s.vg.src src).front ++ pktRun (s.vg.src src).run ++
        [pktOverflow 1 (s.vg.src src).lostBytes (s.vg.src src).lostOps false] ∧
      (t.vg.src src).run = 0 ∧ (t.vg.src src).lostBytes = 0 ∧ (t.vg.src src).lostOps = 0 ∧ (t.vg.src src).syncDue = true) ∧
  (∀ (s : State) (src : Nat) (k : Packet) (rest : List Packet), src < 16 → s.vg.bnd.inReset = false →
    (s.vg.src src).drainLost = 0 → (s.vg.src src).front = k :: rest → s.vg.partitionRoom src k.bytes.length = true →
    (s.vg.src src).body.length + k.bytes.length < 56 →
    Gives (.tracePacketCommit src) s fun t => (t.vg.src src).front = rest ∧
      (t.vg.src src).body = (s.vg.src src).body ++ k.bytes ∧ (t.vg.src src).chunks = (s.vg.src src).chunks) ∧
  (∀ (s : State) (src : Nat), src < 16 → s.vg.bnd.inReset = false →
    Gives (.traceFeParityError src) s fun t =>
      (t.vg.src src).front = [pktOverflow 4 (packetBytes (s.vg.src src).front) 0 true] ∧ (t.vg.src src).syncDue = true ∧
      t.vg.c.reg (0x3100 + src) 9 = (s.vg.c.bump (0x3100 + src) 9).reg (0x3100 + src) 9) ∧
  (∀ (s : State) (src seq : Nat), s.vg.bnd.inReset = false →
    Gives (.traceBufferEccError src seq) s fun t =>
      (t.vg.src src).chunks = (s.vg.src src).chunks.map fun k => if k.seq = seq then { k with bad := true } else k)

/-- Trace commands, configuration and the chunk window do what their rules say
An admitted comparator, control word, owner or share of a stopped source is stored without its reserved bits; a command 2 us ahead on sources that may take it is queued; at its instant START runs every stopped source whose island is On, with SYNC due, and STOP stops every source it names; a read of the chunk window latches the next word. -/
def Obligations.TraceWritesTakeEffect : Prop :=
  (∀ (s : State) (r : Req) (k sub v : Nat), k < 8 → s.admits .vangeg r (0x3010 + k) sub v = true →
    (sub = 1 ∧ v ≤ s.vg.c.reg (0x3010 + k) 2) ∨ (sub = 2 ∧ s.vg.c.reg (0x3010 + k) 1 ≤ v) →
    Gives (.trcCmpWrite r k sub v) s (s.on .vangeg fun c => c.setReg (0x3010 + k) sub v).Near) ∧
  (∀ (s : State) (r : Req) (k v : Nat), k < 8 → s.admits .vangeg r (0x3010 + k) 3 v = true → bits v 3 2 ≠ 0 →
    Gives (.trcCmpWrite r k 3 v) s
      (s.on .vangeg fun c => c.setReg (0x3010 + k) 3 (v / 2 ^ 16 * 2 ^ 16 + v % 16)).Near) ∧
  (∀ (s : State) (r : Req) (k v : Nat), k < 16 → s.admits .vangeg r (0x3100 + k) 1 v = true → s.vg.c.srcState k = 0 →
    10 ≤ bits v 31 28 → bits v 27 23 = 0 ∨ (10 ≤ bits v 27 23 ∧ bits v 27 23 ≤ 24) → bits v 15 14 ≠ 3 →
    Gives (.trcSrcConfigWrite r k 1 v) s
      (s.on .vangeg fun c => c.setReg (0x3100 + k) 1 (bits v 31 23 * 2 ^ 23 + bits v 15 10 * 2 ^ 10 + bits v 2 1 * 2)).Near) ∧
  (∀ (s : State) (r : Req) (k v : Nat), k < 16 → s.admits .vangeg r (0x3100 + k) 2 v = true → s.vg.c.srcState k = 0 →
    v ≤ 63 ∨ v = 0xFF →
    Gives (.trcSrcConfigWrite r k 2 v) s (s.on .vangeg fun c => c.setReg (0x3100 + k) 2 v).Near) ∧
  (∀ (s : State) (r : Req) (k v : Nat), k < 16 → s.admits .vangeg r (0x3100 + k) 3 v = true → s.vg.c.srcState k = 0 →
    ((List.range 16).map (fun j => if j = k then v else s.vg.c.reg (0x3100 + j) 3)).sum ≤ 256 →
    Gives (.trcSrcConfigWrite r k 3 v) s (s.on .vangeg fun c => c.setReg (0x3100 + k) 3 v).Near) ∧
  (∀ (s : State) (r : Req) (v : Nat), s.admits .vangeg r 0x3001 3 v = true → r.priv ≤ 2 →
    s.vg.c.now + usT 2 ≤ s.vg.c.timeOf v → s.vg.c.reg 0x3001 1 = 1 ∨ s.vg.c.reg 0x3001 1 = 2 → s.vg.c.reg 0x3001 2 ≠ 0 →
    (∀ k ∈ maskSrcs (s.vg.c.reg 0x3001 2), (s.vg.c.srcBlock k).isSome = true ∧
      s.vg.srcRefuses (s.vg.c.reg 0x3001 1) k = false) → s.vg.trc.cmds.length < 8 →
    Gives (.trcCmdSubmit r v) s fun t => t.vg.c.reg 0x3001 4 = 1 ∧
      t.vg.trc.cmds = s.vg.trc.cmds ++ [{ action := s.vg.c.reg 0x3001 1, target := 0, mask := s.vg.c.reg 0x3001 2,
                                          at_ := s.vg.c.timeOf v }]) ∧
  (∀ (s : State) (k : TimedCmd), s.vg.bnd.inReset = false → earliest s.vg.trc.cmds = some k → k.action = 1 →
    Gives .trcStartEdge s fun t => t.vg.trc.cmds = s.vg.trc.cmds.erase k ∧ t.vg.c.now = max s.vg.c.now k.at_ ∧
      ∀ j b, j ∈ maskSrcs k.mask → s.vg.c.srcState j = 0 → s.vg.c.srcBlock j = some b →
        s.vg.c.islandState (s.vg.c.blockIsland b) = 0 → t.vg.c.srcState j = 1 ∧ (t.vg.src j).syncDue = true) ∧
  (∀ (s : State) (k : TimedCmd), s.vg.bnd.inReset = false → earliest s.vg.trc.cmds = some k → k.action = 2 →
    Gives .trcStopEdge s fun t => t.vg.trc.cmds = s.vg.trc.cmds.erase k ∧
      ∀ j ∈ maskSrcs k.mask, t.vg.c.srcState j = 0) ∧
  (∀ (s : State) (r : Req) (k w : Nat) (bytes : List Nat), k < 16 → s.vg.bnd.inReset = false →
    s.vg.c.gate r (0x3100 + k) 12 false (s.vg.sliceAdmits r (0x3100 + k) 12) = none → s.vg.c.srcMode k ≠ 0 →
    (s.vg.src k).latch = some (bytes, w) → w < 7 →
    Gives (.trcBufRead r k) s fun t => (t.vg.src k).latch = some (bytes, w + 1) ∧
      t.vg.c.reg 0x1032 1 = (s.vg.c.bump 0x1032 1).reg 0x1032 1)

/-- A port moves between its states as Table 6-5 says
Word lock takes TRAINING to IDENT and latches the credits to offer; an IDENT that fits takes IDENT to TIME and tells the partner's address, and a die learns from it that its tray is redundant; 8 TIME exchanges on every trained lane take TIME to ACTIVE, or to DEGRADED with a lane missing, at a board-cycle start; 250 ms without progress, and a swapped lane, fail the port with their cause; FAILED expires to DOWN; disabling, loss of light and an engine fault take a port out of service, and enabling takes DISABLED to DOWN. -/
def Obligations.PortStatesTakeEffect : Prop :=
  (∀ (s : State) (p : Part) (port l : Nat), s.runs p = true → port < 48 → l < 2 → ((s.com p).port port).lanes.length = 2 →
    (s.com p).portState port = 1 →
    Gives (.trainingLock p port l) s fun t => (t.com p).portState port = 2 ∧ (((t.com p).port port).lane l).locked = true ∧
      ∀ k, k < 8 → lookupD 0 ((t.com p).port port).granted k = (s.com p).reg 0x130F (k + 1)) ∧
  (∀ (s : State) (p : Part) (port : Nat) (i : Ident), s.runs p = true → port < 48 → (s.com p).portState port = 2 →
    (s.com p).identFits port i = true → i.logical ≠ 0xFFFFFFFF →
    p = .shopostra ∨ bitOf i.flags 1 = decide ((s.com p).portCount = 2) → ∀ l, i.lane = (s.com p).laneNumber port l →
    Gives (.identRx p port l i) s fun t => (t.com p).portState port = 3 ∧
      (t.com p).reg 0x1312 (port + 1) = i.phys ∧ i.logical ∈ (t.com p).bindingSet port) ∧
  (∀ (s : State) (i : Ident), s.runs .vangeg = true → s.vg.c.portCount = 1 → s.vg.c.portState 0 = 2 →
    s.vg.c.identFits 0 i = true → bitOf i.flags 1 = true → i.lane < 2 →
    Gives (.identRx .vangeg 0 i.lane i) s fun t => t.vg.c.portCount = 2 ∧ t.vg.c.portState i.lane = 3 ∧
      t.vg.c.reg 0x1312 (i.lane + 1) = i.phys) ∧
  (∀ (s : State) (p : Part) (port l : Nat) (i : Ident), s.runs p = true → port < 48 → (s.com p).portState port = 2 →
    i.lane ≠ (s.com p).laneNumber port l →
    Gives (.identRx p port l i) s fun t => (t.com p).portState port = 6 ∧ (t.com p).reg 0x1302 (port + 1) = 2) ∧
  (∀ (s : State) (p : Part) (port serial : Nat), s.runs p = true → port < 48 → (s.com p).portState port = 3 →
    (let c := s.com p
     let trained := (c.lanesOf port).filter fun l => ((c.port port).lane l).locked
     let lane := fun l => match p with | .shopostra => 2 * port + l | .vangeg => if c.portCount = 2 then port else l
     trained ≠ [] → (∀ l ∈ trained, 8 ≤ (c.exchange (lane l)).trained) →
     Gives (.portTimeComplete p port serial) s fun t =>
       (t.com p).portState port = (if trained.length = (c.lanesOf port).length then 4 else 5) ∧
       isCycleStart (t.com p).now = true)) ∧
  (∀ (s : State) (p : Part) (port : Nat), s.runs p = true → port < 48 → 1 ≤ (s.com p).portState port → (s.com p).portState port ≤ 3 →
    Gives (.trainingTimeout p port) s fun t => (t.com p).portState port = 6 ∧ (t.com p).reg 0x1302 (port + 1) = 1 ∧
      (t.com p).now = max (s.com p).now (((s.com p).port port).since + msT 250)) ∧
  (∀ (s : State) (p : Part) (port : Nat), s.runs p = true → port < 48 → (s.com p).portState port = 6 →
    Gives (.portFailedExpiry p port) s fun t => (t.com p).portState port = 0 ∧
      (t.com p).now = max (s.com p).now (((s.com p).port port).since + secT 1)) ∧
  (∀ (s : State) (p : Part) (port : Nat), s.runs p = true → port < 48 → (s.com p).portState port ≠ 7 →
    Gives (.portDown p port) s fun t => (t.com p).portState port = 0 ∧
      (t.com p).port port = { portReset with ident := ((s.com p).port port).ident, since := (s.com p).now }) ∧
  (∀ (s : State) (p : Part) (r : Req) (port : Nat), port < 48 → s.admits p r 0x1301 (port + 1) 0 = true →
    Gives (.portEnableWrite p r port 0) s fun t => (t.com p).portState port = 7 ∧ (t.com p).reg 0x1301 (port + 1) = 0) ∧
  (∀ (s : State) (p : Part) (r : Req) (port : Nat), port < 48 → s.admits p r 0x1301 (port + 1) 1 = true →
    (s.com p).portState port = 7 →
    Gives (.portEnableWrite p r port 1) s fun t => (t.com p).portState port = 0 ∧ (t.com p).reg 0x1301 (port + 1) = 1) ∧
  (∀ (s : State) (input state : Nat), s.sx.runs = true → input < 2 → s.sx.c.reg 0x1313 (input + 1) ≠ state →
    laserLit (s.sx.c.reg 0x1313 (2 - input)) = true →
    Gives (.laserInputChange input state) s (s.on .shopostra fun c => c.setReg 0x1313 (input + 1) state).Near) ∧
  (∀ (s : State) (input state : Nat), s.sx.runs = true → input < 2 → s.sx.c.reg 0x1313 (input + 1) ≠ state →
    laserLit state = false → laserLit (s.sx.c.reg 0x1313 (2 - input)) = false →
    Gives (.laserInputChange input state) s fun t => t.sx.c.reg 0x1313 (input + 1) = state ∧
      ∀ port, port < 48 → t.sx.c.portState port = 0 ∨ t.sx.c.portState port = 7) ∧
  (∀ (s : State) (engine : Nat), s.sx.runs = true → engine < 8 →
    Gives (.engineFault engine) s fun t => ∀ i, i < 6 →
      t.sx.c.portState (6 * engine + i) = 0 ∨ t.sx.c.portState (6 * engine + i) = 7)

/-- Lane words, lane degradation and credit words do what their rules say
A LANE word gives the set agreed for the next cycle; 8 guard windows without one take the port DOWN; a lane that loses lock leaves the set and the port is DEGRADED; a retrained lane clean for 800 cycles is usable again; a credit word sets the freed count, and a CREDIT_SYNC word frees what the lane lost; queue credits that fit the ingress buffer are stored; IDENT is repeated every 8,000 cycles; a guard window sends a CREDIT_SYNC word per queue, a LANE and a CYCLE word. -/
def Obligations.LanesAndCreditsTakeEffect : Prop :=
  (∀ (s : State) (p : Part) (port : Nat) (u0 u1 : Bool), s.runs p = true →
    Gives (.laneWordRx p port u0 u1) s
      (s.on p fun c =>
        let q := c.port port
        let x := q.lane 0
        let y := q.lane 1
        c.setPort port { (q.setLane 0 { x with partners := u0, next := x.mine && u0, wordSeen := true }).setLane 1
          { y with partners := u1, next := y.mine && u1, wordSeen := true } with missing := 0 }).Near) ∧
  (∀ (s : State) (p : Part) (port : Nat), s.runs p = true → port < 48 → (s.com p).portUp port = true →
    8 ≤ ((s.com p).port port).missing →
    Gives (.laneWordMissing p port) s fun t => (t.com p).portState port = 0) ∧
  (∀ (s : State) (p : Part) (port l corr uncorr ser : Nat), s.runs p = true → port < 48 → l < 2 →
    ((s.com p).port port).lanes.length = 2 → (s.com p).lanesOf port = [0, 1] → (s.com p).portUp port = true →
    (((s.com p).port port).lane l).mine = true → (((s.com p).port port).lane (1 - l)).mine = true →
    Gives (.laneDegrade p port l true corr uncorr ser) s fun t => (t.com p).portState port = 5 ∧
      (((t.com p).port port).lane l).mine = false ∧ (((t.com p).port port).lane l).retraining = true ∧
      (((t.com p).port port).lane (1 - l)).mine = true ∧
      (t.com p).reg 0x1304 ((s.com p).laneSub port l) =
        ((s.com p).addReg 0x1304 ((s.com p).laneSub port l) corr).reg 0x1304 ((s.com p).laneSub port l)) ∧
  (∀ (s : State) (p : Part) (port l : Nat), s.runs p = true → l < 2 → ((s.com p).port port).lanes.length = 2 →
    (s.com p).portUp port = true → (((s.com p).port port).lane l).retraining = true →
    (((s.com p).port port).lane l).locked = true → 800 ≤ (((s.com p).port port).lane l).cleanRun →
    Gives (.laneRestore p port l) s fun t => (((t.com p).port port).lane l).mine = true ∧
      (((t.com p).port port).lane l).retraining = false ∧
      (((t.com p).port port).lane l).next = (((s.com p).port port).lane l).partners) ∧
  (∀ (s : State) (p : Part) (port k cum : Nat), s.runs p = true →
    lookupD 0 ((s.com p).port port).freed k ≤ cum → cum ≤ lookupD 0 ((s.com p).port port).spent k →
    lookupD 0 ((s.com p).port port).spent k < 2 ^ 31 →
    Gives (.creditWordRx p port k cum) s
      (s.on p fun c => c.setPort port { c.port port with freed := putKey (c.port port).freed k cum }).Near) ∧
  (∀ (s : State) (p : Part) (port l k cum : Nat), s.runs p = true →
    lookupD 0 (((s.com p).port port).lane l).syncLast k ≤ cum → cum < 2 ^ 31 →
    lookupD 0 (((s.com p).port port).lane l).received k ≤ cum →
    Gives (.creditSyncRx p port l k cum) s
      (s.on p fun c =>
        let q := c.port port
        let x := q.lane l
        c.setPort port { q.setLane l { x with syncLast := putKey x.syncLast k cum, received := putKey x.received k cum } with
          mine := putKey q.mine k (lookupD 0 q.mine k + (cum - lookupD 0 x.received k)) }).Near) ∧
  (∀ (s : State) (p : Part) (r : Req) (k v : Nat), k < 8 → s.admits p r 0x130F (k + 1) v = true →
    ((List.range 8).map fun i => if i = k then v else (s.com p).reg 0x130F (i + 1)).sum ≤
      (match p with | .vangeg => 512 | .shopostra => 2048) →
    Gives (.portCreditsWrite p r k v) s (s.on p fun c => c.setReg 0x130F (k + 1) v).Near) ∧
  (∀ (s : State) (p : Part) (port : Nat), s.runs p = true → (s.com p).portUp port = true →
    8000 ≤ ((s.com p).port port).identCycles →
    Gives (.identPeriodicSend p port) s fun t =>
      (s.on p fun c => c.setPort port { c.port port with identCycles := 0 }).Near t ∧
      ∀ l ∈ (s.com p).lanesOf port, (s.com p).laneUsable port l = true →
        .record (.lane port l) 0xFFFF ((s.com p).identFields port l) ∈ (t.com p).out) ∧
  (∀ (s : State) (p : Part) (port l : Nat), s.runs p = true →
    Gives (.guardWindow p port l 0) s fun t => s.Near t ∧
      .word (.lane port l) 0x87 ((cycleNo (s.com p).now + 1) % 8000) ∈ (t.com p).out ∧
      .word (.lane port l) 0x33 (b2n (((s.com p).port port).lane 0).mine + 2 * b2n (((s.com p).port port).lane 1).mine) ∈
        (t.com p).out ∧
      ∀ k, k < 8 → .word (.lane port l) 0x2D (k * 2 ^ 48 + lookupD 0 (((s.com p).port port).lane l).sent k % 2 ^ 32) ∈
        (t.com p).out)

/-- A frame in sequence is delivered, a gap is skipped after 1 us, and a slot sends what the schedule gives it
A frame that passes its link checks and is the next of its queue is taken from the window, its credit freed, and its content acts on the state as the rules of its payload say; one whose header check fails is discarded and counted; 1 us after a later frame the missing ones are counted and the held frame is delivered; a slot in which no queue has a frame returns every changed freed count in CREDIT words and sends IDLE words, and one with an eligible strict queue sends that queue's next frame. -/
def Obligations.FramesTakeEffect : Prop :=
  (∀ (s : State) (p : Part) (port l : Nat) (f : Frame) (b : CtlBody), s.runs p = true → port < 48 →
    isHeartbeat (.control b) = false → (s.com p).portUp port = true → (s.com p).laneUsable port l = true →
    (s.com p).flag.images = [] → f.fecOk = true → f.hchkOk = true → f.cls = 0 → 1 ≤ f.len → f.len ≤ 236 →
    f.credit = none → ((s.com p).port port).held = [] → 0 < ((s.com p).port port).outstanding f.queue → f.lseq < 256 → lookupD 0 ((s.com p).port port).lseq f.queue = f.lseq →
    Gives (.controlFrameRx p port l f b) s fun t => ∃ s1 q, (s.on p fun c => c.setPort port q).Near s1 ∧
      lookupD 0 q.lseq f.queue = (f.lseq + 1) % 256 ∧
      lookupD 0 q.mine f.queue = lookupD 0 ((s.com p).port port).mine f.queue + 1 ∧
      controlFrame p port l { f with body := .control b } b s1 = .next t) ∧
  (∀ (s : State) (p : Part) (port l : Nat) (f : Frame) (b : List Nat), s.runs p = true → port < 48 →
    (s.com p).portUp port = true → (s.com p).laneUsable port l = true → (s.com p).flag.images = [] →
    f.fecOk = true → f.hchkOk = true → f.cls = 1 → 1 ≤ f.len → f.len ≤ 240 →
    f.credit = none → ((s.com p).port port).held = [] → 0 < ((s.com p).port port).outstanding f.queue → f.lseq < 256 → lookupD 0 ((s.com p).port port).lseq f.queue = f.lseq →
    Gives (.dataFrameRx p port l f b) s fun t => ∃ s1 q, (s.on p fun c => c.setPort port q).Near s1 ∧
      lookupD 0 q.lseq f.queue = (f.lseq + 1) % 256 ∧
      lookupD 0 q.mine f.queue = lookupD 0 ((s.com p).port port).mine f.queue + 1 ∧
      onPart p (Vangeg.dataFrame port l { f with body := .data b })
        (Shopostra.dataFrame port l { f with body := .data b } (b.take f.len)) s1 = .next t) ∧
  (∀ (s : State) (p : Part) (port l : Nat) (f : Frame) (b : List Nat), s.runs p = true → port < 48 →
    (s.com p).portUp port = true → (s.com p).laneUsable port l = true → (s.com p).flag.images = [] → f.fecOk = true →
    f.hchkOk = false →
    Gives (.dataFrameRx p port l f b) s fun t =>
      (t.com p).reg 0x1309 (port + 1) = ((s.com p).bump 0x1309 (port + 1)).reg 0x1309 (port + 1) ∧
      (t.com p).reg 0x1310 3 = ((s.com p).bump 0x1310 3).reg 0x1310 3) ∧
  (∀ (s : State) (p : Part) (port n : Nat) (f : Frame) (at_ : Ticks), s.runs p = true → port < 48 →
    ((s.com p).port port).held = [(f, at_)] → f.lseq < 256 → lookupD 0 ((s.com p).port port).lseq f.queue = n → n < 256 →
    Gives (.reorderGapTimeout p port f.queue) s fun t => ∃ s1 q,
      (s.on p fun c => ((c.arrive (at_ + usT 1)).setPort port q).addReg 0x130A (port + 1) ((f.lseq + 256 - n) % 256)).Near s1 ∧
      q.held = [] ∧ lookupD 0 q.lseq f.queue = (f.lseq + 1) % 256 ∧ t = deliver p port 0 s1 f) ∧
  (∀ (s : State) (p : Part) (port l slot : Nat), s.runs p = true → (s.com p).portUp port = true →
    (s.com p).laneUsable port l = true → p = .vangeg ∨ isParentPort port = true →
    (∀ q, q < 8 → lookupD [] (s.com p).bud.queues (port, q) = []) →
    Gives (.slotSchedule p port l slot) s fun t =>
      (s.on p fun c => (c.arrive (cycleStart c.now + slot * 1024 * ns / 100)).setPort port
        { c.port port with returned := (c.port port).mine }).Near t ∧
      .word (.lane port l) 0x00 0 ∈ (t.com p).out ∧
      ∀ k, k < 8 → lookupD 0 ((s.com p).port port).mine k ≠ lookupD 0 ((s.com p).port port).returned k →
        .word (.lane port l) 0x1E (k * 2 ^ 48 + lookupD 0 ((s.com p).port port).mine k % 2 ^ 32) ∈ (t.com p).out) ∧
  (∀ (s : State) (p : Part) (port l slot q : Nat) (c : Common p), s.runs p = true → (s.com p).portUp port = true →
    (s.com p).laneUsable port l = true → p = .vangeg ∨ isParentPort port = true →
    c = (s.com p).arrive (cycleStart (s.com p).now + slot * 1024 * ns / 100) →
    [0, 1, 2].find? (fun k => c.eligible port l k (entryAt (c.operList port) slot)) = some q →
    Gives (.slotSchedule p port l slot) s fun t =>
      lookupD 0 ((t.com p).port port).spent q = lookupD 0 ((s.com p).port port).spent q + 1 ∧
      .word (.lane port l) 0x100 (frameWord q (lookupD 0 ((s.com p).port port).lseqOut q) ((s.com p).port port).creditField) ∈
        (t.com p).out)

/-- Units, amounts, shapes and gate lists do what their rules say
A unit whose cost the levels cover starts and its frames are ready in its queue; one that they do not cover yet waits where its class waits; a waiting unit that fits starts when it is retried. An admitted pool that keeps the reservations and a rate are stored, and the old figures stay in effect in this cycle; a list switch is accepted, cancelled, or made at its instant; parity errors exhaust a class, and mark a list for replacement. -/
def Obligations.BudgetsTakeEffect : Prop :=
  (∀ (s : State) (p : Part) (u : WorkUnit), s.runs p = true →
    u = { serial := 0, cls := u.cls, slice := u.slice, source := u.source, port := u.port, link := u.link, hmw := u.hmw,
          intr := u.intr, iso := u.iso, queue := none, isData := decide (u.cls < 3), msgs := [], host := [] } →
    (s.com p).silent u.port = false → (∀ r, r < 4 → (s.com p).neverFits u r = false ∧ (s.com p).covers u r = true) →
    (∀ w ∈ (s.com p).bud.waiting, w.cls ≠ u.cls ∨ w.source ≠ u.source) → u.link ≠ 0 →
    Gives (.unitReady p u.cls u.slice u.source u.port u.link u.hmw u.intr u.iso) s fun t => s.Near t ∧
      (∀ q, q = (s.com p).unitQueue u → ∃ m ∈ lookupD [] (t.com p).bud.queues (u.port, q), m.frames = u.link ∧ m.sent = 0 ∧
        m.serial = (s.com p).ctl.serial) ∧
      (t.com p).bud.waiting = (s.com p).bud.waiting) ∧
  (∀ (s : State) (p : Part) (u : WorkUnit), s.runs p = true →
    u = { serial := 0, cls := u.cls, slice := u.slice, source := u.source, port := u.port, link := u.link, hmw := u.hmw,
          intr := u.intr, iso := u.iso, queue := none, isData := decide (u.cls < 3), msgs := [], host := [] } →
    (s.com p).silent u.port = false → (∀ r, r < 4 → (s.com p).neverFits u r = false) → (s.com p).covers u 0 = false →
    (s.com p).drops u.cls = false →
    Gives (.unitReady p u.cls u.slice u.source u.port u.link u.hmw u.intr u.iso) s fun t => s.Near t ∧
      (t.com p).bud.waiting = (s.com p).bud.waiting ++ [{ u with serial := (s.com p).ctl.serial }]) ∧
  (∀ (s : State) (p : Part) (u : WorkUnit), s.runs p = true → (s.com p).bud.waiting = [u] →
    (∀ r, r < 4 → (s.com p).neverFits u r = false ∧ (s.com p).covers u r = true) →
    Gives (.unitRetry p) s fun t => s.Near t ∧ (t.com p).bud.waiting = []) ∧
  (∀ (s : State) (p : Part) (r : Req) (cls v : Nat), cls < 8 → s.admits p r (0x1410 + cls) 1 v = true →
    ((s.com p).setReg (0x1410 + cls) 1 v).reservationsFit = true →
    Gives (.budAmountWrite p r (0x1410 + cls) 1 v) s fun t => (t.com p).reg (0x1410 + cls) 1 = v ∧
      (t.com p).amount (0x1410 + cls) 1 = (s.com p).amount (0x1410 + cls) 1) ∧
  (∀ (s : State) (p : Part) (r : Req) (port q v : Nat), port < 48 → q < 8 → s.admits p r (0x1430 + port) (8 * q + 1) v = true →
    v ≤ 400000 →
    Gives (.budShapeWrite p r port (8 * q + 1) v) s fun t => (t.com p).reg (0x1430 + port) (8 * q + 1) = v ∧
      (t.com p).shape port q 1 = (s.com p).shape port q 1 ∧ (port, q) ∈ (t.com p).bud.shapeStaged) ∧
  (∀ (s : State) (p : Part) (r : Req) (port v : Nat), port < 48 → s.admits p r (0x14C0 + port) 2 v = true → v ≠ 0 →
    (s.com p).gclAbort port ((s.com p).timeOf v) ((s.com p).adminList port) = none →
    Gives (.gclSwitchSubmit p r port v) s fun t => (t.com p).reg (0x14C0 + port) 3 = 1 ∧
      (t.com p).bud.gclPending = (s.com p).bud.gclPending ++ [(port, (s.com p).timeOf v, (s.com p).adminList port)]) ∧
  (∀ (s : State) (p : Part) (r : Req) (port : Nat), port < 48 → s.admits p r (0x14C0 + port) 2 0 = true →
    (s.com p).bud.gclPending.any (fun g => decide (g.1 = port)) = true →
    Gives (.gclSwitchCancel p r port) s fun t => (t.com p).reg (0x14C0 + port) 3 = 3 ∧
      (t.com p).bud.gclPending = (s.com p).bud.gclPending.filter fun g => decide (g.1 ≠ port)) ∧
  (∀ (s : State) (p : Part) (port : Nat) (at_ : Ticks) (l : List Nat), s.runs p = true → port < 48 → l.length ≤ 64 →
    (s.com p).bud.gclPending.find? (fun g => decide (g.1 = port)) = some (port, at_, l) →
    Gives (.gclSwitch p port) s fun t => (t.com p).now = max (s.com p).now at_ ∧ (t.com p).operList port = l ∧
      (t.com p).reg (0x14C0 + port) 3 = 2 ∧ ∀ g ∈ (t.com p).bud.gclPending, g.1 ≠ port) ∧
  (∀ (s : State) (p : Part) (cls : Nat), s.runs p = true →
    Gives (.budgetParityError p cls) s fun t => cls ∈ (t.com p).bud.exhausted) ∧
  (∀ (s : State) (p : Part) (port : Nat), s.runs p = true →
    Gives (.gclParityError p port) s fun t => port ∈ (t.com p).bud.gclReset)

/-- A session is described, opened, prepared and admitted as its rules say
Descriptor words are stored and the cursor advances; an opened session takes the next number, its instants and the whole descriptor, and a refused one tells its code; a HEAD opens a record; ENTRY slices are kept until the last makes the descriptor whole; tag copies, RECEIPTs and ACKs are held; the deadline sends the ACK, with a refusal where a child is missing; T_d commits a session all of whose members acknowledged without refusal, and otherwise commits or cancels by the result. -/
def Obligations.SessionOpeningTakesEffect : Prop :=
  (∀ (s : State) (r : Req) (v : Nat), s.admits .shopostra r 0x4010 1 v = true → s.sx.fleet.actingApex = true →
    s.sx.c.reg 0x4010 2 < 65536 →
    Gives (.strmDescDataWrite r v) s
      (s.on .shopostra fun c => { c with strm := { c.strm with
        desc := putKey c.strm.desc (c.reg 0x4010 2 / 8) v } }.setReg 0x4010 2 (c.reg 0x4010 2 + 8)).Near) ∧
  (∀ (s : State) (r : Req) (k : Nat), s.admits .shopostra r 0x4011 1 1 = true → s.sx.fleet.actingApex = true →
    s.sx.c.isFenced = false → s.sx.c.reg 0x1012 0 = 3 → s.sx.openCode s.sx.writtenDesc = 0 → s.sx.c.freeRecord = some k →
    Gives (.sessionOpen r 1) s fun t =>
      let a := if s.sx.c.busy then usT 500 else usT 250
      t.sx.c.reg 0x4011 2 = s.sx.c.strm.next ∧ t.sx.c.reg 0x4011 3 = 0 ∧ t.sx.c.strm.next = s.sx.c.strm.next + 1 ∧
      t.sx.c.reg (0x4100 + k) 1 = s.sx.c.strm.next ∧ t.sx.c.sessionState k = 1 ∧
      t.sx.c.reg (0x4100 + k) 6 = leAt s.sx.writtenDesc 8 4 ∧
      (t.sx.c.session k).t0 = s.sx.c.now ∧ (t.sx.c.session k).tD = s.sx.c.now + 20 * a ∧
      (t.sx.c.session k).tAct = actInstant (s.sx.c.now + 20 * a) ∧ (t.sx.c.session k).desc = s.sx.writtenDesc ∧
      (t.sx.c.session k).held = true) ∧
  (∀ (s : State) (r : Req), s.admits .shopostra r 0x4011 1 1 = true → s.sx.fleet.actingApex = true →
    s.sx.c.isFenced = false → s.sx.openCode s.sx.writtenDesc ≠ 0 →
    Gives (.sessionOpen r 1) s
      (s.on .shopostra fun c => (c.setReg 0x4011 2 0).setReg 0x4011 3 (s.sx.openCode s.sx.writtenDesc)).Near) ∧
  (∀ (s : State) (p : Part) (b : List Nat) (busy : Bool) (k : Nat), s.runs p = true → leAt b 4 4 ≠ 0 →
    (p = .shopostra → s.sx.mismatched = false) → (s.com p).sessionSlot (leAt b 4 4) = none → (s.com p).freeRecord = some k →
    Gives (.sessionHeadRx p b busy) s
      (s.on p fun c => c.openRecord k (leAt b 4 4) 0 (headSession c c.depth busy b)).Near) ∧
  (∀ (s : State) (p : Part) (n i k : Nat) (b : List Nat), s.runs p = true → (s.com p).sessionSlot n = some k →
    (let q := (s.com p).session k
     let l := putKey q.slices i ((b ++ List.replicate 192 0).take 192)
     q.held = false → i < q.need →
     (l.length < q.need →
       Gives (.sessionEntryRx p n i b) s (s.on p fun c => c.setSession k { q with slices := l }).Near) ∧
     (q.need ≤ l.length →
       Gives (.sessionEntryRx p n i b) s fun t =>
         let all := (List.range q.need).flatMap fun j => lookupD [] l j
         ((t.com p).session k).held = true ∧ ((t.com p).session k).desc = all.take (descSize all) ∧
         (t.com p).reg (0x4100 + k) 6 = leAt (all.take (descSize all)) 8 4))) ∧
  (∀ (s : State) (n k : Nat) (tags : List (Nat × Nat)), s.sx.runs = true → s.sx.c.sessionSlot n = some k →
    (s.sx.c.session k).tags = [] → s.sx.c.sessionState k = 1 →
    ((∀ e ∈ tags, s.sx.tagFree e.1 = true ∧ (s.sx.entry e.1).epoch = e.2) → (s.sx.c.session k).held = false →
      Gives (.sessionTagCopyRx n tags) s
        (s.on .shopostra fun c => c.setSession k { c.session k with tags := tags.map Prod.fst }).Near) ∧
    ((∃ e ∈ tags, s.sx.tagFree e.1 = false ∨ (s.sx.entry e.1).epoch ≠ e.2) →
      Gives (.sessionTagCopyRx n tags) s fun t => t.sx.c.reg (0x4100 + k) 8 = 13 ∧
        t.sx.c.reg (0x4100 + k) 9 = s.sx.c.logical)) ∧
  (∀ (s : State) (port n k : Nat), s.sx.runs = true → s.sx.c.sessionSlot n = some k → port ∉ (s.sx.c.session k).receipts →
    Gives (.sessionReceiptRx port n) s
      (s.on .shopostra fun c => c.setSession k { c.session k with receipts := (c.session k).receipts ++ [port] }).Near) ∧
  (∀ (s : State) (n k : Nat), s.sx.runs = true → s.sx.c.sessionSlot n = some k → s.sx.fleet.active = false →
    (s.sx.c.session k).held = true → (s.sx.c.session k).resent = false →
    Gives (.prepareResendCheck n) s
      (s.on .shopostra fun c =>
        (c.childrenUp.filter fun p => decide (p ∉ (c.session k).receipts)).foldl (fun (a : Common _) _ => a.bump 0x4020 3)
          ((c.arrive ((c.session k).t0 + c.depth * (c.session k).h + usT 600)).setSession k
            { c.session k with resent := true })).Near) ∧
  (∀ (s : State) (port n k result dies positions refuser : Nat), s.sx.runs = true → s.sx.c.sessionSlot n = some k →
    (s.sx.c.session k).ackSent = false → s.sx.c.sessionState k = 1 →
    Gives (.sessionAckRx port n result dies positions refuser) s fun t =>
      let acks := putKey (s.sx.c.session k).acks port { dies := dies, positions := positions, result := result, refuser := refuser }
      (t.sx.c.session k).acks = acks ∧ t.sx.c.reg (0x4100 + k) 7 = (acks.map fun e => e.2.dies).sum) ∧
  (∀ (s : State) (n k : Nat), s.sx.runs = true → s.sx.c.sessionSlot n = some k → (s.sx.c.session k).ackSent = false →
    s.sx.c.sessionState k = 1 → s.sx.c.reg 0x1012 0 ≠ 3 →
    Gives (.sessionAckDeadline n) s fun t =>
      t.sx.c.now = max s.sx.c.now (s.sx.c.session k).deadline ∧ (t.sx.c.session k).ackSent = true ∧
      t.sx.c.reg (0x4100 + k) 7 = ((s.sx.c.session k).acks.map fun e => e.2.dies).sum ∧
      (s.sx.allAnswered k = false → t.sx.c.reg (0x4100 + k) 8 ≠ 0)) ∧
  (∀ (s : State) (n k : Nat), s.sx.runs = true → s.sx.c.sessionSlot n = some k → s.sx.decides = true →
    s.sx.c.sessionState k = 1 →
    Gives (.sessionDecide n) s fun t =>
      t.sx.c.now = max s.sx.c.now (s.sx.c.session k).tD ∧
      t.sx.c.reg (0x4100 + k) 7 = ((s.sx.c.session k).acks.map fun e => e.2.dies).sum ∧
      (t.sx.c.sessionState k = 2 ∧ t.sx.c.reg (0x4100 + k) 8 = 0 ∨ t.sx.c.sessionState k = 6 ∧ t.sx.c.reg (0x4100 + k) 8 ≠ 0) ∧
      ((s.sx.c.session k).held = true → (s.sx.c.session k).refusal.1 = 0 → s.sx.allAnswered k = true →
        (∀ e ∈ (s.sx.c.session k).acks, e.2.result = 0) →
        ((s.sx.c.session k).acks.map fun e => e.2.dies).sum = s.sx.c.reg (0x4100 + k) 6 →
        (((s.sx.onC fun c => c.arrive (c.session k).tD).setInputs k).firstFailure k false false false = 0) →
        t.sx.c.sessionState k = 2))

/-- A session is committed, cancelled, activated, orphaned and closed as its rules say
COMMIT takes a PREPARING session to COMMITTED, marked late when T_act has passed; CANCEL and an orphan end it CANCELLED with its entries and bindings freed; a QUERY of an unknown session is answered with CANCEL, of a committed one with COMMIT; the activation instant takes it to ACTIVE with its entries and slots, or with its object writes at a die; a CLOSE stores T_stop, and before activation cancels; an ended record expires 8,000 board cycles later. -/
def Obligations.SessionDecisionsTakeEffect : Prop :=
  (∀ (s : State) (p : Part) (n k : Nat), s.runs p = true → (s.com p).sessionSlot n = some k → (s.com p).sessionState k = 1 →
    Gives (.sessionCommitRx p n) s
      (s.on p fun c =>
        let q := c.session k
        let late := decide (q.tAct < c.now)
        (c.setSessionState k 2).setSession k
          { q with late := late, deadline := if late then cycleStart c.now + cycleT else q.tAct }).Near) ∧
  (∀ (s : State) (p : Part) (n k cause : Nat), s.runs p = true → (s.com p).sessionSlot n = some k →
    (s.com p).sessionState k = 1 ∨ (s.com p).sessionState k = 2 →
    Gives (.sessionCancelRx p n cause) s fun t =>
      (t.com p).sessionState k = 6 ∧ (t.com p).reg (0x4100 + k) 8 = cause ∧
      ((t.com p).session k).ended = some (s.com p).now ∧
      (p = .vangeg → t.vg.c.bindsOf n = []) ∧
      (p = .shopostra → ∀ tag ∈ s.sx.sessionTags n, (t.sx.entry tag).state = 0)) ∧
  (∀ (s : State) (port n : Nat), s.sx.runs = true → s.sx.c.speaks (.port port) = true →
    (s.sx.c.sessionSlot n = none →
      Gives (.sessionQueryRx port n) s fun t => s.Near t ∧ Msg.record (.port port) 6 (sessionBytes 9 0 n []) ∈ t.sx.c.out) ∧
    (∀ k, s.sx.c.sessionSlot n = some k → s.sx.c.sessionState k = 2 → (s.sx.c.session k).tStop = none →
      Gives (.sessionQueryRx port n) s fun t => s.Near t ∧ Msg.record (.port port) 5 (sessionBytes 0 0 n []) ∈ t.sx.c.out)) ∧
  (∀ (s : State) (n k : Nat), s.sx.runs = true → s.sx.c.sessionSlot n = some k → s.sx.c.sessionState k = 2 →
    Gives (.sessionActivate .shopostra n) s fun t =>
      let q := s.sx.c.session k
      t.sx.c.now = max s.sx.c.now (if q.late then q.deadline else q.tAct) ∧ t.sx.c.sessionState k = 3 ∧
      (q.late = true → t.sx.c.reg 0x4020 2 = (s.sx.c.bump 0x4020 2).reg 0x4020 2) ∧
      (∀ tag ∈ s.sx.sessionTags n, (t.sx.entry tag).state = 2) ∧
      (∀ sl ∈ s.sx.sessionSlots n, t.sx.c.reg (0x6100 + sl) 1 = 3)) ∧
  (∀ (s : State) (n k : Nat), s.vg.bnd.inReset = false → s.vg.c.sessionSlot n = some k → s.vg.c.sessionState k = 2 →
    (s.vg.c.session k).late = false →
    Gives (.sessionActivate .vangeg n) s fun t =>
      QuietV ((s.vg.onC fun c => (c.arrive (c.session k).tAct).setSessionState k 3).applyWrites n (dieWrites (s.vg.c.session k)))
        t.vg) ∧
  (∀ (s : State) (p : Part) (n k : Nat), s.runs p = true → (s.com p).sessionSlot n = some k → (s.com p).sessionState k = 1 →
    Gives (.sessionOrphanTimeout p n) s fun t =>
      (t.com p).now = max (s.com p).now (((s.com p).session k).tAct + msT 100) ∧ (t.com p).sessionState k = 6 ∧
      (t.com p).reg 0x4020 5 = ((s.com p).bump 0x4020 5).reg 0x4020 5 ∧
      (p = .vangeg → t.vg.c.bindsOf n = []) ∧
      (p = .shopostra → ∀ tag ∈ s.sx.sessionTags n, (t.sx.entry tag).state = 0)) ∧
  (∀ (s : State) (r : Req) (v k : Nat), s.admits .shopostra r 0x4012 2 v = true → s.sx.fleet.actingApex = true →
    s.sx.c.isFenced = false → isCycleStart (s.sx.c.timeOf v) = true → s.sx.c.now + usT 2000 ≤ s.sx.c.timeOf v →
    s.sx.c.sessionSlot (s.sx.c.reg 0x4012 1) = some k →
    (s.sx.c.sessionState k = 3 →
      Gives (.sessionClose r v) s
        (s.on .shopostra fun c => ((c.setReg 0x4012 2 (storedForm .time v)).setReg 0x4012 3 0).setStop k (c.timeOf v)).Near) ∧
    (s.sx.c.sessionState k = 1 →
      Gives (.sessionClose r v) s fun t => t.sx.c.reg 0x4012 3 = 0 ∧ t.sx.c.sessionState k = 6 ∧
        t.sx.c.reg (0x4100 + k) 8 = 12)) ∧
  (∀ (s : State) (p : Part) (n stop k : Nat), s.runs p = true → (s.com p).sessionSlot n = some k →
    ((s.com p).sessionState k = 2 ∨ (s.com p).sessionState k = 3 →
      Gives (.sessionCloseRx p n stop) s (s.on p fun c => c.setStop k (c.timeOf stop)).Near) ∧
    ((s.com p).sessionState k = 1 → (s.com p).timeOf stop ≤ (s.com p).now →
      Gives (.sessionCloseRx p n stop) s fun t => (t.com p).sessionState k = 6 ∧ (t.com p).reg (0x4100 + k) 8 = 12)) ∧
  (∀ (s : State) (p : Part) (n k : Nat) (t0 : Ticks), s.runs p = true → (s.com p).sessionSlot n = some k →
    ((s.com p).session k).ended = some t0 →
    Gives (.sessionRecordExpire p n) s (s.on p fun c => (c.arrive (t0 + 8000 * cycleT)).clearRecord k).Near)

/-- A closing session drains as its rules say
T_stop takes an ACTIVE session with entries to CLOSING and its entries to DRAINING, and at a die disables what it enabled, frees its bindings and closes its record; an END record, or its timeout, drains a port of an entry; a drained entry becomes FREE with the next EPOCH, at the standby when it is told; a child's DRAIN_DONE is held, and the last one closes the record of a position with no entry left. -/
def Obligations.SessionDrainTakesEffect : Prop :=
  (∀ (s : State) (n k : Nat) (stop : Ticks), s.sx.runs = true → s.sx.c.sessionSlot n = some k → s.sx.c.sessionState k = 3 →
    (s.sx.c.session k).tStop = some stop → s.sx.sessionTags n ≠ [] →
    Gives (.sessionStop .shopostra n) s fun t =>
      t.sx.c.now = max s.sx.c.now stop ∧ t.sx.c.sessionState k = 4 ∧
      (∀ tag ∈ s.sx.sessionTags n, (t.sx.entry tag).state = 3) ∧
      (∀ sl ∈ s.sx.sessionSlots n, t.sx.c.reg (0x6100 + sl) 1 = 4)) ∧
  (∀ (s : State) (n k : Nat) (stop : Ticks), s.vg.bnd.inReset = false → s.vg.c.sessionSlot n = some k →
    s.vg.c.sessionState k = 3 → (s.vg.c.session k).tStop = some stop →
    Gives (.sessionStop .vangeg n) s fun t =>
      t.vg.c.sessionState k = 5 ∧ t.vg.c.bindsOf n = [] ∧ (t.vg.c.session k).drainSent = true ∧
      (enables (dieWrites (s.vg.c.session k)) = [] → t.vg.c.now = max s.vg.c.now stop)) ∧
  (∀ (s : State) (port tag epoch : Nat), s.sx.runs = true →
    (s.sx.entry tag).state = 2 ∨ (s.sx.entry tag).state = 3 → (s.sx.entry tag).epoch % 256 = epoch →
    bitOf (s.sx.entry tag).inPorts port = true → port ∉ (s.sx.entry tag).ended →
    Gives (.endRecordRx port tag epoch) s fun t =>
      t.sx.entry tag = { s.sx.entry tag with
        frames := ((s.sx.entry tag).frames + 1) % 2 ^ 64, ended := (s.sx.entry tag).ended ++ [port] }) ∧
  (∀ (s : State) (port tag epoch : Nat), s.sx.runs = true → (s.sx.entry tag).state = 0 →
    Gives (.endRecordRx port tag epoch) s fun t => t.sx.table = s.sx.table ∧
      t.sx.c.reg 0x4020 6 = (s.sx.c.bump 0x4020 6).reg 0x4020 6) ∧
  (∀ (s : State) (tag port k : Nat) (stop : Ticks), s.sx.runs = true →
    s.sx.c.sessionSlot (s.sx.entry tag).session = some k → (s.sx.c.session k).tStop = some stop →
    (s.sx.entry tag).state = 3 → bitOf (s.sx.entry tag).inPorts port = true → port ∉ (s.sx.entry tag).ended →
    Gives (.drainTimeout tag port) s fun t =>
      t.sx.c.now = max s.sx.c.now (stop + usT 2000) ∧ t.sx.c.reg 0x4020 4 = (s.sx.c.bump 0x4020 4).reg 0x4020 4 ∧
      (t.sx.c.session k).timeouts = (s.sx.c.session k).timeouts + 1 ∧
      t.sx.entry tag = { s.sx.entry tag with ended := (s.sx.entry tag).ended ++ [port] }) ∧
  (∀ (s : State) (tag : Nat) (told : Bool), s.sx.runs = true → (s.sx.entry tag).state = 3 →
    told = true ∨ (s.sx.fleet.active = true ∧ s.sx.outputSent tag = true ∧
      ∀ p ∈ (s.sx.entry tag).ports, p ∈ (s.sx.entry tag).ended) →
    Gives (.entryDrained tag told) s fun t => (t.sx.entry tag).state = 0 ∧
      (t.sx.entry tag).epoch = ((s.sx.entry tag).epoch + 1) % 2 ^ 32) ∧
  (∀ (s : State) (port n dies timeouts k : Nat), s.sx.runs = true → s.sx.c.sessionSlot n = some k →
    Gives (.drainDoneRx port n dies timeouts) s fun t =>
      (t.sx.c.session k).drains = putKey (s.sx.c.session k).drains port (dies, timeouts) ∧
      (s.sx.c.sessionState k = 4 → s.sx.sessionTags n = [] → (s.sx.c.session k).drainSent = false →
        (∀ a ∈ (s.sx.c.session k).acks, a.2.dies = 0 ∨ a.1 = port) → t.sx.c.sessionState k = 5))

/-- Reduction descriptors, intervals, read-out, the input log and replay do what their rules say
Descriptor data is stored and the cursor advances; a commit marks the descriptor loaded or invalid; an interval closes at its deadline, its missing sources counted, and becomes the entry's last output; mirrored inputs are kept and log records freed after 2 s; a read-out and a quantile read answer what the last output gives, and refuse where it gives nothing; a replay runs from its submission to its end; a faulty cell closes its intervals and is mapped out; a failed log record is freed. -/
def Obligations.ReductionTakesEffect : Prop :=
  (∀ (s : State) (r : Req) (v : Nat), s.admits .shopostra r 0x5011 1 v = true →
    s.sx.descInUse (s.sx.c.reg 0x5010 0) = false →
    Gives (.redDescDataWrite r v) s
      (s.onSx fun x =>
        let d := x.c.reg 0x5010 0
        let q := x.redDesc d
        (x.onRed fun a => { a with descs := putKey a.descs d { q with words := putKey q.words (x.c.reg 0x5011 2 / 8) v } }).onC
          fun c => c.setReg 0x5011 2 ((c.reg 0x5011 2 + 8) % 512)).Near) ∧
  (∀ (s : State) (r : Req), s.admits .shopostra r 0x5011 3 1 = true → s.sx.descInUse (s.sx.c.reg 0x5010 0) = false →
    Gives (.redDescCommit r 1) s
      (s.onSx fun x =>
        let d := x.c.reg 0x5010 0
        let q := x.redDesc d
        x.onRed fun a => { a with descs := putKey a.descs d { q with status := if q.good then 1 else 2 } }).Near) ∧
  (∀ (s : State) (tag instant : Nat) (iv : Interval), s.sx.runs = true →
    s.sx.red.opened.find? (fun i => decide (i.tag = tag ∧ i.instant = instant * ns)) = some iv →
    Gives (.intervalDeadline tag instant) s fun t =>
      t.sx.c.now = max s.sx.c.now (s.sx.deadline tag (instant * ns)) ∧
      (∀ i ∈ t.sx.red.opened, ¬ (i.tag = tag ∧ i.instant = instant * ns)) ∧
      (t.sx.red.last.find? fun q => decide (q.1 = tag)).map (fun q => q.2.instant) = some (instant * ns) ∧
      ((s.sx.entry tag).kind ≠ 1 → s.sx.sharded (s.sx.entry tag) = false → iv.seen.length < (s.sx.entry tag).inCount →
        t.sx.c.reg 0x5020 5 = (s.sx.c.bump 0x5020 5).reg 0x5020 5 ∧
        (t.sx.entry tag).missing =
          ((s.sx.entry tag).missing + ((s.sx.entry tag).inCount - iv.seen.length)) % 2 ^ 32)) ∧
  (∀ (s : State) (stream epoch source instant : Nat) (shard : Bool) (m : List Nat), s.sx.runs = true → s.sx.hist.lost = false →
    Gives (.logMirrorRx stream epoch shard source instant m) s
      (s.onSx fun x => x.onRed fun q => { q with log := q.log ++
        [{ stream := stream, epoch := epoch, shard := shard, source := source, instant := x.c.extend instant, message := m,
           mirror := true }] }).Near) ∧
  (∀ s : State, s.sx.runs = true →
    Gives .logRecordExpire s
      (s.onSx fun x => x.onRed fun q => { q with
        log := q.log.filter fun r => decide (x.c.now ≤ r.instant + secT 2) }).Near) ∧
  (∀ (s : State) (r : Req), s.sx.runs = true → s.sx.c.gate r 0x5031 5 false true = none → s.sx.c.reaches r = true →
    (∀ b : List Nat, s.sx.readoutBytes = .ok b →
      Gives (.redReadoutRead r) s fun t => s.Near t ∧ t.sx.c.answered r none (fromLE (b.take 192))) ∧
    (∀ a : Abort, s.sx.readoutBytes = .error a →
      Gives (.redReadoutRead r) s fun t => s.Near t ∧ t.sx.c.answered r (some a) 0)) ∧
  (∀ (s : State) (r : Req) (sub : Nat), s.sx.runs = true → 5 ≤ sub → sub ≤ 7 → s.sx.c.gate r 0x5030 sub false true = none →
    s.sx.c.reaches r = true →
    (∀ n : Nat, s.sx.quantileOf sub = .ok n →
      Gives (.redQuantileRead r sub) s fun t => s.Near t ∧ t.sx.c.answered r none n) ∧
    (∀ a : Abort, s.sx.quantileOf sub = .error a →
      Gives (.redQuantileRead r sub) s fun t => s.Near t ∧ t.sx.c.answered r (some a) 0)) ∧
  (∀ (s : State) (r : Req) (v : Nat), s.admits .shopostra r 0x5041 4 v = true →
    s.sx.c.now ≤ s.sx.c.timeOf (s.sx.c.reg 0x5041 3) + secT 2 →
    Gives (.redReplaySubmit r v true) s
      (s.on .shopostra fun c => ((c.setReg 0x5041 4 (storedForm .time v)).setReg 0x5041 5 1).setReg 0x5041 6 0).Near) ∧
  (∀ (s : State) (recs : List (Nat × Nat × List Nat)) (lost : Bool), s.sx.runs = true → s.sx.c.reg 0x5041 5 = 1 →
    Gives (.replayRecordsDone recs lost) s fun t => t.sx.c.reg 0x5041 5 = if lost then 4 else 2) ∧
  (∀ (s : State) (cell : Nat) (hit : List (Nat × Nat)), s.sx.runs = true →
    Gives (.reductionCellFault cell hit) s fun t =>
      t.sx.c.reg 0x5001 (cell % 64 + 1) = 2 ∧ t.sx.c.reg 0x5020 6 = (s.sx.c.bump 0x5020 6).reg 0x5020 6 ∧
      t.sx.c.reg 0x5000 1 = ((List.range 64).filter fun k => decide (t.sx.c.reg 0x5001 (k + 1) = 0)).length ∧
      ∀ h ∈ hit, ∀ i ∈ t.sx.red.opened, ¬ (i.tag = h.1 ∧ i.instant = h.2 * ns)) ∧
  (∀ (s : State) (stream source instant : Nat), s.sx.runs = true →
    Gives (.logCrcFailure stream source instant) s
      (s.onSx fun x =>
        let gone := fun (r : LogRecord) => decide (r.stream = stream ∧ r.source = source ∧ r.instant = x.c.extend instant)
        x.onRed fun q => { q with log := q.log.filter fun r => !gone r }).Near)

/-- Detector programs are loaded, run, completed and unloaded as their rules say
Container bytes and the seed are stored; a library program is held by its slot with a cleared seed, and a staged container either passes every check of Table 11-2 or leaves the code of the first that fails; unloading empties the slot; at the run start every due slot begins, with its first phase run, unless it is skipped; each later phase runs, and the completion ends the run; a faulty tile is mapped out and marked in the slots that run on it. -/
def Obligations.TangentTakesEffect : Prop :=
  (∀ (s : State) (r : Req) (v : Nat), s.admits .shopostra r 0x6400 1 v = true → s.sx.c.reg 0x6400 2 < 4194304 →
    Gives (.tanLoadDataWrite r v) s
      (s.onSx fun x => (x.onTan fun t => { t with staged := putKey t.staged (x.c.reg 0x6400 2 / 8) v }).onC
        fun c => c.setReg 0x6400 2 (c.reg 0x6400 2 + 8)).Near) ∧
  (∀ (s : State) (r : Req) (slot v : Nat), slot < 64 → s.admits .shopostra r 0x6020 (slot + 1) v = true →
    s.sx.slotBusy slot = false →
    Gives (.tanSlotSeedWrite r slot v) s (s.on .shopostra fun c => c.setReg 0x6020 (slot + 1) v).Near) ∧
  (∀ (s : State) (r : Req), s.admits .shopostra r 0x6400 6 1 = true → s.sx.c.reg 0x6400 4 < 64 →
    s.sx.slotBusy (s.sx.c.reg 0x6400 4) = false → 1 ≤ s.sx.c.reg 0x6400 5 → s.sx.c.reg 0x6400 5 ≤ 8 →
    Gives (.programLoad r) s fun t =>
      let k := s.sx.c.reg 0x6400 4
      t.sx.c.reg 0x6400 7 = 1 ∧ t.sx.c.reg (0x6100 + k) 1 = 1 ∧ t.sx.c.reg (0x6100 + k) 2 = 0x10000 + s.sx.c.reg 0x6400 5 ∧
      t.sx.c.reg 0x6020 (k + 1) = 0 ∧ (t.sx.slot k).prog.map Program.rom = some (s.sx.c.reg 0x6400 5) ∧
      (t.sx.slot k).running = false) ∧
  (∀ (s : State) (r : Req), s.admits .shopostra r 0x6400 6 1 = true → s.sx.c.reg 0x6400 4 < 64 →
    s.sx.slotBusy (s.sx.c.reg 0x6400 4) = false → s.sx.c.reg 0x6400 5 = 0 →
    Gives (.programLoad r) s fun t =>
      let k := s.sx.c.reg 0x6400 4
      let h : Header := { b := s.sx.stagedBytes.take 128 }
      (∀ n, s.sx.loadCheck k s.sx.stagedBytes = some n → t.sx.c.reg 0x6400 7 = n ∧ t.sx.tan = s.sx.tan) ∧
      (s.sx.loadCheck k s.sx.stagedBytes = none → h.isData = false →
        t.sx.c.reg 0x6400 7 = 1 ∧ t.sx.c.reg (0x6100 + k) 1 = 1 ∧ t.sx.c.reg (0x6100 + k) 2 = h.ident ∧
        (t.sx.slot k).prog = some (programOf h s.sx.stagedBytes 0))) ∧
  (∀ (s : State) (r : Req), s.admits .shopostra r 0x6400 6 2 = true → s.sx.c.reg 0x6400 4 < 64 →
    s.sx.slotBusy (s.sx.c.reg 0x6400 4) = false →
    Gives (.programUnload r) s fun t =>
      let k := s.sx.c.reg 0x6400 4
      (t.sx.slot k).prog = none ∧ ∀ sub ∈ [1, 2, 4, 5, 6, 9], t.sx.c.reg (0x6100 + k) sub = 0) ∧
  (∀ s : State, s.sx.runs = true → s.sx.c.slotsRun (cycleStart s.sx.c.now) = true →
    Gives .tangentRunStart s fun t =>
      let tn := cycleStart s.sx.c.now
      t.sx.c.now = max s.sx.c.now (tn + usT 4) ∧
      ∀ k, k < 64 → s.sx.slotBusy k = true → s.sx.slotRuns k tn = true →
        t.sx.c.reg (0x6100 + k) 0x0D = (s.sx.slot k).runs % 2 ^ 32 ∧ (t.sx.slot k).runs = (s.sx.slot k).runs + 1 ∧
        ((s.sx.slot k).skipped = true → bitOf (t.sx.c.reg (0x6100 + k) 0x0E) 2 = true) ∧
        ((s.sx.slot k).skipped = false → ∀ p, (s.sx.slot k).prog = some p → 1 ≤ p.phases →
          (t.sx.slot k).running = true ∧ (t.sx.slot k).done = 1 ∧
          (t.sx.slot k).runAt = tn + usT 4 + tanCycles (s.sx.c.reg (0x6100 + k) 8))) ∧
  (∀ (s : State) (k : Nat) (p : Program), s.sx.runs = true → (s.sx.slot k).prog = some p → (s.sx.slot k).running = true →
    (s.sx.slot k).done < p.phases →
    Gives (.tangentPhaseStart k) s
      (s.onSx fun x =>
        let q := x.slot k
        x.setSlot k { q with
          tiles := if p.rom ≠ 0 then q.tiles.map (x.libraryRun k p) else runSlotPhase p q.done q.tiles, done := q.done + 1 }).Near) ∧
  (∀ (s : State) (k : Nat) (p : Program), s.sx.runs = true → (s.sx.slot k).prog = some p → (s.sx.slot k).running = true →
    Gives (.slotRunComplete k) s fun t =>
      t.sx.c.now = max s.sx.c.now ((s.sx.slot k).runAt + tanCycles (s.sx.c.reg (0x6100 + k) 7)) ∧
      (t.sx.slot k).running = false ∧ (t.sx.slot k).tileFault = false ∧ (t.sx.slot k).restarted = false ∧
      ((s.sx.slot k).done ≤ p.phases → p.phases ≤ 8 → (t.sx.slot k).done = p.phases)) ∧
  (∀ (s : State) (tile : Nat), s.sx.runs = true →
    Gives (.tileFault tile false) s fun t =>
      (tile % 48, 2) ∈ t.sx.tan.changed ∧ t.sx.c.reg 0x6004 5 = (s.sx.c.bump 0x6004 5).reg 0x6004 5 ∧
      ∀ k, k < 64 → s.sx.slotBusy k = true → (s.sx.slot k).running = true →
        (∃ l ∈ s.sx.logicalTiles k, s.sx.c.physTile l = tile % 48) →
        (t.sx.slot k).tileFault = true ∧ bitOf (t.sx.c.reg (0x6100 + k) 0x0E) 1 = true)

/-- Step signatures, round inputs, audits and repeats of a die do what their rules say
A beat is folded into the unit's register, or into its replay; an END closes the signature over the byte count, keeps it and restarts the register, and sends the round input of a group that has no other unit; WAIT after the first END the round is sent; a group write that its rules admit is stored; an audit replay that matches is a pass, a second replay that confirms a first mismatch marks the group, and a late audit is counted; a repeat makes its fault PERMANENT, CONDITIONAL or leaves the unit as it was. -/
def Obligations.SignaturesTakeEffect : Prop :=
  (∀ (s : State) (u : Nat) (b : List Nat), s.vg.bnd.inReset = false →
    Gives (.sigTapBeat u false b) s
      (s.onVg fun v => v.setUnit u { v.unit u with crc := crc64Fold (v.unit u).crc b, bytes := (v.unit u).bytes + b.length }).Near) ∧
  (∀ (s : State) (u : Nat) (b : List Nat), s.vg.bnd.inReset = false →
    Gives (.sigTapBeat u true b) s
      (s.onVg fun v =>
        let beat := fun (r : Replay) => if r.unit = u then { r with crc := crc64Fold r.crc b, bytes := r.bytes + b.length } else r
        v.onSig fun q => { q with replays := q.replays.map beat }).Near) ∧
  (∀ (s : State) (u job e : Nat) (b : List Nat), s.vg.bnd.inReset = false →
    Gives (.sigStepEnd u job e b) s fun t =>
      let q := s.vg.unit u
      let sig := crc64End (crc64Fold q.crc b) (q.bytes + b.length)
      (t.vg.unit u).crc = crc64Init ∧ (t.vg.unit u).bytes = 0 ∧ (t.vg.unit u).job = some job ∧
      (t.vg.unit u).lastEnd = some e ∧ (t.vg.unit u).recent = ((e, sig) :: q.recent).take 64 ∧
      (t.vg.unit u).sincePass = q.sincePass + 1 ∧
      ∀ g ∈ s.vg.c.groupsOf u, s.vg.roundSent g e = false → (s.vg.c.groupUnits g).length ≤ 1 →
        (t.vg.sig.sent.find? fun x => decide (x.1 = g)).map Prod.snd = some e) ∧
  (∀ (s : State) (u : Nat), s.vg.bnd.inReset = false →
    Gives (.sigAccumulatorParity u []) s (s.onVg fun v => v.setUnit u { v.unit u with parityBad := true }).Near ∧
    ∀ e, Gives (.sigAccumulatorParity u [e]) s fun t =>
      (t.vg.unit u).recent = (s.vg.unit u).recent.filter (fun r => decide (r.1 ≠ e)) ∧
      ∀ j ∈ t.vg.sig.peers, ∀ p ∈ j.2, p.epoch = e → p.overflow = true) ∧
  (∀ (s : State) (group epoch : Nat) (r : DieRound), s.vg.bnd.inReset = false →
    s.vg.sig.rounds.find? (fun d => decide (d.group = group ∧ d.epoch = epoch)) = some r →
    Gives (.roundInputWaitTimeout group epoch) s fun t =>
      t.vg.c.now = max s.vg.c.now (r.first + usT (s.vg.c.group group 7)) ∧
      (∀ d ∈ t.vg.sig.rounds, ¬ (d.group = group ∧ d.epoch = epoch)) ∧
      (t.vg.sig.sent.find? fun x => decide (x.1 = group)).map Prod.snd = some epoch) ∧
  (∀ (s : State) (r : Req) (g sub v : Nat), g < 16 → s.admits .vangeg r (0x3610 + g) sub v = true →
    s.vg.sig.owners.find? (fun q => decide (q.1 = g)) = none →
    (s.vg.c.setReg (0x3610 + g) sub v).groupsOverlap = false →
    (s.vg.c.setReg (0x3610 + g) sub v).sparesNeeded ≤ (s.vg.c.setReg (0x3610 + g) sub v).spares.length →
    Gives (.sigGroupWrite r g sub v) s
      (s.onVg fun x => (x.onC fun c => c.setReg (0x3610 + g) sub v).refreshJobs).Near) ∧
  (∀ (s : State) (u : Nat) (b : List Nat) (q : Replay) (orig : Nat × Nat), s.vg.bnd.inReset = false →
    s.vg.sig.replays.find? (fun r => decide (r.unit = u ∧ r.trig = 0)) = some q → q.unit = u →
    (s.vg.unit u).recent.find? (fun r => decide (r.1 = q.epoch)) = some orig →
    (let sig := crc64End (crc64Fold q.crc b) (q.bytes + b.length)
     (q.first = none → sig = orig.2 →
       Gives (.auditReplayEnd u b) s fun t => (t.vg.unit u).sincePass = 0 ∧
         (t.vg.unit u).audited = some (match (s.vg.unit u).audited with | none => q.epoch | some a => epochMax a q.epoch) ∧
         t.vg.c.reg 0x3604 1 = (s.vg.c.bump 0x3604 1).reg 0x3604 1) ∧
     (q.first.map Prod.fst = some sig →
       Gives (.auditReplayEnd u b) s fun t => t.vg.c.reg 0x3604 2 = (s.vg.c.bump 0x3604 2).reg 0x3604 2 ∧
         (t.vg.sig.auditFail.find? fun x => decide (x.1 = q.group)).map Prod.snd =
           some (match (s.vg.unit u).audited with | some a => (a + 1) % 2 ^ 32 | none => (s.vg.unit u).first)))) ∧
  (∀ (s : State) (u : Nat) (q : Replay), s.vg.bnd.inReset = false →
    s.vg.sig.replays.find? (fun r => decide (r.unit = u ∧ r.trig = 0)) = some q →
    Gives (.auditDeadline u) s fun t =>
      t.vg.c.now = max s.vg.c.now (q.began + usT (s.vg.c.reg 0x3603 1)) ∧
      t.vg.c.reg 0x3604 3 = (s.vg.c.bump 0x3604 3).reg 0x3604 3) ∧
  (∀ (s : State) (u : Nat) (b : List Nat) (q : Replay), u < 256 → s.vg.bnd.inReset = false →
    s.vg.sig.replays.find? (fun r => decide (r.unit = u ∧ r.trig ≠ 0)) = some q →
    Gives (.repeatComplete u b) s fun t =>
      let sig := crc64End (crc64Fold q.crc b) (q.bytes + b.length)
      let bad := if q.trig = 3 then q.residue else decide (sig ≠ q.ref)
      let recent := s.vg.sig.transients.filter fun x => decide (s.vg.c.now < x.2.2 + secT 86400)
      let n := (recent.filter fun x => decide (x.1 = u ∧ x.2.1 = q.bucket)).length + 1
      t.vg.c.reg (0x3622 + u / 128) (u % 128 + 1) = if bad then 2 else if 3 ≤ n then 3 else q.prior) ∧
  (∀ (s : State) (u : Nat) (q : Replay), u < 256 → s.vg.bnd.inReset = false →
    s.vg.sig.replays.find? (fun r => decide (r.unit = u ∧ r.trig ≠ 0)) = some q →
    Gives (.repeatDeadline u) s fun t => t.vg.c.now = max s.vg.c.now (q.began + msT (s.vg.c.reg 0x3603 2)) ∧
      t.vg.c.reg (0x3622 + u / 128) (u % 128 + 1) = q.prior)

/-- A die takes health readings and verdicts as its rules say
Health readings are stored; a write of SIG_CLEAN_JOB stores the job and drives its clean epoch with a toggle when it is later; a die whose signature differs from the majority answers the query; a taint notice and the verdict records CLEAN, FAILED and ABANDONED are stored in the job's entry. -/
def Obligations.DieVerdictsTakeEffect : Prop :=
  (∀ (s : State) (therm : List Int) (volt : List Nat), s.vg.bnd.inReset = false → s.vg.bnd.calRecord = none →
    Gives (.healthSample therm volt) s fun t =>
      (∀ i x, i < 64 → therm[i]? = some x → t.vg.c.reg 0x1110 (i + 1) = toTwos 16 x) ∧
      (∀ i x, i < 16 → volt[i]? = some x → t.vg.c.reg 0x1111 (i + 1) = x % 65536)) ∧
  (∀ (s : State) (r : Req) (v : Nat), s.admits .vangeg r 0x3601 0 v = true →
    Gives (.sigCleanJobWrite r v) s fun t => t.vg.c.reg 0x3601 0 = v ∧
      (∀ j, v ≠ 0xFFFF → v ≠ s.vg.c.reg 0x3601 0 → s.vg.c.jobEntry v = some j → s.vg.bnd.cleanHold = none →
        0 < epochDiff (s.vg.c.reg (0x3630 + j) 3) (s.vg.c.pin .cleanEpoch) →
        t.vg.c.pin .cleanEpoch = s.vg.c.reg (0x3630 + j) 3 ∧
        t.vg.c.pin .cleanEpochTgl = 1 - s.vg.c.pin .cleanEpochTgl ∧
        t.vg.bnd.cleanHold = some (s.vg.c.now + nsT 250))) ∧
  (∀ (s : State) (job group epoch : Nat) (refs : List Nat), s.vg.bnd.inReset = false → s.vg.c.group group 2 = job →
    s.vg.minority group epoch refs ≠ [] → s.vg.c.speaks .activeParent = true →
    Gives (.minorityQueryRx job group epoch refs) s fun t =>
      Msg.message .activeParent "MINORITY_ANSWER" [job, group, epoch, s.vg.c.logical] ∈ t.vg.c.out) ∧
  (∀ (s : State) (job epoch j : Nat), s.vg.bnd.inReset = false → s.vg.c.jobEntry job = some j →
    Gives (.taintNoticeRx job epoch) s fun t => t.vg.c.reg (0x3630 + j) 6 = epoch) ∧
  (∀ (s : State) (b refs : List Nat) (j : Nat), s.vg.bnd.inReset = false → s.vg.c.jobEntry (leAt b 12 2) = some j →
    Gives (.verdictRecordRx .vangeg b refs) s fun t =>
      (nth 0 b 1 = 0 → t.vg.c.reg (0x3630 + j) 3 = epochMax (s.vg.c.reg (0x3630 + j) 3) (leAt b 4 4)) ∧
      (nth 0 b 1 = 1 → t.vg.c.reg (0x3630 + j) 5 = leAt b 4 4) ∧
      (2 ≤ nth 0 b 1 → (leAt b 4 4, leAt b 8 4) ∈ lookupD [] t.vg.sig.ranges j)) ∧
  (∀ (s : State) (b refs : List Nat), s.sx.runs = true → s.sx.c.depth ≠ 3 →
    Gives (.verdictRecordRx .shopostra b refs) s fun t => s.Near t ∧
      ∀ p ∈ s.sx.verdictPorts (leAt b 16 4), s.sx.c.speaks (.port p) = true →
        Msg.record (.port p) 0x38 (b.drop 1) ∈ t.sx.c.out)

/-- Rounds are folded and closed, and epochs declared, as their rules say
A round input opens a round or is folded into it, and the last expected one closes it; the deadline and an uncorrectable word close it; at the verdict position a failing round declares its epoch FAILED; a resume starts the job at its epoch and declares the gap ABANDONED; minority answers join the bad set and the deadline declares it complete; the taint map is published; a forwarded report is stored once and a TRANSIENT fault classed; class entries expire after 24 h. -/
def Obligations.VerdictsTakeEffect : Prop :=
  (∀ (s : State) (tag port source : Nat) (m : List Nat), s.sx.runs = true → (s.sx.entry tag).kind = 4 →
    2 ≤ (s.sx.entry tag).state → (s.sx.entry tag).toParent = true → 32 ≤ m.length →
    (let job := leAt m 14 2
     let g := nth 0 m 2 % 16
     let e := leAt m 4 4
     s.sx.ver.closed.any (fun r => decide (r.tag = tag ∧ r.job = job ∧ r.group = g ∧ r.epoch = e)) = false →
     (s.sx.roundOf tag job g e = none → 1 < (s.sx.entry tag).inCount →
       Gives (.roundInputRx tag port source m) s
         (s.onSx fun x => x.onVer fun v => { v with rounds := v.rounds ++
           [{ tag := tag, job := job, group := g, epoch := e, inputs := [(source, port, m)] }] }).Near) ∧
     (∀ r : Round, s.sx.roundOf tag job g e = some r → nth 0 m 16 = r.k → nth 0 m 17 = r.wait → leAt m 20 4 = r.quorum →
       (∀ i ∈ r.inputs, i.1 ≠ source) →
       (r.inputs.length + 1 < (s.sx.entry tag).inCount →
         Gives (.roundInputRx tag port source m) s fun t =>
           t.sx.roundOf tag job g e = some { r with inputs := r.inputs ++ [(source, port, m)] }) ∧
       ((s.sx.entry tag).inCount ≤ r.inputs.length + 1 →
         Gives (.roundInputRx tag port source m) s fun t =>
           t.sx.roundOf tag job g e = none ∧ t.sx.c.reg 0x3680 1 = (s.sx.c.bump 0x3680 1).reg 0x3680 1)))) ∧
  (∀ (s : State) (tag job g e : Nat) (r : Round), s.sx.runs = true → s.sx.roundOf tag job g e = some r →
    Gives (.roundDeadline tag job g e) s fun t =>
      let c := s.sx.c.arrive (s.sx.roundDeadline r)
      let session := (s.sx.entry tag).session
      t.sx.c.now = c.now ∧ t.sx.roundOf tag job g e = none ∧
      (∃ k ∈ t.sx.ver.closed, k.tag = tag ∧ k.job = job ∧ k.group = g ∧ k.epoch = e ∧
        k.outcome = (r.sum c).outcome r.quorum) ∧
      t.sx.c.reg 0x3680 1 = (s.sx.c.bump 0x3680 1).reg 0x3680 1 ∧
      (∀ j, (s.sx.entry tag).toParent = false → s.sx.c.isFenced = false → s.sx.job session job = some j → j.failed = none →
        0 ≤ epochDiff e j.next → (r.sum c).outcome r.quorum ≠ 5 →
        (t.sx.job session job).map (fun k => k.failed.map Prod.fst) = some (some e) ∧
        (t.sx.ver.log.head?).map (fun b => nth 0 b 1) = some 1)) ∧
  (∀ (s : State) (tag job g e : Nat) (lost : List Nat) (r : Round), s.sx.runs = true → s.sx.roundOf tag job g e = some r →
    Gives (.roundEccError tag job g e lost) s fun t => t.sx.roundOf tag job g e = none ∧
      ∃ k ∈ t.sx.ver.closed, k.tag = tag ∧ k.job = job ∧ k.group = g ∧ k.epoch = e) ∧
  (∀ (s : State) (r : Req) (v : Nat) (j : JobVerdict), s.admits .shopostra r 0x3681 3 v = true →
    s.sx.job (s.sx.c.reg 0x3681 1) (s.sx.c.reg 0x3681 2) = some j → 0 < epochDiff v j.folded →
    Gives (.sigResume r v) s fun t =>
      t.sx.c.reg 0x3681 3 = v ∧ t.sx.c.reg 0x3681 4 = 1 ∧
      t.sx.job (s.sx.c.reg 0x3681 1) (s.sx.c.reg 0x3681 2) =
        some { j with next := v, failed := none, bad := [], badCount := 0, minority := false } ∧
      (t.sx.ver.log.head?).map (fun b => nth 0 b 1) = some 2) ∧
  (∀ (s : State) (job g e die : Nat), s.sx.runs = true →
    (∀ j : JobVerdict, s.sx.ver.jobs.find? (fun j => decide (j.job = job) && (match j.failed with | some f => decide (f.1 = e) | none => false)) =
        some j →
      Gives (.minorityAnswerRx job g e die) s (s.onSx fun x => x.setJob { j with bad := insertUp die j.bad }).Near) ∧
    (s.sx.ver.jobs = [] → s.sx.c.speaks .activeParent = true →
      Gives (.minorityAnswerRx job g e die) s fun t => s.Near t ∧
        Msg.message .activeParent "MINORITY_ANSWER" [job, g, e, die] ∈ t.sx.c.out)) ∧
  (∀ (s : State) (session job : Nat) (j : JobVerdict), s.sx.runs = true → s.sx.job session job = some j →
    j.failed.isSome = true → j.minority = true →
    Gives (.minorityDeadline session job) s fun t =>
      t.sx.job session job = some { j with minority := false, badCount := j.bad.length } ∧
      (t.sx.ver.log.head?).map (fun b => nth 0 b 1) = some 1) ∧
  (∀ (s : State) (session job : Nat) (logs : List (Nat × List (Nat × List Nat × Bool))) (j : JobVerdict) (f : Nat × Nat × Nat × Nat),
    s.sx.runs = true → s.sx.job session job = some j → j.failed = some f → j.bad ≠ [] →
    Gives (.taintMapCompute session job logs) s fun t =>
      ∃ l, (job, f.1, l) ∈ t.sx.ver.taints ∧
        ∀ q, q ∈ l ↔ q ∈ taintMap j.bad ((s.sx.verdictPorts session).flatMap fun p => s.sx.c.membersBehind session p) logs f.2.2.2
          ((epochDiff j.folded f.2.2.2).toNat + 2)) ∧
  (∀ (s : State) (b : List Nat), s.sx.runs = true → s.sx.c.reg 0x1012 0 = 0 →
    (leAt b 8 4, leAt b 48 4) ∉ s.sx.c.log.reportsSeen →
    Gives (.errorReportRx b) s fun t => (leAt b 8 4, leAt b 48 4) ∈ t.sx.c.log.reportsSeen ∧
      (leAt b 2 2 ≠ 0x0C06 → t.sx.ver = s.sx.ver) ∧
      (leAt b 2 2 = 0x0C06 → ∃ k ∈ t.sx.ver.classes, k.phys = leAt b 8 4 ∧ k.unit = nth 0 b 22 ∧ k.bucket = leAt b 26 2 ∧
        k.at_ = s.sx.c.now)) ∧
  (∀ s : State, s.sx.runs = true →
    Gives .classEntryExpire s
      (s.onSx fun x => x.onVer fun v => { v with
        classes := v.classes.filter fun k => decide (x.c.now < k.at_ + secT 86400) }).Near)

/-- Heartbeats, leases and fences do what their rules say
A heartbeat updates what is held of its sender, at a die its grant extends the lease, the sender is ALIVE and FENCE_NOW fences; a heartbeat of a child is the last known one and ends SUSPECT; a parent-revoke record sets the partner's bits for both apex members; the lease's expiry and a lease parity error fence with cause 2; a fence command is accepted and from its instant its part is commanded; a liveness parity error holds declarations for 2.5 ms. -/
def Obligations.HeartbeatsTakeEffect : Prop :=
  (∀ (s : State) (port source : Nat) (b : List Nat), port < 48 → s.vg.bnd.inReset = false → s.vg.c.portUp port = true →
    (s.vg.c.port port).heartbeats < 2 → s.vg.c.liveState port < 3 →
    Gives (.heartbeatRx .vangeg port source b) s fun t =>
      let at_ := s.vg.c.extend (leAt b 8 6)
      (t.vg.c.peer port).known = later (s.vg.c.peer port).known (some at_) ∧
      (t.vg.c.peer port).epoch = some (leAt b 24 4) ∧ (t.vg.c.peer port).logical = source ∧
      t.vg.c.liveState port = 1 ∧ t.vg.c.reg 0x7001 3 = max (s.vg.c.reg 0x7001 3) (leAt b 28 4) ∧
      (bitOf (nth 0 b 1) 1 = true → leAt b 16 6 ≠ 0 →
        t.vg.c.live.lease = later s.vg.c.live.lease (some (s.vg.c.extend (leAt b 16 6) + msT 2))) ∧
      (bitOf (nth 0 b 1) 1 = false → t.vg.c.live.lease = s.vg.c.live.lease) ∧
      (bitOf (nth 0 b 1) 3 = true → s.vg.c.reg 0x7001 2 < 2 → t.vg.c.reg 0x7001 2 = 3 ∧ t.vg.c.pin .fenceOut = 1) ∧
      (bitOf (nth 0 b 1) 3 = false → t.vg.c.reg 0x7001 2 = s.vg.c.reg 0x7001 2)) ∧
  (∀ (s : State) (port source e : Nat) (b : List Nat), (childIndex port).isSome = true → s.sx.runs = true →
    s.sx.c.portUp port = true → (s.sx.c.port port).heartbeats < 2 → s.sx.c.reg 0x1012 0 ≠ 0 → nth 0 b 1 = 0 →
    (s.sx.c.peer port).epoch = some e → leAt b 24 4 = e → s.sx.c.liveState port = 1 ∨ s.sx.c.liveState port = 2 →
    after (some (s.sx.c.extend (leAt b 8 6))) (s.sx.c.peer port).known = true →
    Gives (.heartbeatRx .shopostra port source b) s fun t =>
      let at_ := s.sx.c.extend (leAt b 8 6)
      (t.sx.c.peer port).known = some at_ ∧ (t.sx.c.peer port).own = later (s.sx.c.peer port).own (some at_) ∧
      (t.sx.c.peer port).logical = source ∧ t.sx.c.liveState port = 1 ∧
      (s.sx.c.liveState port = 2 → (t.sx.c.peer port).g = none ∧ (t.sx.c.peer port).revoke = false)) ∧
  (∀ (s : State) (port : Nat) (b : List Nat), s.sx.runs = true → s.sx.c.reg 0x1012 0 = 2 → isPartnerPort port = true →
    s.sx.c.portUp port = true → (s.sx.c.port port).heartbeats < 2 →
    Gives (.parentRevokeRx port b) s fun t =>
      let f := nth 0 b 1
      (t.sx.c.peer 8).revoked = bitOf f 0 ∧ (t.sx.c.peer 20).revoked = bitOf f 1 ∧
      (t.sx.c.peer 8).pRevoked = bitOf f 2 ∧ (t.sx.c.peer 20).pRevoked = bitOf f 3 ∧
      (t.sx.c.peer 8).pSeen = bitOf f 4 ∧ (t.sx.c.peer 20).pSeen = bitOf f 5) ∧
  (∀ (s : State) (p : Part) (e : Ticks), s.runs p = true → (s.com p).live.lease = some e → (s.com p).reg 0x7001 2 < 2 →
    Gives (.leaseExpiry p) s fun t => (t.com p).now = max (s.com p).now e ∧ (t.com p).reg 0x7001 2 = 2 ∧
      (p = .vangeg → t.vg.c.pin .fenceOut = 1) ∧
      (p = .shopostra → t.sx.fleet.active = false ∧ t.sx.fleet.actingApex = false)) ∧
  (∀ (s : State), s.vg.bnd.inReset = false → s.vg.c.reg 0x7001 2 < 2 →
    Gives .leaseParityError s (s.on .vangeg fun c => c.setReg 0x7001 2 2).Near) ∧
  (∀ (s : State) (r : Req) (v : Nat), s.admits .shopostra r 0x7005 2 v = true → isCycleStart (s.sx.c.timeOf v) = true →
    s.sx.c.now + msT 1 ≤ s.sx.c.timeOf v → (s.sx.holder (s.sx.c.reg 0x7005 1)).isSome = true →
    s.sx.apexAddress (s.sx.c.reg 0x7005 1) = false → s.sx.fleet.actingApex = true →
    (∀ d ∈ s.sx.c.live.down, d.1 ≠ s.sx.c.reg 0x7005 1) → s.sx.c.nearSwitch (s.sx.c.timeOf v) = false →
    Gives (.liveFenceCmd r v) s
      (s.on .shopostra fun c =>
        ((c.setReg 0x7005 2 (storedForm .time v)).setReg 0x7005 3 1).onLive fun n =>
          { n with commands := putKey n.commands (c.reg 0x7005 1) (c.timeOf v) }).Near) ∧
  (∀ (s : State) (l at_ p : Nat), s.sx.runs = true → s.sx.c.childOf l = some p → s.sx.c.liveState p < 3 →
    Gives (.fenceCommandInstant l at_) s
      (s.on .shopostra fun c => (c.arrive at_).setPeer p { c.peer p with commanded := true }).Near) ∧
  (∀ (s : State) (port : Nat), s.sx.runs = true →
    Gives (.livenessStateParity port) s
      (s.on .shopostra fun c => c.setPeer port { c.peer port with
        known := if c.paired then later (c.peer port).pLast none else some c.now, holdUntil := some (c.now + usT 2500) }).Near)

/-- Declarations, notices and rehearsals do what their rules say
D declares a SUSPECT child DEAD when nothing later is known and no partner forbids it; the wait after a partner's death ends at its instant; a notice is kept at a die and shown in LIVE_STATE, and at a Shopostra a partner's death starts its wait; a rehearsal is accepted with its fields, each run is noted and its status shown, and its records are kept at a die and passed on elsewhere. -/
def Obligations.DeclarationsTakeEffect : Prop :=
  (∀ (s : State) (port : Nat) (g : Ticks), (childIndex port).isSome = true → s.sx.runs = true →
    (s.sx.c.peer port).g = some g → s.sx.c.liveState port = 2 → s.sx.declares port = true →
    (s.sx.c.peer port).holdUntil = none → (s.sx.c.peer port).nothingLater g = true → s.sx.c.paired = false →
    Gives (.deadDeclaration port) s fun t =>
      t.sx.c.now = max s.sx.c.now (g + usT 2500) ∧
      t.sx.c.liveState port = (if (s.sx.c.peer port).commanded then 4 else 3) ∧
      (t.sx.c.peer port).g = none ∧ t.sx.c.reg 0x7004 2 = (s.sx.c.bump 0x7004 2).reg 0x7004 2) ∧
  (∀ (s : State) (st : Ticks), s.sx.runs = true → s.sx.c.live.partnerDead = some st →
    (∀ q ∈ s.sx.c.live.peers, q.2.blocked = false) →
    Gives .partnerDeadWaitEnd s (s.on .shopostra fun c => c.arrive (st + usT 4500)).Near) ∧
  (∀ (s : State) (down : Bool) (b : List Nat), s.vg.bnd.inReset = false →
    Gives (.livenessNoticeRx .vangeg down b) s fun t =>
      t.vg.c.live.notices = (b :: s.vg.c.live.notices).take 32 ∧
      (nth 0 b 1 = 3 ∨ nth 0 b 1 = 4 → ∀ p, p < s.vg.c.portCount → p < 48 → s.vg.c.reg 0x1312 (p + 1) = leAt b 8 4 →
        t.vg.c.liveState p = nth 0 b 1)) ∧
  (∀ (s : State) (down : Bool) (b : List Nat), s.sx.runs = true → nth 0 b 1 = 3 ∨ nth 0 b 1 = 4 → leAt b 8 4 ≠ 0 →
    Gives (.livenessNoticeRx .shopostra down b) s fun t =>
      (∀ p, p < 48 → s.sx.declares p = false → s.sx.c.reg 0x1312 (p + 1) = leAt b 8 4 → t.sx.c.liveState p = nth 0 b 1) ∧
      (nth 0 b 1 = 3 → s.sx.c.live.partnerDead = none →
        (∃ p, p < 48 ∧ isPartnerPort p = true ∧ s.sx.c.reg 0x1312 (p + 1) = leAt b 8 4) →
        t.sx.c.live.partnerDead = some (cycleStart s.sx.c.now + cycleT))) ∧
  (∀ (s : State) (r : Req) (v : Nat), s.admits .shopostra r 0x7030 7 v = true → isCycleStart (s.sx.c.timeOf v) = true →
    s.sx.c.now + msT 4 ≤ s.sx.c.timeOf v → (s.sx.holder (s.sx.c.reg 0x7030 2)).isSome = true →
    (∀ g ∈ s.sx.c.live.gambits, g.target ≠ s.sx.c.reg 0x7030 2) → s.sx.c.reg 0x7030 1 ≠ 0 → s.sx.c.reg 0x7030 3 ≠ 0 →
    s.sx.c.nearSwitch (s.sx.c.timeOf v) = false →
    Gives (.liveGambit r v) s
      (s.on .shopostra fun c =>
        ((c.setReg 0x7030 7 (storedForm .time v)).setReg 0x7030 8 1).onLive fun n => { n with gambits := n.gambits ++
          [{ kind := c.reg 0x7030 1, target := c.reg 0x7030 2, tag := c.reg 0x7030 3, dur := c.reg 0x7030 4,
             period := c.reg 0x7030 5, reps := c.reg 0x7030 6, start := c.timeOf v, runs := 0 }] }).Near) ∧
  (∀ (s : State) (kind target tag dur rep start : Nat), s.sx.runs = true →
    Gives (.gambitRun kind target tag dur rep start) s fun t =>
      t.sx.c.now = max s.sx.c.now start ∧ lookupD 0 t.sx.c.live.rehearsing target = start + dur * cycleT ∧
      (∀ g, s.sx.c.live.gambits.find? (fun g => decide (g.tag = tag ∧ g.target = target)) = some g →
        t.sx.c.reg 0x7030 8 = if g.reps ≠ 0 ∧ g.reps ≤ g.runs + 1 then 3 else 2)) ∧
  (∀ (s : State) (down : Bool) (b : List Nat), s.vg.bnd.inReset = false → nth 0 b 1 ≠ 2 → s.vg.c.reg 0x7021 0 = 0xFF →
    Gives (.rehearsalRecordRx .vangeg down b) s
      (s.on .vangeg fun c => c.onLive fun l => { l with rehearsals := b :: l.rehearsals }).Near) ∧
  (∀ (s : State) (down : Bool) (b : List Nat), s.sx.runs = true →
    Gives (.rehearsalRecordRx .shopostra down b) s s.Near)

/-- Binding, resetting and unbinding a slice do what their rules say
SLICE_CMD 1 at P2 or above binds a FREE slice whose PASID is in range and held by no other; commands 2 and 3 take a BOUND slice to RESETTING, and 3 remembers the unbinding; 50 us later writes of the PASID still outstanding are squashed and counted; with none outstanding the reset completes in BOUND, or in FREE with the PASID cleared; a squash not acknowledged within 100 us is reported; a new driver PASID is stored while it is free and no driver ring runs; a parity error takes a slice that is not FREE to RESETTING. -/
def Obligations.SliceCommandsTakeEffect : Prop :=
  (∀ (s : State) (r : Req) (k : Nat), k < 64 → s.admits .vangeg r (0x3810 + k) 3 1 = true → r.priv ≤ 2 →
    s.vg.slicePasid k ≤ 0xFFFFF → s.vg.slicePasid k ≠ s.vg.c.reg 0x3804 0 →
    (∀ j, j < 64 → j ≠ k → s.vg.sliceState j ≠ 0 → s.vg.slicePasid j ≠ s.vg.slicePasid k) → s.vg.sliceState k = 0 →
    Gives (.sliceBind r k) s (s.on .vangeg fun c => c.setReg (0x3810 + k) 1 1).Near) ∧
  (∀ (s : State) (r : Req) (k : Nat), k < 64 → s.admits .vangeg r (0x3810 + k) 3 2 = true → s.vg.sliceState k = 1 →
    (s.vg.slice k).reset = none →
    Gives (.sliceReset r k) s fun t => t.vg.sliceState k = 2 ∧
      (t.vg.slice k).reset = some { since := s.vg.c.now, unbind := false, squashed := false }) ∧
  (∀ (s : State) (r : Req) (k : Nat), k < 64 → s.admits .vangeg r (0x3810 + k) 3 3 = true → r.priv ≤ 2 →
    s.vg.sliceState k = 1 → (s.vg.slice k).reset = none →
    Gives (.sliceResetUnbind r k) s fun t => t.vg.sliceState k = 2 ∧
      (t.vg.slice k).reset = some { since := s.vg.c.now, unbind := true, squashed := false }) ∧
  (∀ (s : State) (k : Nat) (q : SliceReset), s.vg.bnd.inReset = false → (s.vg.slice k).reset = some q → q.squashed = false →
    s.vg.pasidBusy (s.vg.slicePasid k) = true → s.vg.bnd.squash = none →
    Gives (.sliceDrainTimeout k) s fun t => t.vg.c.now = max s.vg.c.now (q.since + usT 50) ∧
      t.vg.bnd.squash = some (s.vg.slicePasid k, t.vg.c.now) ∧ t.vg.c.pin .hmwSqValid = 1 ∧
      (t.vg.slice k).reset = some { q with squashed := true } ∧
      t.vg.c.reg (0x3810 + k) 7 = (s.vg.c.bump (0x3810 + k) 7).reg (0x3810 + k) 7) ∧
  (∀ (s : State) (k : Nat) (q : SliceReset), k < 64 → s.vg.bnd.inReset = false → (s.vg.slice k).reset = some q →
    s.vg.pasidBusy (s.vg.slicePasid k) = false →
    Gives (.sliceResetComplete k) s fun t => (t.vg.slice k).reset = none ∧
      t.vg.sliceState k = (if q.unbind then 0 else 1) ∧
      t.vg.slicePasid k = (if q.unbind then 0xFFFFFFFF else s.vg.slicePasid k) ∧
      t.vg.c.reg (0x3810 + k) 6 = (s.vg.c.bump (0x3810 + k) 6).reg (0x3810 + k) 6) ∧
  (∀ (s : State) (pasid t0 : Nat), s.vg.bnd.inReset = false → s.vg.bnd.squash = some (pasid, t0) →
    Gives .squashAckLate s (s.on .vangeg fun c => c.arrive (t0 + usT 100)).Near) ∧
  (∀ (s : State) (r : Req) (v : Nat), s.admits .vangeg r 0x3804 0 v = true → v ≤ 0xFFFFF ∨ v = 0xFFFFFFFF →
    (∀ k, k < 64 → s.vg.sliceState k ≠ 0 → s.vg.slicePasid k ≠ v) →
    (∀ k, k < 6 → ¬ (s.vg.ringReg k 0 = 1 ∧ s.vg.ringOwner k = 0xFF)) →
    Gives (.protDriverPasidWrite r v) s (s.on .vangeg fun c => c.setReg 0x3804 0 v).Near) ∧
  (∀ (s : State) (k : Nat), k < 64 → s.vg.bnd.inReset = false → s.vg.sliceState k = 1 → (s.vg.slice k).reset = none →
    Gives (.sliceTableParity k) s fun t => t.vg.sliceState k = 2 ∧ (t.vg.slice k).parityBad = true)

/-- A debug authorisation is challenged, granted, ended and locked out as its rules say
A challenge read that the access decision admits draws a new nonce and answers with it; a signature over it that the fused key verifies opens the scope for the time asked, and any other is refused with its cause and counted; a write of 1 to PROT_DBG_END and the expiry close it; the lockout ends at its instant; a parity error in the matrix puts the fuse restriction in force. Beyond the effect only bookkeeping changes. -/
def Obligations.DebugAuthorisationTakesEffect : Prop :=
  (∀ (s : State) (r : Req), s.sx.runs = true → s.sx.c.gate r 0x3860 1 false true = none →
    Gives (.dbgChallengeRead .shopostra r) s
      (s.on .shopostra fun c => { c.onDbg fun d => { d with nonce := some (c.drawFree 256).2 } with
        fresh := c.fresh + 1 }).Near) ∧
  (∀ (s : State) (r : Req) (sig : Nat), s.admits .vangeg r 0x3860 5 sig = true → s.vg.c.reg 0x1023 0 = 0 →
    s.vg.c.dbg.lockedUntil = none →
    Gives (.dbgAuthSubmit .vangeg r sig) s fun t =>
      let d := s.vg.c.dbg
      let good := s.vg.keyHash ≠ 0 ∧ Config.sha384 (bytesLE 96 d.key) = s.vg.keyHash ∧
        ∃ n, d.nonce = some n ∧ Config.ecdsaVerifies d.key (Config.sha384 (s.vg.c.dbgMessage n)) sig = true
      (good → t.vg.c.reg 0x3860 6 = 1 ∧
        t.vg.c.dbg = { d with nonce := none, failures := 0, scope := s.vg.c.reg 0x3860 2,
                              expiry := some (s.vg.c.now + secT (s.vg.c.reg 0x3860 3)) }) ∧
      (¬ good → (t.vg.c.reg 0x3860 6 = 2 ∨ t.vg.c.reg 0x3860 6 = 3) ∧ t.vg.c.dbg.failures = d.failures + 1 ∧
        t.vg.c.dbg.scope = d.scope ∧ t.vg.c.dbg.expiry = d.expiry)) ∧
  (∀ (s : State) (r : Req) (sig : Nat), s.admits .shopostra r 0x3860 5 sig = true → s.sx.c.reg 0x3802 0 = 0 →
    s.sx.c.dbg.lockedUntil = none → s.sx.pkg.fuseKeyHash = 0 →
    Gives (.dbgAuthSubmit .shopostra r sig) s fun t => t.sx.c.reg 0x3860 6 = 2 ∧
      t.sx.c.dbg = { s.sx.c.dbg with nonce := none, failures := s.sx.c.dbg.failures + 1,
                                     lockedUntil := if 4 ≤ s.sx.c.dbg.failures + 1 then some (s.sx.c.now + secT 60) else none }) ∧
  (∀ (s : State) (p : Part) (r : Req), s.admits p r 0x3860 8 1 = true → (s.com p).dbg.expiry.isSome = true →
    Gives (.dbgAuthEnd p r 1) s
      (s.on p fun c => ((c.onDbg fun d => { d with expiry := none, scope := 0 }).setReg 0x3860 6 0).setReg 0x3860 7 0).Near) ∧
  (∀ (s : State) (p : Part) (e : Ticks), s.runs p = true → (s.com p).dbg.expiry = some e →
    Gives (.dbgAuthExpiry p) s
      (s.on p fun c => (((c.arrive e).onDbg fun d => { d with expiry := none, scope := 0 }).setReg 0x3860 6 0).setReg
        0x3860 7 0).Near) ∧
  (∀ (s : State) (p : Part) (e : Ticks), s.runs p = true → (s.com p).dbg.lockedUntil = some e → (s.com p).reg 0x3860 6 = 4 →
    Gives (.dbgLockoutEnd p) s
      (s.on p fun c => ((c.arrive e).onDbg fun d => { d with lockedUntil := none, failures := 0 }).setReg 0x3860 6 0).Near) ∧
  (∀ (s : State) (p : Part), s.runs p = true →
    Gives (.matrixParityError p) s
      (s.on p fun c => c.setReg (match p with | .vangeg => 0x1023 | .shopostra => 0x3802) 0 1).Near)

/-- Flag triggers are submitted, sent, received and cancelled as their rules say
A submission with enough lead that its rules admit takes the next identifier, is held here and remembered, and its symbol is sent 1 ms before T* or at once; a STOP sets FLAG_STOP_INFO; a cancellation with enough lead withdraws the trigger; a FLAG word is held once with its extended instant, and a CANCEL word drops it; the mirror apex keeps what the apex copies. -/
def Obligations.FlagTriggersTakeEffect : Prop :=
  (∀ (s : State) (r : Req) (v : Nat), s.admits .shopostra r 0x3400 3 v = true →
    (let at_ := s.sx.c.timeOf v
     let id := min 3 s.sx.c.depth * 2 ^ 13 + s.sx.c.flag.seq % 2 ^ 13
     let taken := fun (kind : Nat) (t : State) =>
       t.sx.c.reg 0x3400 3 = storedForm .time v ∧ t.sx.c.reg 0x3400 4 = id ∧
       t.sx.c.reg 0x3400 5 = (if at_ ≤ s.sx.c.now + msT 1 then 2 else 1) ∧ t.sx.c.flag.seq = (s.sx.c.flag.seq + 1) % 2 ^ 13 ∧
       (∃ k ∈ t.sx.c.flag.subs, k.id = id ∧ k.kind = kind ∧ k.t = at_) ∧
       (s.sx.c.flag.held.length < 64 → Trigger.mk id kind 0 at_ ∈ t.sx.c.flag.held)
     at_ % nsT 4 = 0 → s.sx.c.now + minLead ≤ at_ → s.sx.fleet.active = true →
     s.sx.c.dueSymbols (max s.sx.c.now (at_ - msT 1)) < 16 →
     (s.sx.fleet.actingApex = true → s.sx.c.nearSwitch at_ = false ∧ s.sx.c.nearSwitch (max s.sx.c.now (at_ - msT 1)) = false) →
     (s.sx.c.reg 0x3400 1 = 1 → Gives (.flagSnapshotSubmit r v) s fun t => taken 1 t) ∧
     (s.sx.c.reg 0x3400 1 = 2 → s.sx.fleet.actingApex = true → s.sx.c.stopInForce = false →
       Gives (.flagStopSubmit r v) s fun t => taken 2 t ∧ t.sx.c.reg 0x3403 1 = storedForm .time v ∧ t.sx.c.reg 0x3403 2 = id) ∧
     (s.sx.c.reg 0x3400 1 = 3 → s.sx.fleet.actingApex = true → s.sx.c.stopInForce = true →
       s.sx.c.timeOf (s.sx.c.reg 0x3403 1) + secT 1 ≤ at_ → (at_ - s.sx.c.timeOf (s.sx.c.reg 0x3403 1)) % secT 1 = 0 →
       Gives (.flagResumeSubmit r v) s fun t => taken 3 t))) ∧
  (∀ (s : State) (r : Req) (v : Nat) (k : Submission), s.admits .shopostra r 0x3400 3 v = true → s.sx.c.reg 0x3400 1 = 4 →
    s.sx.c.flag.subs.find? (fun q => decide (q.id = s.sx.c.reg 0x3400 2 ∧ q.kind ≠ 4)) = some k →
    s.sx.c.now + minLead ≤ k.t → s.sx.c.dueSymbols s.sx.c.now < 16 →
    Gives (.flagCancelSubmit r v) s fun t => t.sx.c.reg 0x3400 5 = 3 ∧ t.sx.c.trigger (s.sx.c.reg 0x3400 2) = none ∧
      (∀ q ∈ t.sx.c.flag.subs, q.id = s.sx.c.reg 0x3400 2 → q.kind = 4) ∧ (k.kind = 2 → t.sx.c.reg 0x3403 1 = 0)) ∧
  (∀ (s : State) (id : Nat) (k : Submission), s.sx.runs = true →
    s.sx.c.flag.subs.find? (fun q => decide (q.id = id) && !q.sent) = some k →
    Gives (.flagSymbolSend id) s fun t => t.sx.c.now = max s.sx.c.now k.sendAt ∧
      (∀ q ∈ t.sx.c.flag.subs, q.id = id → q.kind = k.kind → q.sent = true) ∧
      (s.sx.c.reg 0x3400 4 = id → k.kind ≠ 4 → t.sx.c.reg 0x3400 5 = 2)) ∧
  (∀ (s : State) (p : Part) (port lane kind hops id arg : Nat), s.runs p = true → (s.com p).portUp port = true →
    (((s.com p).port port).lane lane).flagWords < 200 → hops < 8 → (s.com p).extendArg arg ≤ (s.com p).now + usT 1100 →
    (1 ≤ kind → kind ≤ 3 → (s.com p).trigger id = none → (s.com p).flag.held.length < 64 →
      Gives (.flagWordRx p port lane kind hops id arg true) s fun t =>
        (t.com p).trigger id = some { id := id, kind := kind, hops := hops, t := (s.com p).extendArg arg } ∧
        (t.com p).reg 0x3404 0 = (s.com p).flag.held.length + 1) ∧
    (∀ k : Trigger, kind = 4 → (s.com p).trigger id = some k → k.t = (s.com p).extendArg arg →
      Gives (.flagWordRx p port lane kind hops id arg true) s fun t => (t.com p).trigger id = none)) ∧
  (∀ (s : State) (id kind at_ : Nat), s.sx.runs = true → s.sx.c.reg 0x1012 0 = 3 → s.sx.fleet.actingApex = false →
    (kind = 1 ∨ kind = 3 →
      Gives (.triggerCopyRx id kind at_) s
        (s.on .shopostra fun c =>
          let others := c.flag.copied.filter fun k => decide (k.id ≠ id)
          c.onFlag fun f => { f with
            copied := others ++ [{ id := id, kind := kind, hops := 0, t := at_ }], seq := (id + 1) % 2 ^ 13 }).Near) ∧
    (kind = 4 → s.sx.c.stopInForce = false →
      Gives (.triggerCopyRx id kind at_) s
        (s.on .shopostra fun c => c.onFlag fun f => { f with
          copied := c.flag.copied.filter fun k => decide (k.id ≠ id) }).Near))

/-- Snapshots, stops and resumes act at their instants as their rules say
At T* the trigger leaves and an image of its identifier and instant is kept; a STOP also enters STOPPED, with its span and a saved image; a RESUME leaves STOPPED, ends the span and tells whether a saved image was there; SNAP_COUNT gives every open capture of its port the sender's counts, and 250 us after T* a capture that is not complete is incomplete; a tray keeps the saved images of its dies. -/
def Obligations.CutsTakeEffect : Prop :=
  (∀ (s : State) (p : Part) (id : Nat) (k : Trigger), s.runs p = true → (s.com p).trigger id = some k →
    (k.kind = 1 →
      Gives (.snapshotAction p id) s fun t => (t.com p).now = max (s.com p).now k.t ∧ (t.com p).trigger id = none ∧
        (t.com p).flag.images.head?.map (fun i => (i.id, i.kind, i.t)) = some (id, 1, k.t)) ∧
    (k.kind = 2 →
      Gives (.stopAction p id) s fun t => (t.com p).now = max (s.com p).now k.t ∧ (t.com p).trigger id = none ∧
        (t.com p).flag.images.head?.map (fun i => (i.id, i.kind, i.t)) = some (id, 2, k.t) ∧
        (t.com p).stopped = true ∧ (t.com p).flag.span = some (k.t, none) ∧ (t.com p).flag.saved.isSome = true ∧
        (t.com p).reg 0x3403 2 = id) ∧
    (k.kind = 3 → (p = .vangeg → s.vg.c.flag.restore = false) →
      Gives (.resumeAction p id) s fun t => (t.com p).now = max (s.com p).now k.t ∧ (t.com p).trigger id = none ∧
        (t.com p).stopped = false ∧ (t.com p).flag.saved = none ∧ (t.com p).reg 0x3403 1 = 0 ∧
        (t.com p).reg 0x3420 0 = (if (s.com p).stopped && (s.com p).flag.saved.isSome then 1 else 2) ∧
        (∀ a, (s.com p).flag.span = some (a, none) → (t.com p).flag.span = some (a, some k.t)))) ∧
  (∀ (s : State) (p : Part) (port : Nat) (b : List Nat), s.runs p = true →
    Gives (.snapCountRx p port b) s fun t => ∀ i ∈ (t.com p).flag.images, i.id = leAt b 2 2 →
      ∀ k ∈ i.ports, k.port = port → k.done = true ∨ k.incomplete = true ∨ k.sent.isSome = true) ∧
  (∀ (s : State) (p : Part) (port id : Nat) (i : SnapImage), s.runs p = true →
    (s.com p).flag.images.find? (fun i => decide (i.id = id)) = some i →
    Gives (.captureTimeout p port id) s fun t => (t.com p).now = max (s.com p).now (i.t + usT 250) ∧
      ∀ j ∈ (t.com p).flag.images, j.id = id → ∀ k ∈ j.ports, k.port = port → k.done = true ∨ k.incomplete = true) ∧
  (∀ (s : State) (source : Nat) (values windows : List (Nat × Nat)), s.sx.runs = true → s.sx.c.reg 0x1012 0 = 0 →
    Gives (.savedImageRx source values windows) s
      (s.on .shopostra fun c => c.onFlag fun f => { f with
        dieSaved := putKey f.dieSaved source { t := c.now, slots := [], values := values, windows := windows } }).Near)

/-- Event records, forwarding, counts and persistence do what their rules say
A good record is stored with the next position and the part's counts, a bad one counted; a forwarded record is stored once and answered; an answer ends a forward and a missing one repeats it, eight times in all; counts from the tray are stored, hours count, the counters journal is written; a waiting record is copied to NOR within the hour's budget; the die table takes a written entry. -/
def Obligations.RecordsTakeEffect : Prop :=
  (∀ (s : State) (p : Part) (sev type : Nat) (b : List Nat), s.runs p = true →
    (recordTypeOk type = true → sev ≤ 3 → recordLen b ≤ 228 → (s.com p).log.noVolatile = false →
      logBytes (s.com p).log.volatileLog + recordLen b ≤ (s.com p).reg 0x3700 1 →
      Gives (.eventRecordStore p sev type b) s fun t =>
        let c := s.com p
        (t.com p).log.volatileNext = c.log.volatileNext + 1 ∧
        (t.com p).log.volatileLog = c.log.volatileLog ++
          [{ pos := c.log.volatileNext, sev := sev, type := type, seq := c.reg 0x3707 1, ophours := c.reg 0x3707 2,
             pcycles := c.reg 0x3707 3, phys := c.phys, payload := b }] ∧
        (t.com p).reg 0x3707 1 = (c.bump 0x3707 1).reg 0x3707 1) ∧
    (recordTypeOk type = false ∨ 3 < sev ∨ 228 < recordLen b →
      Gives (.eventRecordStore p sev type b) s fun t =>
        (t.com p).reg 0x3705 5 = ((s.com p).bump 0x3705 5).reg 0x3705 5 ∧
        (t.com p).log.volatileLog = (s.com p).log.volatileLog)) ∧
  (∀ (s : State) (port pos : Nat) (b : List Nat) (r : Record), s.sx.runs = true → parseRecord b = some r →
    s.sx.c.speaks (.port port) = true →
    Gives (.forwardedRecordRx port pos b) s fun t =>
      let id := (r.phys, r.pcycles, r.seq)
      id ∈ lookupD [] t.sx.c.log.seen port ∧
      Msg.record (.port port) 0x71 ([0, 0, 0] ++ bytesLE 4 pos) ∈ t.sx.c.out ∧
      (id ∈ lookupD [] s.sx.c.log.seen port → t.sx.c.log.volatileLog = s.sx.c.log.volatileLog) ∧
      (id ∉ lookupD [] s.sx.c.log.seen port → s.sx.c.log.noVolatile = false →
        logBytes s.sx.c.log.volatileLog + recordLen r.payload ≤ s.sx.c.reg 0x3700 1 →
        t.sx.c.log.volatileLog = s.sx.c.log.volatileLog ++ [{ r with pos := s.sx.c.log.volatileNext }])) ∧
  (∀ (s : State) (port pos : Nat), s.vg.bnd.inReset = false →
    Gives (.forwardAckRx port pos) s fun t => s.Near t ∧
      t.vg.c.log.forwards = s.vg.c.log.forwards.filter fun f => !decide (f.1 % 2 ^ 32 = pos ∧ f.2.1 = port)) ∧
  (∀ (s : State) (port pos n : Nat) (due : Ticks) (r : Record), s.vg.bnd.inReset = false →
    s.vg.c.log.forwards.find? (fun f => decide (f.1 = pos ∧ f.2.1 = port)) = some (pos, port, n, due) →
    s.vg.c.log.volatileLog.find? (fun r => decide (r.pos = pos)) = some r →
    Gives (.forwardResendTimeout port pos) s fun t => t.vg.c.now = max s.vg.c.now due ∧
      (n < 8 → (pos, port, n + 1, max s.vg.c.now due + msT 1) ∈ t.vg.c.log.forwards) ∧
      (8 ≤ n → t.vg.c.reg 0x3705 7 = (s.vg.c.bump 0x3705 7).reg 0x3705 7 ∧
        ∀ f ∈ t.vg.c.log.forwards, ¬ (f.1 = pos ∧ f.2.1 = port))) ∧
  (∀ (s : State) (pcycles hours : Nat), s.vg.bnd.inReset = false →
    Gives (.dieCountsRx pcycles hours) s fun t => t.vg.c.reg 0x3707 3 = pcycles % 2 ^ 32 ∧
      t.vg.c.reg 0x3707 2 = hours % 2 ^ 32 ∧ t.vg.c.log.hoursKnown = true) ∧
  (∀ (s : State) (p : Part), s.runs p = true → (p = .vangeg → s.vg.c.log.hoursKnown = true) →
    Gives (.ophoursTick p) s fun t => (t.com p).reg 0x3707 2 = ((s.com p).bump 0x3707 2).reg 0x3707 2) ∧
  (∀ (s : State) (port serial : Nat) (b : Bool) (d : DieEntry), s.sx.runs = true → s.sx.mgt.portDie = [(port, serial, b)] →
    s.sx.c.portUp port = true → s.sx.dieEntry serial = some d →
    Gives (.ophoursTick .shopostra) s fun t =>
      t.sx.dieEntry serial = some (d.1, d.2.1, (d.2.2.1 + 1) % 2 ^ 32, d.2.2.2)) ∧
  (∀ s : State, s.sx.runs = true →
    Gives .countersJournalWrite s
      (s.onSx fun x => { x with mgt := { x.mgt with
        journalCounts := (x.c.reg 0x3707 3, x.c.reg 0x3707 2), diesNor := x.mgt.dies } }).Near) ∧
  (∀ (s : State) (pos : Nat) (rest : List Nat) (r : Record), s.sx.runs = true → s.sx.c.log.persistWaiting = pos :: rest →
    s.sx.c.log.volatileLog.find? (fun r => decide (r.pos = pos)) = some r →
    logBytes s.sx.c.log.persistentLog + recordLen r.payload ≤ s.sx.c.reg 0x3700 2 →
    Gives .persistCopy s fun t =>
      let used := if s.sx.c.hourNo = s.sx.c.log.persistHour then s.sx.c.log.persistBytes else 0
      t.sx.c.log.persistWaiting = rest ∧
      (3 ≤ r.sev ∨ used + recordLen r.payload ≤ s.sx.c.reg 0x3706 2 →
        t.sx.c.log.persistentLog = s.sx.c.log.persistentLog ++ [{ r with pos := s.sx.c.log.persistentNext }]) ∧
      (r.sev < 3 → s.sx.c.reg 0x3706 2 < used + recordLen r.payload →
        t.sx.c.log.persistentLog = s.sx.c.log.persistentLog ∧ t.sx.c.reg 0x3706 3 = (s.sx.c.bump 0x3706 3).reg 0x3706 3)) ∧
  (∀ (s : State) (r : Req) (v serial : Nat), s.admits .shopostra r 0x3711 3 v = true → s.sx.c.reg 0x1012 0 = 0 →
    s.sx.mgt.dies.length < 4096 → s.sx.c.reg 0x3711 1 = serial →
    Gives (.recDieSet r v) s fun t =>
      t.sx.dieEntry serial = some (serial, v, s.sx.c.reg 0x3711 2,
        ((s.sx.dieEntry serial).map fun d => d.2.2.2.1).getD 0, false) ∧
      t.sx.mgt.diesNor = t.sx.mgt.dies)

/-- The windows on logs and rings, the export, and the faults of the stores do what their rules say
A seek sets the cursor to the oldest record at or after its instant; the first word of a record's read answers its position and holds its words; a read with nothing to read is refused; a record is exported on every outbound port and not again; an uncorrectable word marks a ring record or removes a log record; a failed sector is retired; the loss of an HBM stack ends every ring, log and image held in it. -/
def Obligations.StoresTakeEffect : Prop :=
  (∀ (s : State) (r : Req) (v : Nat), s.admits .shopostra r 0x7112 0 v = true →
    Gives (.histSeek r v) s
      (s.onSx fun x =>
        let q := x.hring (x.c.reg 0x7110 0)
        let n := match q.records.find? (fun r => decide (totalNs x.c.mode x.c.epoch (x.c.timeOf v) ≤ r.instant)) with
          | some r => r.rpos
          | none => q.next
        x.endRingRead.onC fun c => c.setReg 0x7113 0 n).Near) ∧
  (∀ (s : State) (r : Req), s.sx.runs = true → s.sx.c.gate r 0x7114 0 false true = none → s.sx.c.reaches r = true →
    s.sx.hist.readPos = none →
    (let q := s.sx.hring (s.sx.c.reg 0x7110 0)
     (∀ e : RingRecord, q.state ≠ 0 → s.sx.c.reg 0x7113 0 < q.next →
       q.records.find? (fun r => decide (s.sx.c.reg 0x7113 0 ≤ r.rpos)) = some e →
       Gives (.histRead r 1) s fun t => t.sx.hist.readPos = some e.rpos ∧ t.sx.hist.reading = toWords e.bytes ∧
         t.sx.c.answered r none (fromLE (bytesLE 8 e.rpos))) ∧
     (q.state = 0 ∨ q.next ≤ s.sx.c.reg 0x7113 0 →
       Gives (.histRead r 1) s fun t => s.Near t ∧ t.sx.c.answered r (some .state) 0))) ∧
  (∀ (s : State) (p : Part) (r : Req), s.runs p = true → (s.com p).gate r 0x3703 0 false true = none →
    (s.com p).reaches r = true → (s.com p).log.readPos = none →
    (∀ e : Record, (s.com p).reg 0x3702 0 < (s.com p).selectedLog.2.1 →
      (s.com p).selectedLog.1.find? (fun r => decide ((s.com p).reg 0x3702 0 ≤ r.pos)) = some e →
      Gives (.recRead p r 1) s fun t => (t.com p).log.readPos = some e.pos ∧ (t.com p).log.reading = toWords e.bytes ∧
        (t.com p).answered r none (fromLE (bytesLE 8 ((s.com p).recMark e.pos)))) ∧
    ((s.com p).selectedLog.2.1 ≤ (s.com p).reg 0x3702 0 →
      Gives (.recRead p r 1) s fun t => s.Near t ∧ (t.com p).answered r (some .state) 0)) ∧
  (∀ s : State, s.sx.runs = true → s.sx.c.reg 0x7200 1 = 3 → s.sx.c.outboundPorts ≠ [] →
    (∀ r : Record, s.sx.c.log.volatileLog.find? (fun r => decide (s.sx.mgt.exportPos ≤ r.pos)) = some r →
      Gives (.exportSend none) s fun t => t.sx.mgt.exportPos = r.pos + 1 ∧
        ∀ k ∈ s.sx.c.outboundPorts, Msg.datagram k 47101 (s.sx.c.reg 0x7210 6) r.bytes ∈ t.sx.c.out) ∧
    (∀ (k : Nat) (r : RingRecord), (s.sx.hring k).records.find? (fun r => decide (lookupD 0 s.sx.mgt.exportRing k ≤ r.rpos)) = some r →
      Gives (.exportSend (some k)) s fun t => lookupD 0 t.sx.mgt.exportRing k = r.rpos + 1 ∧
        ∀ e ∈ s.sx.c.outboundPorts, Msg.datagram e 47102 (s.sx.c.reg 0x7210 6) r.bytes ∈ t.sx.c.out)) ∧
  (∀ (s : State) (k pos addr : Nat), s.sx.runs = true →
    Gives (.historyEccError (some k) pos addr) s fun t =>
      t.sx.c.reg 0x7120 2 = (s.sx.c.bump 0x7120 2).reg 0x7120 2 ∧
      (t.sx.hring k).records = (s.sx.hring k).records.map fun r => if r.rpos = pos then { r with bad := true } else r) ∧
  (∀ (s : State) (pos addr : Nat), s.sx.runs = true →
    Gives (.historyEccError none pos addr) s fun t =>
      t.sx.c.reg 0x7120 2 = (s.sx.c.bump 0x7120 2).reg 0x7120 2 ∧
      ∀ r ∈ t.sx.c.log.volatileLog, r.pos = pos → r.pos = s.sx.c.log.volatileNext) ∧
  (∀ (s : State) (sector : Nat), s.sx.runs = true →
    Gives (.norFailure sector) s
      (s.onSx fun x => { x with mgt := { x.mgt with retired := x.mgt.retired ++ [sector] } }).Near) ∧
  (∀ (s : State) (stack : Nat), s.sx.runs = true →
    Gives (.hbmStackLoss stack) s fun t => t.sx.hist.lost = true ∧ t.sx.hist.rings = [] ∧ t.sx.red.log = [] ∧
      t.sx.c.log.noVolatile = true ∧ t.sx.c.log.volatileLog = [] ∧ t.sx.c.flag.images = [])

/-- Boot, recovery, update and management resets do what their rules say
The ROM counts the power cycle, releases the ports and goes to the image or to the loader; core and extension start the image, or fail their hash; recovery fetches are counted, start recovery mode or stage an image; an update is fetched, verified and committed sector by sector; a management reset returns to the ROM and a cold reset to the state after reset with its cause; the security floor rises; parameters and link states are stored. -/
def Obligations.BootAndUpdateTakeEffect : Prop :=
  (∀ (s : State) (torn : Nat), s.sx.runs = true → s.sx.mgt.phase = .rom →
    Gives (.sxColdReset torn) s fun t =>
      (s.sx.mgt.warm = false → t.sx.pkg.portsReleased = true ∧
        t.sx.c.reg 0x3707 3 = (s.sx.mgt.journalCounts.1 + 1) % 2 ^ 32 ∧
        t.sx.c.reg 0x7001 3 = (s.sx.mgt.journalCounts.1 + 1) % 2 ^ 32) ∧
      (s.sx.mgt.warm = true → t.sx.pkg = s.sx.pkg ∧ t.sx.c.ports = s.sx.c.ports ∧
        t.sx.c.reg 0x3707 3 = s.sx.c.reg 0x3707 3) ∧
      (s.sx.mgt.nor = none → t.sx.mgt.phase = .loader ∧ t.sx.mgt.recoveryCase = 1 ∧ t.sx.c.reg 0x7200 1 = 1)) ∧
  (∀ (s : State) (i : Image), s.sx.runs = true → s.sx.mgt.phase = .checked → s.sx.mgt.nor = some i →
    Gives .bootCoreStart s fun t =>
      (i.coreDigest = i.coreHash → s.sx.mgt.cut = false → s.sx.c.reg 0x1140 4 ≠ 1 →
        t.sx.mgt.phase = .coreLoaded ∧ t.sx.mgt.warm = false ∧ t.sx.mgt.running = some i ∧ t.sx.c.reg 0x7200 2 = i.build) ∧
      (i.coreDigest ≠ i.coreHash → t.sx.mgt.phase = .loader ∧ t.sx.mgt.recoveryCase = 2 ∧ t.sx.c.reg 0x7200 1 = 1) ∧
      (i.coreDigest = i.coreHash → s.sx.mgt.cut = true → t.sx.mgt.phase = .loader ∧ t.sx.mgt.recoveryCase = 3)) ∧
  (∀ (s : State) (i : Image), s.sx.runs = true → s.sx.mgt.phase = .coreLoaded → s.sx.mgt.running = some i →
    Gives .bootExtensionDone s fun t => t.sx.mgt.phase = .running ∧
      t.sx.c.reg 0x7200 1 = (if i.extDigest = i.extHash then 3 else 4)) ∧
  (∀ s : State, s.sx.runs = true → s.sx.mgt.phase = .loader →
    Gives .recoveryFetchRetry s (s.on .shopostra fun c => c.bump 0x7200 3).Near ∧
    (s.sx.c.reg 0x7212 1 = 0 →
      Gives .recoveryPortFallback s (s.onSx fun x => x.onMgt fun q => { q with recoveryPort := 1 }).Near)) ∧
  (∀ (s : State) (i : Image), s.sx.runs = true → s.sx.mgt.phase = .loader →
    Gives (.recoveryFetchDone i) s fun t =>
      let good := s.sx.headerValid i = true ∧ i.coreDigest = i.coreHash
      (good → i.extDigest ≠ i.extHash → t.sx.mgt.phase = .recovery ∧ t.sx.mgt.running = some i ∧
        t.sx.c.reg 0x7200 1 = 2 ∧ t.sx.c.reg 0x7200 2 = i.build) ∧
      (¬ good → t.sx.mgt = s.sx.mgt ∧ t.sx.c.reg 0x7200 3 = (s.sx.c.bump 0x7200 3).reg 0x7200 3)) ∧
  (∀ (s : State) (i : Image), s.sx.runs = true → s.sx.mgt.phase = .recovery → s.sx.mgt.commit = none →
    s.sx.mgt.journal = none → i.extDigest = i.extHash →
    Gives (.recoveryFetchDone i) s fun t => t.sx.mgt.staged = some i ∧ t.sx.mgt.nor = none ∧
      (t.sx.mgt.commit.map fun k => (k.total, k.recovery)) = some (imageSectors i, true) ∧ t.sx.c.reg 0x7203 4 = 6) ∧
  (∀ (s : State) (r : Req), s.admits .shopostra r 0x7203 3 1 = true → s.sx.c.reg 0x7200 1 = 3 →
    s.sx.c.reg 0x7203 4 = 0 ∨ s.sx.c.reg 0x7203 4 = 2 ∨ s.sx.c.reg 0x7203 4 = 4 ∨ s.sx.c.reg 0x7203 4 = 7 →
    Gives (.updateFetch r) s (s.on .shopostra fun c => c.setReg 0x7203 4 1).Near) ∧
  (∀ (s : State) (i : Image), s.sx.runs = true → s.sx.c.reg 0x7203 4 = 1 →
    Gives (.updateFetchDone i) s
      (s.onSx fun x => (x.onMgt fun q => { q with staged := some i }).onC fun c =>
        (c.setReg 0x7203 4 2).setReg 0x7203 6 i.build).Near) ∧
  (∀ (s : State) (r : Req), s.admits .shopostra r 0x7203 3 2 = true → s.sx.c.reg 0x7200 1 = 3 → s.sx.c.reg 0x7203 4 = 2 →
    Gives (.updateVerify r) s (s.on .shopostra fun c => c.setReg 0x7203 4 3).Near) ∧
  (∀ (s : State) (i : Image), s.sx.runs = true → s.sx.c.reg 0x7203 4 = 3 → s.sx.mgt.staged = some i →
    Gives .updateVerifyDone s
      (s.on .shopostra fun c => c.setReg 0x7203 4
        (if s.sx.headerValid i = true ∧ i.coreDigest = i.coreHash ∧ i.extDigest = i.extHash then 4 else 5)).Near) ∧
  (∀ (s : State) (r : Req) (i : Image), s.admits .shopostra r 0x7203 3 3 = true → s.sx.c.reg 0x7200 1 = 3 →
    s.sx.c.reg 0x7203 4 = 4 → s.sx.mgt.staged = some i →
    Gives (.updateCommit r) s fun t => t.sx.c.reg 0x7203 4 = 6 ∧ t.sx.mgt.nor = none ∧
      t.sx.mgt.commit = some { next := if 1 < imageSectors i then 1 else 0, total := imageSectors i, retried := false,
                               recovery := false, since := s.sx.c.now } ∧
      (t.sx.mgt.journal.map fun e => (e.kind, e.hash)) = some (.begin_, i.headerHash)) ∧
  (∀ (s : State) (k : Commit) (i : Image), s.sx.runs = true → s.sx.mgt.commit = some k → s.sx.mgt.staged = some i →
    (k.next ≠ 0 →
      Gives (.norSectorDone true) s fun t => t.sx.c.reg 0x7203 5 = k.next ∧
        t.sx.mgt.commit = some { k with next := if k.next + 1 < k.total then k.next + 1 else 0, retried := false }) ∧
    (k.next = 0 → k.recovery = false →
      Gives (.norSectorDone true) s fun t => t.sx.mgt.commit = none ∧ t.sx.mgt.nor = some i ∧ t.sx.c.reg 0x7203 4 = 7) ∧
    (k.retried = false →
      Gives (.norSectorDone false) s (s.onSx fun x => x.onMgt fun q => { q with commit := some { k with retried := true } }).Near) ∧
    (k.retried = true →
      Gives (.norSectorDone false) s fun t => t.sx.mgt.commit = none ∧ t.sx.c.reg 0x7203 4 = 8)) ∧
  (∀ (s : State) (r : Req), s.admits .shopostra r 0x7202 0 1 = true → s.sx.mgt.commit = none →
    s.sx.mgt.calCommitting = false →
    Gives (.managementReset r) s fun t => t.sx.mgt.phase = .rom ∧ t.sx.mgt.warm = true ∧ t.sx.mgt.running = none ∧
      t.sx.mgt.staged = none ∧ t.sx.c.reg 0x7200 1 = 0 ∧ t.sx.c.ports = s.sx.c.ports ∧ t.sx.table = s.sx.table) ∧
  (∀ (s : State) (addr : Nat), s.sx.runs = true →
    Gives (.mgtSramEccError addr) s fun t => t.sx.mgt.phase = .rom ∧ t.sx.mgt.warm = true ∧ t.sx.mgt.running = none) ∧
  (∀ (s : State) (r : Req), s.admits .shopostra r 0x7202 0 2 = true → s.sx.mgt.commit = none → s.sx.mgt.calCommitting = false →
    s.sx.c.inSession = false →
    Gives (.coldResetRequest r) s fun t => t.sx.mgt.phase = .rom ∧ t.sx.mgt.warm = false ∧ t.sx.c.reg 0x1141 0 = 2 ∧
      t.sx.c.now = 0 ∧ t.sx.table = [] ∧ t.sx.mgt.nor = s.sx.mgt.nor ∧
      t.sx.c.log.persistentLog = s.sx.c.log.persistentLog ∧ t.sx.c.log.volatileLog = []) ∧
  (∀ (s : State) (r : Req) (v : Nat) (i : Image), s.admits .shopostra r 0x7201 0 v = true → s.sx.mgt.running = some i →
    s.sx.c.reg 0x7201 0 ≤ v → v ≤ i.secVersion → v ≤ 63 →
    Gives (.secFloorWrite r v) s
      (s.onSx fun x => { x with pkg := { x.pkg with secFloor := v }, c := x.c.setReg 0x7201 0 v }).Near) ∧
  (∀ (s : State) (r : Req), s.admits .shopostra r 0x7210 8 1 = true →
    Gives (.mgtParamCommit r 1) s
      (s.onSx fun x => x.onMgt fun q => { q with
        params := some ((List.range 7).map fun i => (i + 1, x.c.reg 0x7210 (i + 1))) }).Near) ∧
  (∀ (s : State) (port : Nat) (up : Bool), s.sx.runs = true → port < 2 →
    Gives (.mgtLinkChange port up) s (s.on .shopostra fun c => c.setReg 0x7212 (port + 1) (b2n up)).Near)

/-- Calibration, sensors, clocks, lasers and reset pins do what their rules say
Calibration data is stored, a good set is committed and a bad one refused by its status, and the committed set is in use; a die takes its record; sensor readings are stored after trim, a hot site trips the package and a hot engine its engine, which recovers after its cool second; a reset pin holds the part and its rise makes a cold reset with sampled straps; lost reference clocks take ports down and hold the part; a laser's presence drives its enable. -/
def Obligations.PackageTakesEffect : Prop :=
  (∀ (s : State) (r : Req) (v : Nat), s.admits .shopostra r 0x1130 1 v = true → s.sx.c.reg 0x1130 2 < calLength →
    Gives (.sxCalDataWrite r v) s
      (s.onSx fun x => (x.onMgt fun q => { q with calStage := putKey q.calStage (x.c.reg 0x1130 2 / 8) v }).onC fun c =>
        c.setReg 0x1130 2 (c.reg 0x1130 2 + 8)).Near) ∧
  (∀ (s : State) (r : Req), s.admits .shopostra r 0x1130 3 1 = true → s.sx.c.inSession = false →
    s.sx.mgt.calCommitting = false →
    Gives (.sxCalCommit r 1) s
      (s.onSx fun x => (x.onMgt fun q => { q with calCommitting := calGood q.calStage }).onC fun c =>
        c.setReg 0x1130 4 (if calGood x.mgt.calStage = true then 1 else 2)).Near) ∧
  (∀ s : State, s.sx.runs = true → s.sx.mgt.calCommitting = true →
    Gives .calibrationCommitDone s fun t => t.sx.mgt.calNor = calCleared s.sx.mgt.calStage ∧
      t.sx.mgt.calCommitting = false ∧
      (calGood (calCleared s.sx.mgt.calStage) = true → t.sx.c.reg 0x1130 4 = 0 ∧
        t.sx.mgt.calInUse = calInUse (calCleared s.sx.mgt.calStage))) ∧
  (∀ (s : State) (lane : Nat) (b : List Nat), s.vg.bnd.inReset = false → s.vg.c.portCount ≠ 2 →
    Gives (.calRecordRx lane b) s fun t => t.vg.bnd.calRecord = some b ∧
      ∀ l, l < 2 → leAt b (160 + 4 * l) 4 ≠ 0x80000000 → t.vg.c.reg 0x1221 (l + 1) = leAt b (160 + 4 * l) 4) ∧
  (∀ (s : State) (therm volt power : List Nat), s.sx.runs = true →
    Gives (.sxSensorSample therm volt power) s fun t =>
      let reading := fun i => trimmed (nth 0 therm i) (lookupD 0 s.sx.mgt.calInUse (200 + i))
      let hot := fun i => 1920 ≤ ofTwos 16 (toTwos 16 (reading i))
      (∀ i, i < 32 → t.sx.c.reg 0x1120 (i + 1) = toTwos 16 (reading i)) ∧
      (∀ i, i < 8 → t.sx.c.reg 0x1143 (i + 1) = nth 0 power i % 2 ^ 32) ∧
      ((∃ i, i < 32 ∧ (i < 16 ∨ 24 ≤ i) ∧ hot i) → t.sx.pkg.tripped = true ∧ t.sx.c.pin .thermtripN = 0 ∧
        t.sx.c.pin (.lasEn 0) = 0 ∧ t.sx.c.pin (.lasEn 1) = 0) ∧
      ((∀ i, i < 32 → (i < 16 ∨ 24 ≤ i) → ¬ hot i) → t.sx.pkg.tripped = s.sx.pkg.tripped ∧
        ∀ e, e < 8 → 1440 ≤ ofTwos 16 (toTwos 16 (reading (16 + e))) → t.sx.c.reg 0x1144 (e + 1) = 1)) ∧
  (∀ (s : State) (e : Nat) (since : Ticks), e < 8 → s.sx.runs = true →
    s.sx.pkg.coolSince.find? (fun q => decide (q.1 = e)) = some (e, since) →
    Gives (.engineRecovery e) s fun t => t.sx.c.now = max s.sx.c.now (since + secT 1) ∧ t.sx.c.reg 0x1144 (e + 1) = 0) ∧
  (∀ (s : State) (site reading : Nat), s.sx.runs = true → Gives (.railFault site reading) s s.Near) ∧
  (∀ (s : State) (porst : Bool),
    Gives (.resetPinAssert porst) s fun t => t.sx.runs = false ∧ t.sx.pkg.inReset = true ∧
      t.sx.pkg.tripped = (s.sx.pkg.tripped && !porst) ∧ t.sx.c.pin (.lasEn 0) = 0 ∧ t.sx.c.pin (.lasEn 1) = 0 ∧
      t.sx.c.pin .spiCsN = 1) ∧
  (∀ (s : State) (kind side pos recovery : Nat), s.sx.pkg.inReset = true →
    (s.sx.c.pin .resetN = 1 →
      Gives (.powerOnReset kind side pos recovery) s fun t => t.sx.pkg.inReset = false ∧ t.sx.pkg.strapKind = kind % 8 ∧
        t.sx.c.reg 0x1140 1 = kind % 8 ∧ t.sx.c.reg 0x1141 0 = (if s.sx.pkg.porCause then 0 else 1) ∧
        t.sx.mgt.phase = .rom ∧ t.sx.c.now = 0) ∧
    (s.sx.c.pin .porstN = 1 →
      Gives (.resetPin kind side pos recovery) s fun t => t.sx.pkg.inReset = false ∧ t.sx.pkg.strapSide = side % 2 ∧
        t.sx.c.reg 0x1140 3 = pos % 2 ^ 20 ∧ t.sx.c.reg 0x1141 0 = (if s.sx.pkg.porCause then 0 else 1) ∧
        t.sx.mgt.phase = .rom ∧ t.sx.c.now = 0)) ∧
  (∀ (s : State) (clk : Nat), clk < 2 → s.sx.runs = true →
    Gives (.refclkLoss clk) s fun t =>
      (∀ i, i < 24 → t.sx.c.portState (24 * clk + i) = 0 ∨ t.sx.c.portState (24 * clk + i) = 7) ∧
      t.sx.c.pin (.refclk clk) = 0 ∧ t.sx.c.pin (.refclk (1 - clk)) = s.sx.c.pin (.refclk (1 - clk)) ∧
      (s.sx.c.pin (.refclk (1 - clk)) = 1 → t.sx.pkg = s.sx.pkg) ∧
      (s.sx.c.pin (.refclk (1 - clk)) ≠ 1 → t.sx.pkg.heldForClock = true ∧ t.sx.runs = false ∧ t.sx.mgt.phase = .rom)) ∧
  (∀ (s : State) (clk : Nat), clk < 2 →
    Gives (.refclkReturn clk) s fun t => t.sx.pkg.heldForClock = false ∧
      t.sx.c.pin (.refclk clk) = 1 ∧ t.sx.c.pin (.refclk (1 - clk)) = s.sx.c.pin (.refclk (1 - clk))) ∧
  (∀ (s : State) (input : Nat) (absent : Bool), input < 2 →
    Gives (.laserPresenceChange input absent) s fun t => t.sx.c.pin (.lasPresN input) = b2n absent ∧
      t.sx.c.pin (.lasEn input) = b2n (s.sx.runs && s.sx.pkg.portsReleased && !absent))

/-- A dictionary access that is admitted reads, writes and answers, and one that is refused answers its code and changes nothing else
A read answers the value, or one word of it on the register port and the I3C target; a write of a value stores it, or clears an object that a write only clears; a block read answers bytes from the cursor and moves it; the first word of a TIME value is staged; a refused read, block read or write answers the code of the access decision and beyond it only bookkeeping changes. -/
def Obligations.DictionaryAccessTakesEffect : Prop :=
  (∀ (s : State) (p : Part) (r : Req) (idx sub word v : Nat) (o : ObjRow), s.serves p r = true →
    s.gate p r idx sub false = none → findRow idx sub = some o → word < wordsOf o.ty idx sub →
    s.value p r idx sub = some v → (s.com p).reaches r = true →
    Gives (.dictRead p r idx sub word) s fun t => (t.com p).answered r none
      (if pathKind r.path = 2 then v else ((s.com p).readWord r idx sub word v o.ty).2)) ∧
  (∀ (s : State) (p : Part) (r : Req) (idx sub word : Nat) (a : Abort), s.serves p r = true →
    s.gate p r idx sub false = some a → (s.com p).reaches r = true →
    Gives (.dictRead p r idx sub word) s fun t => s.Near t ∧ (t.com p).answered r (some a) 0) ∧
  (∀ (s : State) (p : Part) (r : Req) (idx sub word : Nat) (data : List Nat) (a : Abort), s.serves p r = true →
    s.gate p r idx sub true = some a → (s.com p).reaches r = true → data ≠ [] → data.length ≤ 24 →
    Gives (.dictWrite p r idx sub word data) s (fun t => s.Near t ∧ (t.com p).answered r (some a) 0) ∧
    Gives (.dictWriteFence p r idx sub word data) s (fun t => s.Near t ∧ (t.com p).answered r (some a) 0) ∧
    ∀ v, Gives (.registerWrite p r idx sub v) s fun t => s.Near t ∧ (t.com p).answered r (some a) 0) ∧
  (∀ (s : State) (p : Part) (r : Req) (idx sub v : Nat) (o : ObjRow), s.admits p r idx sub v = true →
    findRow idx sub = some o → plainValue p r idx sub v = true →
    let stored := s.on p fun c => c.setReg idx sub (storedForm o.ty (withoutReserved idx sub v))
    Gives (.registerWrite p r idx sub v) s stored.Near ∧
    (wordsOf o.ty idx sub = 1 → Gives (.dictWrite p r idx sub 0 [v]) s stored.Near ∧
      Gives (.dictWriteFence p r idx sub 0 [v]) s stored.Near)) ∧
  (∀ (s : State) (p : Part) (r : Req) (idx sub v : Nat), s.admits p r idx sub v = true → clears idx sub = true →
    Gives (.registerWrite p r idx sub v) s (s.on p fun c => c.setReg idx sub 0).Near) ∧
  (∀ (s : State) (p : Part) (r : Req) (idx sub lo : Nat) (o : ObjRow), s.serves p r = true →
    s.gate p r idx sub true = none → findRow idx sub = some o → o.ty = .time → (s.com p).staged r idx sub = none →
    ((s.com p).ctl.stagings.filter fun g => g.onPath r.path).length < stagingLimit r.path →
    Gives (.dictWrite p r idx sub 0 [lo]) s fun t => s.Near t ∧
      ∃ g ∈ (t.com p).ctl.stagings, g.who = reqRequester r ∧ g.key = key idx sub ∧ g.words = [(0, lo % 2 ^ 64)] ∧
        g.last = (s.com p).now) ∧
  (∀ (s : State) (p : Part) (r : Req) (idx sub word count offset : Nat) (o : ObjRow) (l : List Nat),
    s.serves p r = true → s.gate p r idx sub false = none → findRow idx sub = some o → o.ty = .blob →
    namedCursor idx sub = false → idx ≠ 0x3860 → idx ≠ 0x3861 → badWord r.path false word offset = false →
    s.blob p r idx sub = some l → (s.com p).reaches r = true →
    Gives (.dictBlockRead p r idx sub word count offset) s fun t =>
      let start := (s.com p).startAt r.path idx sub word offset
      let bytes := (l.drop start).take (if pathKind r.path = 2 then count else 8)
      (t.com p).answered r none (fromLE bytes) ∧ (t.com p).cursor r.path idx sub = start + bytes.length)

/-- Words that complete a value are the write of the whole value
A write of the one word of a value, or of the second word of a TIME value whose first word is staged, leaves the state that the write of the whole value leaves once the requester's stagings of other objects, and the one completed, are discarded. -/
def Obligations.WordWritesAreWholeWrites : Prop :=
  (∀ (s : State) (p : Part) (r : Req) (idx sub v : Nat) (o : ObjRow), s.runs p = true → findRow idx sub = some o →
    wordsOf o.ty idx sub = 1 →
    Gives (.dictWrite p r idx sub 0 [v]) s fun t =>
      exec (.registerWrite p r idx sub v) (s.on p (Common.dropOther r idx sub)) = .next t) ∧
  (∀ (s : State) (p : Part) (r : Req) (idx sub lo hi : Nat) (o : ObjRow) (g : Staging), findRow idx sub = some o →
    o.ty = .time → o.acc ≠ .wo → (s.com p).staged r idx sub = some g → g.words = [(0, lo)] → lo < 2 ^ 64 → hi < 2 ^ 64 →
    s.admits p r idx sub (lo + 2 ^ 64 * hi) = true →
    Gives (.dictWrite p r idx sub 1 [hi]) s fun t =>
      exec (.registerWrite p r idx sub (lo + 2 ^ 64 * hi))
        (s.on p fun c => (Common.dropOther r idx sub c).unstage r idx sub) = .next t)

/-- Requests, fences, relays and their timeouts do what their rules say
A request on the register port or management Ethernet is carried out as the transaction it names, or turned away; a request for a part further down is forwarded and its record kept; a reply goes back on the path of its request; a fence waits for what was accepted before it and is then answered; stagings expire after 1 ms; a request without a reply is answered at its timeout and other relays free their records at twice that time. -/
def Obligations.TransactionsTakeEffect : Prop :=
  (∀ (s : State) (tag idx sub word data priv pasid : Nat), s.vg.bnd.inReset = false → s.vg.c.pin .hrpReady = 1 →
    let r : Req := { path := .hrp, priv := priv, pasid := pasid, tag := tag % 16, source := 0 }
    let accepted := s.on .vangeg fun c => c.accept .hrp 0 (tag % 16)
    ((.hrp, 0, tag % 16) ∉ s.vg.c.underway →
      Gives (.hrpRequest 0 tag idx sub word data priv pasid) s
        (fun t => exec (.dictRead .vangeg r idx sub word) accepted = .next t) ∧
      Gives (.hrpRequest 1 tag idx sub word data priv pasid) s
        (fun t => exec (.dictWrite .vangeg r idx sub word [data]) accepted = .next t) ∧
      Gives (.hrpRequest 2 tag idx sub word data priv pasid) s
        (fun t => exec (.dictWriteFence .vangeg r idx sub word [data]) accepted = .next t) ∧
      Gives (.hrpRequest 3 tag idx sub word data priv pasid) s
        (fun t => exec (.dictBlockRead .vangeg r idx sub word 8 0xFFFFFFFF) accepted = .next t)) ∧
    ((.hrp, 0, tag % 16) ∈ s.vg.c.underway → ∀ op : Nat,
      Gives (.hrpRequest op tag idx sub word data priv pasid) s
        fun t => s.Near t ∧ t.vg.c.answered r (some .protocol) 0)) ∧
  (∀ (s : State) (src : List Nat) (q : CtlRequest) (n : Nat), s.sx.runs = true → ctlOk q = true →
    s.sx.c.peerCeiling src = some n → n ≤ q.priv → s.sx.c.duplicate 0xFFFFFFFF q.reqId = false →
    (s.sx.c.isTarget q = true → s.sx.c.isSpare = true ∨ q.depth = s.sx.c.depth → q.targetEpoch = 0xFFFFFFFF →
      s.sx.c.localCount < 256 → s.sx.mgt.warm = false → q.op = .read →
      Gives (.mgtDatagramRx src q) s fun t =>
        exec (.dictRead .shopostra { path := .mgmt, priv := q.priv, pasid := 0, tag := q.reqId, source := 0xFFFFFFFF }
          q.idx q.sub q.word) (s.on .shopostra fun c => c.accept .mgmt 0xFFFFFFFF q.reqId) = .next t) ∧
    (∀ port : Nat, s.sx.c.isTarget q = false → s.sx.c.isSpare = false → s.sx.c.route .mgmt q = some (port, false) →
      s.sx.c.ctl.relayed.length < 4096 →
      Gives (.mgtDatagramRx src q) s fun t => Msg.forward (.port port) 0xFFFFFFFF q ∈ t.sx.c.out ∧
        ∃ f ∈ t.sx.c.ctl.relayed, f.source = 0xFFFFFFFF ∧ f.reqId = q.reqId ∧ f.back = .mgmt ∧ f.out = port ∧
          f.ingress = true ∧ f.since = s.sx.c.now)) ∧
  (∀ (s : State) (src : List Nat) (q : CtlRequest), s.sx.runs = true → ctlOk q = true → s.sx.c.peerCeiling src = none →
    Gives (.mgtDatagramRx src q) s fun t => s.Near t ∧
      t.sx.c.answered { path := .mgmt, priv := q.priv, pasid := 0, tag := q.reqId, source := 0xFFFFFFFF }
        (some .privilege) 0) ∧
  (∀ (s : State) (p : Part) (port : Nat) (q : CtlResponse), s.runs p = true →
    let sought := fun (f : Relayed) => decide (f.out = port ∧ f.reqId = q.reqId ∧ f.op = q.op ∧ f.idx = q.idx ∧ f.sub = q.sub)
    ((s.com p).ctl.relayed.find? sought = none →
      Gives (.controlResponseRx p port q) s (s.on p fun c => c.bump 0x7004 5).Near) ∧
    (∀ f : Relayed, (s.com p).ctl.relayed.find? sought = some f → f.back = .mgmt →
      Gives (.controlResponseRx p port q) s fun t => Msg.response .mgmt q ∈ (t.com p).out ∧
        (t.com p).ctl.relayed = (s.com p).ctl.relayed.erase f)) ∧
  (∀ (s : State) (source reqId : Nat) (f : Relayed), s.sx.runs = true →
    (s.sx.c.ctl.relayed.find? (fun g => g.ingress && decide (g.source = source ∧ g.reqId = reqId)) = some f →
      Gives (.controlTimeout source reqId) s fun t =>
        t.sx.c.now = max s.sx.c.now (f.since + usT (s.sx.c.reg 0x1031 0)) ∧ f ∉ t.sx.c.ctl.relayed ∧
        (f.back = .mgmt → ∃ q, Msg.response .mgmt q ∈ t.sx.c.out ∧ q.reqId = f.reqId ∧ q.relayed = true ∧
          q.abort = 0x000B)) ∧
    (s.sx.c.ctl.relayed.find? (fun g => !g.ingress && decide (g.source = source ∧ g.reqId = reqId)) = some f →
      Gives (.relayRecordFree source reqId) s fun t =>
        t.sx.c.now = max s.sx.c.now (f.since + 2 * usT (s.sx.c.reg 0x1031 0)) ∧
        t.sx.c.ctl.relayed = s.sx.c.ctl.relayed.erase f)) ∧
  (∀ (s : State) (p : Part) (u : Ticks), s.runs p = true → (s.com p).stagingDue = some u →
    Gives (.stagingExpiry p) s fun t => (t.com p).now = max (s.com p).now u ∧
      (t.com p).ctl.stagings = (s.com p).ctl.stagings.filter fun g => decide ((t.com p).now < g.last + msT 1)) ∧
  (∀ (s : State) (p : Part) (r : Req), s.runs p = true → (s.com p).pathAdmits r = true → pathKind r.path = 2 →
    Gives (.dictFence p r) s
      (s.on p fun c => (let f : Fence := { serial := c.ctl.serial, req := none, path := r.path, source := r.source,
                                           reqId := r.tag, idx := 0, sub := 0 }
                        { c with ctl := { c.ctl with fences := c.ctl.fences ++ [f] } })).Near) ∧
  (∀ (s : State) (p : Part) (r : Req) (v : Nat), s.admits p r 0x1030 1 v = true →
    Gives (.fenceReqWrite p r v) s fun t => (t.com p).reg 0x1030 1 = v ∧
      ∃ f, (t.com p).ctl.fences = (s.com p).ctl.fences ++ [f] ∧ f.serial = (s.com p).ctl.serial ∧ f.req = some v) ∧
  (∀ (s : State) (p : Part) (f : Fence) (rest : List Fence), s.runs p = true → (s.com p).ctl.fences = f :: rest →
    let ended := s.on p fun c => { c with ctl := { c.ctl with fences := rest } }
    (s.settled p f.serial = false → Gives (.partFenceComplete p) s s.Near) ∧
    (∀ v : Nat, s.settled p f.serial = true → f.req = some v →
      Gives (.partFenceComplete p) s (ended.on p fun c => c.setReg 0x1030 2 v).Near) ∧
    (s.settled p f.serial = true → f.req = none → f.path = .mgmt →
      Gives (.partFenceComplete p) s fun t => ended.Near t ∧
        (t.com p).answered { path := .mgmt, priv := 0, pasid := 0, tag := f.reqId, source := f.source } none 0))

/-- A step runs the command at the front of the queue
A step of a state whose queue has a command in front is that command's effect on the state with the queue's rest. -/
def Obligations.StepRunsTheFrontCommand : Prop :=
  ∀ (c : Instr) (rest : List Instr) (s : State), step { s with pending := c :: rest } = exec c { s with pending := rest }

/-- With no command waiting a step is one tick of each counter that runs (log entry 8: the model's choice)
A Vangeg whose hub PLL has locked and a Shopostra that runs add the rate term and the slew term of R58 to their counters; nothing else of either part changes, and a part that does not run keeps its counter. That a step on an empty queue is a tick is the model's choice (log entry 8). -/
def Obligations.EmptyQueueTicks : Prop :=
  ∀ (s : State), s.pending = [] → ∃ t, step s = .next t ∧ t.pending = [] ∧
    t.vg = { s.vg with c := { s.vg.c with now :=
      if s.vg.bnd.inReset = false ∧ s.vg.bnd.pllLocked = true then
        ((s.vg.c.now : Int) + (s.vg.c.reg 0x1204 0 : Int) + s.vg.c.tempo.slew).toNat
      else s.vg.c.now } } ∧
    t.sx = { s.sx with c := { s.sx.c with now :=
      if s.sx.runs = true then ((s.sx.c.now : Int) + (s.sx.c.reg 0x1204 0 : Int) + s.sx.c.tempo.slew).toNat
      else s.sx.c.now } }

/-- Every command has an effect, on the part it addresses alone and from that part's state alone
For every command and every state the command leaves a next state in which only the addressed part may differ, the queue and the other part being as before; and what it makes of the addressed part is the same from every state in which that part is the same. -/
def Obligations.CommandsActOnOnePart : Prop :=
  ∀ (c : Instr) (s : State),
    (c.part = .vangeg → ∃ v : Vangeg, ∀ s' : State, s'.vg = s.vg → exec c s' = .next { s' with vg := v }) ∧
    (c.part = .shopostra → ∃ x : Shopostra, ∀ s' : State, s'.sx = s.sx → exec c s' = .next { s' with sx := x })

/-- A part that does not run ignores every command but those of its reset and its package
While a Vangeg is held in reset, every command to it but its two reset events leaves the state as it was; while a Shopostra is in reset, tripped or held for want of a clock, every command to it but those of its pins, clocks and lasers does. -/
def Obligations.HeldPartsIgnoreCommands : Prop :=
  ∀ (c : Instr) (s : State),
    (c.part = .vangeg → s.vg.bnd.inReset = true → vangegReset c = false → exec c s = .next s) ∧
    (c.part = .shopostra → s.sx.runs = false → packageCommand c = false → exec c s = .next s)

/-- Every step keeps the outputs as the state says
Where FENCE_OUT, HMW_SQ_VALID, ERR_READY, THERMTRIP_N and the laser enables are as the state says they must be and no unit is in transit inside a part, they are so after the step too, whatever the command and with none waiting. -/
def Obligations.OutputsFollowTheState : Prop :=
  ∀ (s t : State), s.Outputs → step s = .next t → t.Outputs

/-- After reset the outputs are as the state says
The invariant of the outputs holds of the state after reset, where FENCE_OUT is 1. -/
def Obligations.OutputsAtReset : Prop :=
  State.reset.Outputs ∧ State.reset.vg.c.pin .fenceOut = 1

/-- The state after reset has the values that the spec gives
Both parts are fenced, their ports are in state 0, Tempo runs free in LINEAR mode, no slice is bound, the latch period is 125 us, HRP_REQ_READY is 0, the Shopostra is in its ROM, its stream table is empty, its lasers are off, and nothing waits. -/
def Obligations.ResetValues : Prop :=
  State.reset.pending = [] ∧
  State.reset.vg.c.reg 0x7001 2 = 1 ∧ State.reset.sx.c.reg 0x7001 2 = 1 ∧
  (∀ p, p < 48 → State.reset.sx.c.portState p = 0) ∧ State.reset.vg.c.portState 0 = 0 ∧
  State.reset.vg.c.tempoState = 0 ∧ State.reset.sx.c.tempoState = 0 ∧
  State.reset.vg.c.mode = 0 ∧ State.reset.sx.c.mode = 0 ∧
  (∀ k, k < 64 → State.reset.vg.sliceState k = 0) ∧
  State.reset.vg.c.reg 0x2900 0 = 125 ∧ State.reset.vg.pawn.period = 125 ∧
  State.reset.vg.c.pin .hrpReady = 0 ∧ State.reset.vg.c.pin .cleanEpoch = 0 ∧ State.reset.vg.bnd.i3cAddress = 0x2C ∧
  State.reset.sx.c.reg 0x7200 1 = 0 ∧ State.reset.sx.table = [] ∧ State.reset.sx.pkg.portsReleased = false ∧
  State.reset.sx.c.pin (.lasEn 0) = 0 ∧ State.reset.sx.c.pin (.lasEn 1) = 0

/-- A READ or WRITE of an object that the part does not have is answered with the non-existent object code
A read, and a write of 1 to 24 words, of an index and subindex that are not defined for the part is answered with code 1; beyond the answer only bookkeeping changes. -/
def Obligations.AbsentObjectsAnswerNoObject : Prop :=
  ∀ (s : State) (p : Part) (r : Req) (idx sub word : Nat) (data : List Nat), s.runs p = true →
    (s.com p).exists_ idx sub = false → (s.com p).reaches r = true → data ≠ [] → data.length ≤ 24 →
    abortCode (some .noObject) = 1 ∧
    Gives (.dictRead p r idx sub word) s (fun t => s.Near t ∧ (t.com p).answered r (some .noObject) 0) ∧
    Gives (.dictWrite p r idx sub word data) s (fun t => s.Near t ∧ (t.com p).answered r (some .noObject) 0)

/-- A compare object refuses an instant that is not in the future
An admitted write of a nonzero instant at or before the current Tempo to TEMPO_CMP is answered with the value-out-of-range code, and neither the object nor its status changes. -/
def Obligations.PastCompareInstantsAreRefused : Prop :=
  ∀ (s : State) (p : Part) (r : Req) (n v : Nat), s.admits p r 0x1210 n v = true → (s.com p).reaches r = true → v ≠ 0 →
    (s.com p).timeOf v ≤ (s.com p).now →
    Gives (.tempoCmpArm p r n v) s fun t => (t.com p).answered r (some .value) 0 ∧ s.Near t ∧
      (t.com p).reg 0x1210 n = (s.com p).reg 0x1210 n ∧ (t.com p).reg 0x1211 n = (s.com p).reg 0x1211 n

/-- Every request through the I3C target carries privilege P1 and no PASID
A private write of a request is the dictionary access that it names, from the I3C path at P1 with PASID 0, for each of the four operations. -/
def Obligations.I3cRequestsCarryP1 : Prop :=
  ∀ (s : State) (tag idx sub word d : Nat), s.vg.bnd.inReset = false → s.vg.bnd.pllLocked = true →
    s.vg.c.ctl.i3c = none ∨ s.vg.c.ctl.i3cSince ≠ s.vg.c.now → idx < 65536 → d < 2 ^ 64 →
    let r : Req := { path := .i3c, priv := 1, pasid := 0, tag := tag, source := 0 }
    let head := fun op => [op, tag] ++ bytesLE 2 idx ++ [sub, word]
    Gives (.i3cPrivateWrite (head 0)) s (fun t => exec (.dictRead .vangeg r idx sub word) s = .next t) ∧
    Gives (.i3cPrivateWrite (head 1 ++ bytesLE 8 d)) s (fun t => exec (.dictWrite .vangeg r idx sub word [d]) s = .next t) ∧
    Gives (.i3cPrivateWrite (head 2 ++ bytesLE 8 d)) s
      (fun t => exec (.dictWriteFence .vangeg r idx sub word [d]) s = .next t) ∧
    Gives (.i3cPrivateWrite (head 3)) s
      (fun t => exec (.dictBlockRead .vangeg r idx sub word 8 0xFFFFFFFF) s = .next t)

/-- The total nanosecond count in each mode, and the wrap of the short stamp
In LINEAR mode the count is the NS field of the TIME value; in CALENDAR mode it is SEC modulo 2^32 times 1,000,000,000 plus NS; a short stamp is the same 2^32 ns later in both modes. -/
def Obligations.NanosecondCounts : Prop :=
  ∀ (epoch cls t : Nat), cls < 4 →
    totalNs 0 epoch t = bits (encodeTime 0 epoch cls t) 95 32 ∧
    totalNs 1 epoch t =
      bits (encodeTime 1 epoch cls t) 109 62 % 2 ^ 32 * 1000000000 + bits (encodeTime 1 epoch cls t) 61 32 ∧
    ∀ (kd : Part) (c : Common kd) (u : Nat), c.stampU u (t + 2 ^ 32 * ns) = c.stampU u t

/-- Requests at P3 and P4 reach the objects of their own slice only
A P3 or P4 access to an object of a slice that is not the requester's bound slice is refused with the privilege code, or the code of an absent object, and changes only bookkeeping; an object that names no slice is not refused for its slice, nor is any object at P2 and above; while its slice is resetting a request that would be carried out is answered with the state code, and its PASID is not bound to another slice. -/
def Obligations.SlicesAreIsolated : Prop :=
  (∀ (s : State) (r : Req) (idx sub word v k : Nat), s.vg.bnd.inReset = false → 3 ≤ r.priv → r.path = .hrp →
    s.vg.objectSlice idx sub = some k → s.vg.sliceOfPasid r.pasid ≠ some k →
    let a := if s.vg.c.exists_ idx sub = true then Abort.privilege else Abort.noObject
    Gives (.dictRead .vangeg r idx sub word) s (fun t => s.Near t ∧ t.vg.c.answered r (some a) 0) ∧
    Gives (.dictWrite .vangeg r idx sub word [v]) s (fun t => s.Near t ∧ t.vg.c.answered r (some a) 0) ∧
    Gives (.registerWrite .vangeg r idx sub v) s (fun t => s.Near t ∧ t.vg.c.answered r (some a) 0)) ∧
  (∀ (s : State) (r : Req) (idx sub : Nat), s.vg.objectSlice idx sub = none →
    (∀ k, s.vg.sliceOfPasid r.pasid = some k → (s.vg.slice k).parityBad = false) → s.vg.sliceAdmits r idx sub = true) ∧
  (∀ (s : State) (r : Req) (idx sub : Nat), r.priv ≤ 2 → s.vg.sliceAdmits r idx sub = true) ∧
  (∀ (s : State) (r : Req) (idx sub v k : Nat), s.vg.bnd.inReset = false → 3 ≤ r.priv → r.path = .hrp →
    s.vg.sliceOfPasid r.pasid = some k → s.vg.sliceState k = 2 →
    (s.gate .vangeg r idx sub false = none →
      Gives (.dictRead .vangeg r idx sub 0) s (fun t => s.Near t ∧ ∃ a, a ∈ [Abort.state, Abort.type] ∧
        t.vg.c.answered r (some a) 0)) ∧
    (s.gate .vangeg r idx sub true = none → s.vg.c.fits idx sub v = true →
      Gives (.registerWrite .vangeg r idx sub v) s (fun t => s.Near t ∧ t.vg.c.answered r (some .state) 0))) ∧
  (∀ (s : State) (r : Req) (k j : Nat), k < 64 → j < 64 → j ≠ k → r.path = .hrp → r.priv = 2 →
    s.admits .vangeg r (0x3810 + j) 3 1 = true → s.vg.sliceState k = 2 → s.vg.slicePasid j = s.vg.slicePasid k →
    Gives (.sliceBind r j) s fun t => s.Near t ∧ t.vg.c.answered r (some .value) 0)
end

