-- ==== Sys2Proof/Laws/Store.lean ====
section
/-! SUPPORT. Laws of the keyed lists and of the register store: a read after a write, and the canonical form. -/

namespace Sys2Proof.Machine

variable {α β : Type} [DecidableEq α]

@[simp] theorem lookupD_putKey_same (d : β) (m : List (α × β)) (k : α) (v : β) : lookupD d (putKey m k v) k = v := by
  induction m with
  | nil => simp [putKey, lookupD]
  | cons p m ih => by_cases h : p.1 = k <;> simp [putKey, lookupD, h, ih]

theorem lookupD_putKey_other (d : β) (m : List (α × β)) {k j : α} (v : β) (h : j ≠ k) :
    lookupD d (putKey m k v) j = lookupD d m j := by
  induction m with
  | nil => simp [putKey, lookupD, h.symm]
  | cons p m ih =>
    by_cases hk : p.1 = k
    · subst hk; simp [putKey, lookupD, h.symm]
    · by_cases hj : p.1 = j
      · subst hj; simp [putKey, lookupD, hk]
      · simp [putKey, lookupD, hk, hj, ih]

@[simp] theorem storeFind_erase_same (m : List (Nat × Nat)) (k : Nat) : storeFind (storeErase m k) k = none := by
  induction m with
  | nil => rfl
  | cons p m ih => by_cases h : p.1 = k <;> simp [storeErase, storeFind, h, ih]

theorem storeFind_erase_other (m : List (Nat × Nat)) {k j : Nat} (h : j ≠ k) :
    storeFind (storeErase m k) j = storeFind m j := by
  induction m with
  | nil => rfl
  | cons p m ih =>
    by_cases hk : p.1 = k
    · have hj : p.1 ≠ j := fun e => h (e.symm.trans hk)
      simp only [storeErase, storeFind, hk, if_true, ih]
      simp [h.symm]
    · by_cases hj : p.1 = j
      · subst hj; simp [storeErase, storeFind, hk]
      · simp [storeErase, storeFind, hk, hj, ih]

@[simp] theorem storeFind_insert_same (m : List (Nat × Nat)) (k v : Nat) : storeFind (storeInsert m k v) k = some v := by
  induction m with
  | nil => simp [storeInsert, storeFind]
  | cons p m ih =>
    by_cases h1 : k < p.1
    · simp [storeInsert, storeFind, h1]
    · by_cases h2 : p.1 = k <;> simp [storeInsert, storeFind, h1, h2, ih]

theorem storeFind_insert_other (m : List (Nat × Nat)) {k j : Nat} (v : Nat) (h : j ≠ k) :
    storeFind (storeInsert m k v) j = storeFind m j := by
  induction m with
  | nil => simp [storeInsert, storeFind, h.symm]
  | cons p m ih =>
    by_cases h1 : k < p.1
    · simp [storeInsert, storeFind, h1, h.symm]
    · by_cases h2 : p.1 = k
      · subst h2; simp [storeInsert, storeFind, h.symm]
      · by_cases hj : p.1 = j
        · subst hj; simp [storeInsert, storeFind, h1, h2]
        · simp [storeInsert, storeFind, h1, h2, hj, ih]

/-- A read after a write of the same object gives the value written. -/
@[simp] theorem storeGet_set_same (p : Part) (m : List (Nat × Nat)) (k v : Nat) : storeGet p (storeSet p m k v) k = v := by
  unfold storeGet storeSet
  split <;> simp_all

/-- A write leaves every other object alone. -/
theorem storeGet_set_other (p : Part) (m : List (Nat × Nat)) {k j : Nat} (v : Nat) (h : j ≠ k) :
    storeGet p (storeSet p m k v) j = storeGet p m j := by
  unfold storeGet storeSet
  split <;> simp [storeFind_erase_other, storeFind_insert_other, h]

/-- Every key of a store lies above a bound. -/
def keysAbove (b : Nat) (m : List (Nat × Nat)) : Prop := ∀ q ∈ m, b < q.1

theorem storeWf_cons (p : Part) (q : Nat × Nat) (m : List (Nat × Nat)) :
    storeWf p (q :: m) = true ↔ q.2 ≠ defaultAt p q.1 ∧ keysAbove q.1 m ∧ storeWf p m = true := by
  induction m generalizing q with
  | nil => simp [storeWf, keysAbove]
  | cons r m ih =>
    have hr := ih r
    constructor
    · intro h
      simp only [storeWf, Bool.and_eq_true, decide_eq_true_eq] at h
      obtain ⟨⟨h1, h2⟩, h3⟩ := h
      have h3' : storeWf p (r :: m) = true := by simp only [storeWf, Bool.and_eq_true, decide_eq_true_eq]; exact h3
      refine ⟨h1, ?_, h3'⟩
      intro x hx
      rcases List.mem_cons.mp hx with rfl | hx
      · exact h2
      · exact Nat.lt_trans h2 ((hr.mp h3').2.1 x hx)
    · rintro ⟨h1, h2, h3⟩
      have := h2 r (by simp)
      simp only [storeWf, Bool.and_eq_true, decide_eq_true_eq] at h3 ⊢
      exact ⟨⟨h1, this⟩, h3⟩

theorem keysAbove_erase {b k : Nat} {m : List (Nat × Nat)} (h : keysAbove b m) : keysAbove b (storeErase m k) := by
  induction m with
  | nil => exact h
  | cons q m ih =>
    have hm : keysAbove b m := fun x hx => h x (by simp [hx])
    unfold storeErase
    split
    · exact ih hm
    · intro x hx
      rcases List.mem_cons.mp hx with rfl | hx
      · exact h _ (by simp)
      · exact ih hm x hx

theorem keysAbove_insert {b k v : Nat} {m : List (Nat × Nat)} (h : keysAbove b m) (hk : b < k) :
    keysAbove b (storeInsert m k v) := by
  induction m with
  | nil => intro x hx; simp [storeInsert] at hx; subst hx; exact hk
  | cons q m ih =>
    have hm : keysAbove b m := fun x hx => h x (by simp [hx])
    have hq : b < q.1 := h q (by simp)
    unfold storeInsert
    split
    · intro x hx
      simp only [List.mem_cons] at hx
      rcases hx with rfl | rfl | hx
      · exact hk
      · exact hq
      · exact hm x hx
    · split
      · intro x hx
        rcases List.mem_cons.mp hx with rfl | hx
        · exact hk
        · exact hm x hx
      · intro x hx
        rcases List.mem_cons.mp hx with rfl | hx
        · exact hq
        · exact ih hm x hx

theorem storeWf_erase (p : Part) {m : List (Nat × Nat)} (k : Nat) (h : storeWf p m = true) : storeWf p (storeErase m k) = true := by
  induction m with
  | nil => exact h
  | cons q m ih =>
    obtain ⟨h1, h2, h3⟩ := (storeWf_cons p q m).mp h
    unfold storeErase
    split
    · exact ih h3
    · exact (storeWf_cons p q _).mpr ⟨h1, keysAbove_erase h2, ih h3⟩

theorem storeWf_insert (p : Part) {m : List (Nat × Nat)} (k v : Nat) (h : storeWf p m = true) (hv : v ≠ defaultAt p k) :
    storeWf p (storeInsert m k v) = true := by
  induction m with
  | nil => exact (storeWf_cons p (k, v) []).mpr ⟨hv, fun x hx => by simp at hx, rfl⟩
  | cons q m ih =>
    obtain ⟨h1, h2, h3⟩ := (storeWf_cons p q m).mp h
    unfold storeInsert
    split
    · rename_i hk
      refine (storeWf_cons p (k, v) _).mpr ⟨hv, ?_, h⟩
      intro x hx
      rcases List.mem_cons.mp hx with rfl | hx
      · exact hk
      · exact Nat.lt_trans hk (h2 x hx)
    · split
      · rename_i hk
        refine (storeWf_cons p (k, v) _).mpr ⟨hv, ?_, h3⟩
        intro x hx
        have := h2 x hx
        omega
      · rename_i h4 h5
        refine (storeWf_cons p q _).mpr ⟨h1, keysAbove_insert h2 (by omega), ih h3⟩

/-- A write keeps the canonical form. -/
theorem storeWf_set (p : Part) {m : List (Nat × Nat)} (k v : Nat) (h : storeWf p m = true) : storeWf p (storeSet p m k v) = true := by
  unfold storeSet
  split
  · exact storeWf_erase p k h
  · exact storeWf_insert p k v h ‹_›

theorem key_inj {i s j t : Nat} : key i s = key j t ↔ i = j ∧ s % 256 = t % 256 := by
  unfold key; omega

end Sys2Proof.Machine
end

