-- ==== Sys2Proof/Laws/State.lean ====
section
/-! SUPPORT. What each update of a part of State leaves and what it writes: one lemma per field, true by rfl. -/

namespace Sys2Proof.Machine

variable {kd : Part}

@[simp] theorem Common.kind_eq (c : Common kd) : c.kind = kd := rfl

@[simp] theorem Common.setReg_dict (c : Common kd) (i s v : Nat) : (c.setReg i s v).dict = storeSet kd c.dict (key i s) v := rfl
@[simp] theorem Common.setReg_now (c : Common kd) (i s v : Nat) : (c.setReg i s v).now = c.now := rfl
@[simp] theorem Common.setReg_out (c : Common kd) (i s v : Nat) : (c.setReg i s v).out = c.out := rfl
@[simp] theorem Common.setReg_fresh (c : Common kd) (i s v : Nat) : (c.setReg i s v).fresh = c.fresh := rfl
@[simp] theorem Common.setReg_pins (c : Common kd) (i s v : Nat) : (c.setReg i s v).pins = c.pins := rfl
@[simp] theorem Common.setReg_tempo (c : Common kd) (i s v : Nat) : (c.setReg i s v).tempo = c.tempo := rfl
@[simp] theorem Common.setReg_ctl (c : Common kd) (i s v : Nat) : (c.setReg i s v).ctl = c.ctl := rfl
@[simp] theorem Common.setReg_dbg (c : Common kd) (i s v : Nat) : (c.setReg i s v).dbg = c.dbg := rfl
@[simp] theorem Common.setReg_log (c : Common kd) (i s v : Nat) : (c.setReg i s v).log = c.log := rfl
@[simp] theorem Common.setReg_bud (c : Common kd) (i s v : Nat) : (c.setReg i s v).bud = c.bud := rfl
@[simp] theorem Common.setReg_ports (c : Common kd) (i s v : Nat) : (c.setReg i s v).ports = c.ports := rfl
@[simp] theorem Common.setReg_bindings (c : Common kd) (i s v : Nat) : (c.setReg i s v).bindings = c.bindings := rfl
@[simp] theorem Common.setReg_bist (c : Common kd) (i s v : Nat) : (c.setReg i s v).bist = c.bist := rfl
@[simp] theorem Common.setReg_strm (c : Common kd) (i s v : Nat) : (c.setReg i s v).strm = c.strm := rfl
@[simp] theorem Common.setReg_live (c : Common kd) (i s v : Nat) : (c.setReg i s v).live = c.live := rfl
@[simp] theorem Common.setReg_flag (c : Common kd) (i s v : Nat) : (c.setReg i s v).flag = c.flag := rfl

@[simp] theorem Common.send_dict (c : Common kd) (m : Msg) : (c.send m).dict = c.dict := rfl
@[simp] theorem Common.send_now (c : Common kd) (m : Msg) : (c.send m).now = c.now := rfl
@[simp] theorem Common.send_out (c : Common kd) (m : Msg) : (c.send m).out = m :: c.out := rfl
@[simp] theorem Common.send_fresh (c : Common kd) (m : Msg) : (c.send m).fresh = c.fresh := rfl
@[simp] theorem Common.send_pins (c : Common kd) (m : Msg) : (c.send m).pins = c.pins := rfl
@[simp] theorem Common.send_tempo (c : Common kd) (m : Msg) : (c.send m).tempo = c.tempo := rfl
@[simp] theorem Common.send_ctl (c : Common kd) (m : Msg) : (c.send m).ctl = c.ctl := rfl
@[simp] theorem Common.send_dbg (c : Common kd) (m : Msg) : (c.send m).dbg = c.dbg := rfl
@[simp] theorem Common.send_log (c : Common kd) (m : Msg) : (c.send m).log = c.log := rfl
@[simp] theorem Common.send_bud (c : Common kd) (m : Msg) : (c.send m).bud = c.bud := rfl
@[simp] theorem Common.send_ports (c : Common kd) (m : Msg) : (c.send m).ports = c.ports := rfl
@[simp] theorem Common.send_bindings (c : Common kd) (m : Msg) : (c.send m).bindings = c.bindings := rfl
@[simp] theorem Common.send_bist (c : Common kd) (m : Msg) : (c.send m).bist = c.bist := rfl
@[simp] theorem Common.send_strm (c : Common kd) (m : Msg) : (c.send m).strm = c.strm := rfl
@[simp] theorem Common.send_live (c : Common kd) (m : Msg) : (c.send m).live = c.live := rfl
@[simp] theorem Common.send_flag (c : Common kd) (m : Msg) : (c.send m).flag = c.flag := rfl

@[simp] theorem Common.setPin_dict (c : Common kd) (p : Pin) (v : Nat) : (c.setPin p v).dict = c.dict := rfl
@[simp] theorem Common.setPin_now (c : Common kd) (p : Pin) (v : Nat) : (c.setPin p v).now = c.now := rfl
@[simp] theorem Common.setPin_out (c : Common kd) (p : Pin) (v : Nat) : (c.setPin p v).out = c.out := rfl
@[simp] theorem Common.setPin_fresh (c : Common kd) (p : Pin) (v : Nat) : (c.setPin p v).fresh = c.fresh := rfl
@[simp] theorem Common.setPin_pins (c : Common kd) (p : Pin) (v : Nat) : (c.setPin p v).pins = putKey c.pins p v := rfl
@[simp] theorem Common.setPin_tempo (c : Common kd) (p : Pin) (v : Nat) : (c.setPin p v).tempo = c.tempo := rfl
@[simp] theorem Common.setPin_ctl (c : Common kd) (p : Pin) (v : Nat) : (c.setPin p v).ctl = c.ctl := rfl
@[simp] theorem Common.setPin_dbg (c : Common kd) (p : Pin) (v : Nat) : (c.setPin p v).dbg = c.dbg := rfl
@[simp] theorem Common.setPin_log (c : Common kd) (p : Pin) (v : Nat) : (c.setPin p v).log = c.log := rfl
@[simp] theorem Common.setPin_bud (c : Common kd) (p : Pin) (v : Nat) : (c.setPin p v).bud = c.bud := rfl
@[simp] theorem Common.setPin_ports (c : Common kd) (p : Pin) (v : Nat) : (c.setPin p v).ports = c.ports := rfl
@[simp] theorem Common.setPin_bindings (c : Common kd) (p : Pin) (v : Nat) : (c.setPin p v).bindings = c.bindings := rfl
@[simp] theorem Common.setPin_bist (c : Common kd) (p : Pin) (v : Nat) : (c.setPin p v).bist = c.bist := rfl
@[simp] theorem Common.setPin_strm (c : Common kd) (p : Pin) (v : Nat) : (c.setPin p v).strm = c.strm := rfl
@[simp] theorem Common.setPin_live (c : Common kd) (p : Pin) (v : Nat) : (c.setPin p v).live = c.live := rfl
@[simp] theorem Common.setPin_flag (c : Common kd) (p : Pin) (v : Nat) : (c.setPin p v).flag = c.flag := rfl

@[simp] theorem Common.arrive_dict (c : Common kd) (t : Ticks) : (c.arrive t).dict = c.dict := rfl
@[simp] theorem Common.arrive_now (c : Common kd) (t : Ticks) : (c.arrive t).now = max c.now t := rfl
@[simp] theorem Common.arrive_out (c : Common kd) (t : Ticks) : (c.arrive t).out = c.out := rfl
@[simp] theorem Common.arrive_fresh (c : Common kd) (t : Ticks) : (c.arrive t).fresh = c.fresh := rfl
@[simp] theorem Common.arrive_pins (c : Common kd) (t : Ticks) : (c.arrive t).pins = c.pins := rfl
@[simp] theorem Common.arrive_tempo (c : Common kd) (t : Ticks) : (c.arrive t).tempo = c.tempo := rfl
@[simp] theorem Common.arrive_ctl (c : Common kd) (t : Ticks) : (c.arrive t).ctl = c.ctl := rfl
@[simp] theorem Common.arrive_dbg (c : Common kd) (t : Ticks) : (c.arrive t).dbg = c.dbg := rfl
@[simp] theorem Common.arrive_log (c : Common kd) (t : Ticks) : (c.arrive t).log = c.log := rfl
@[simp] theorem Common.arrive_bud (c : Common kd) (t : Ticks) : (c.arrive t).bud = c.bud := rfl
@[simp] theorem Common.arrive_ports (c : Common kd) (t : Ticks) : (c.arrive t).ports = c.ports := rfl
@[simp] theorem Common.arrive_bindings (c : Common kd) (t : Ticks) : (c.arrive t).bindings = c.bindings := rfl
@[simp] theorem Common.arrive_bist (c : Common kd) (t : Ticks) : (c.arrive t).bist = c.bist := rfl
@[simp] theorem Common.arrive_strm (c : Common kd) (t : Ticks) : (c.arrive t).strm = c.strm := rfl
@[simp] theorem Common.arrive_live (c : Common kd) (t : Ticks) : (c.arrive t).live = c.live := rfl
@[simp] theorem Common.arrive_flag (c : Common kd) (t : Ticks) : (c.arrive t).flag = c.flag := rfl

@[simp] theorem Common.setPort_dict (c : Common kd) (p : Nat) (q : Port) : (c.setPort p q).dict = c.dict := rfl
@[simp] theorem Common.setPort_now (c : Common kd) (p : Nat) (q : Port) : (c.setPort p q).now = c.now := rfl
@[simp] theorem Common.setPort_out (c : Common kd) (p : Nat) (q : Port) : (c.setPort p q).out = c.out := rfl
@[simp] theorem Common.setPort_fresh (c : Common kd) (p : Nat) (q : Port) : (c.setPort p q).fresh = c.fresh := rfl
@[simp] theorem Common.setPort_pins (c : Common kd) (p : Nat) (q : Port) : (c.setPort p q).pins = c.pins := rfl
@[simp] theorem Common.setPort_tempo (c : Common kd) (p : Nat) (q : Port) : (c.setPort p q).tempo = c.tempo := rfl
@[simp] theorem Common.setPort_ctl (c : Common kd) (p : Nat) (q : Port) : (c.setPort p q).ctl = c.ctl := rfl
@[simp] theorem Common.setPort_dbg (c : Common kd) (p : Nat) (q : Port) : (c.setPort p q).dbg = c.dbg := rfl
@[simp] theorem Common.setPort_log (c : Common kd) (p : Nat) (q : Port) : (c.setPort p q).log = c.log := rfl
@[simp] theorem Common.setPort_bud (c : Common kd) (p : Nat) (q : Port) : (c.setPort p q).bud = c.bud := rfl
@[simp] theorem Common.setPort_ports (c : Common kd) (p : Nat) (q : Port) : (c.setPort p q).ports = putKey c.ports p q := rfl
@[simp] theorem Common.setPort_bindings (c : Common kd) (p : Nat) (q : Port) : (c.setPort p q).bindings = c.bindings := rfl
@[simp] theorem Common.setPort_bist (c : Common kd) (p : Nat) (q : Port) : (c.setPort p q).bist = c.bist := rfl
@[simp] theorem Common.setPort_strm (c : Common kd) (p : Nat) (q : Port) : (c.setPort p q).strm = c.strm := rfl
@[simp] theorem Common.setPort_live (c : Common kd) (p : Nat) (q : Port) : (c.setPort p q).live = c.live := rfl
@[simp] theorem Common.setPort_flag (c : Common kd) (p : Nat) (q : Port) : (c.setPort p q).flag = c.flag := rfl

@[simp] theorem Common.onLive_dict (c : Common kd) (f : Live → Live) : (c.onLive f).dict = c.dict := rfl
@[simp] theorem Common.onLive_now (c : Common kd) (f : Live → Live) : (c.onLive f).now = c.now := rfl
@[simp] theorem Common.onLive_out (c : Common kd) (f : Live → Live) : (c.onLive f).out = c.out := rfl
@[simp] theorem Common.onLive_fresh (c : Common kd) (f : Live → Live) : (c.onLive f).fresh = c.fresh := rfl
@[simp] theorem Common.onLive_pins (c : Common kd) (f : Live → Live) : (c.onLive f).pins = c.pins := rfl
@[simp] theorem Common.onLive_tempo (c : Common kd) (f : Live → Live) : (c.onLive f).tempo = c.tempo := rfl
@[simp] theorem Common.onLive_ctl (c : Common kd) (f : Live → Live) : (c.onLive f).ctl = c.ctl := rfl
@[simp] theorem Common.onLive_dbg (c : Common kd) (f : Live → Live) : (c.onLive f).dbg = c.dbg := rfl
@[simp] theorem Common.onLive_log (c : Common kd) (f : Live → Live) : (c.onLive f).log = c.log := rfl
@[simp] theorem Common.onLive_bud (c : Common kd) (f : Live → Live) : (c.onLive f).bud = c.bud := rfl
@[simp] theorem Common.onLive_ports (c : Common kd) (f : Live → Live) : (c.onLive f).ports = c.ports := rfl
@[simp] theorem Common.onLive_bindings (c : Common kd) (f : Live → Live) : (c.onLive f).bindings = c.bindings := rfl
@[simp] theorem Common.onLive_bist (c : Common kd) (f : Live → Live) : (c.onLive f).bist = c.bist := rfl
@[simp] theorem Common.onLive_strm (c : Common kd) (f : Live → Live) : (c.onLive f).strm = c.strm := rfl
@[simp] theorem Common.onLive_live (c : Common kd) (f : Live → Live) : (c.onLive f).live = f c.live := rfl
@[simp] theorem Common.onLive_flag (c : Common kd) (f : Live → Live) : (c.onLive f).flag = c.flag := rfl

@[simp] theorem Common.onBist_dict (c : Common kd) (f : Director → Director) : (c.onBist f).dict = c.dict := rfl
@[simp] theorem Common.onBist_now (c : Common kd) (f : Director → Director) : (c.onBist f).now = c.now := rfl
@[simp] theorem Common.onBist_out (c : Common kd) (f : Director → Director) : (c.onBist f).out = c.out := rfl
@[simp] theorem Common.onBist_fresh (c : Common kd) (f : Director → Director) : (c.onBist f).fresh = c.fresh := rfl
@[simp] theorem Common.onBist_pins (c : Common kd) (f : Director → Director) : (c.onBist f).pins = c.pins := rfl
@[simp] theorem Common.onBist_tempo (c : Common kd) (f : Director → Director) : (c.onBist f).tempo = c.tempo := rfl
@[simp] theorem Common.onBist_ctl (c : Common kd) (f : Director → Director) : (c.onBist f).ctl = c.ctl := rfl
@[simp] theorem Common.onBist_dbg (c : Common kd) (f : Director → Director) : (c.onBist f).dbg = c.dbg := rfl
@[simp] theorem Common.onBist_log (c : Common kd) (f : Director → Director) : (c.onBist f).log = c.log := rfl
@[simp] theorem Common.onBist_bud (c : Common kd) (f : Director → Director) : (c.onBist f).bud = c.bud := rfl
@[simp] theorem Common.onBist_ports (c : Common kd) (f : Director → Director) : (c.onBist f).ports = c.ports := rfl
@[simp] theorem Common.onBist_bindings (c : Common kd) (f : Director → Director) : (c.onBist f).bindings = c.bindings := rfl
@[simp] theorem Common.onBist_bist (c : Common kd) (f : Director → Director) : (c.onBist f).bist = f c.bist := rfl
@[simp] theorem Common.onBist_strm (c : Common kd) (f : Director → Director) : (c.onBist f).strm = c.strm := rfl
@[simp] theorem Common.onBist_live (c : Common kd) (f : Director → Director) : (c.onBist f).live = c.live := rfl
@[simp] theorem Common.onBist_flag (c : Common kd) (f : Director → Director) : (c.onBist f).flag = c.flag := rfl

@[simp] theorem Common.onDbg_dict (c : Common kd) (f : DebugAuth → DebugAuth) : (c.onDbg f).dict = c.dict := rfl
@[simp] theorem Common.onDbg_now (c : Common kd) (f : DebugAuth → DebugAuth) : (c.onDbg f).now = c.now := rfl
@[simp] theorem Common.onDbg_out (c : Common kd) (f : DebugAuth → DebugAuth) : (c.onDbg f).out = c.out := rfl
@[simp] theorem Common.onDbg_fresh (c : Common kd) (f : DebugAuth → DebugAuth) : (c.onDbg f).fresh = c.fresh := rfl
@[simp] theorem Common.onDbg_pins (c : Common kd) (f : DebugAuth → DebugAuth) : (c.onDbg f).pins = c.pins := rfl
@[simp] theorem Common.onDbg_tempo (c : Common kd) (f : DebugAuth → DebugAuth) : (c.onDbg f).tempo = c.tempo := rfl
@[simp] theorem Common.onDbg_ctl (c : Common kd) (f : DebugAuth → DebugAuth) : (c.onDbg f).ctl = c.ctl := rfl
@[simp] theorem Common.onDbg_dbg (c : Common kd) (f : DebugAuth → DebugAuth) : (c.onDbg f).dbg = f c.dbg := rfl
@[simp] theorem Common.onDbg_log (c : Common kd) (f : DebugAuth → DebugAuth) : (c.onDbg f).log = c.log := rfl
@[simp] theorem Common.onDbg_bud (c : Common kd) (f : DebugAuth → DebugAuth) : (c.onDbg f).bud = c.bud := rfl
@[simp] theorem Common.onDbg_ports (c : Common kd) (f : DebugAuth → DebugAuth) : (c.onDbg f).ports = c.ports := rfl
@[simp] theorem Common.onDbg_bindings (c : Common kd) (f : DebugAuth → DebugAuth) : (c.onDbg f).bindings = c.bindings := rfl
@[simp] theorem Common.onDbg_bist (c : Common kd) (f : DebugAuth → DebugAuth) : (c.onDbg f).bist = c.bist := rfl
@[simp] theorem Common.onDbg_strm (c : Common kd) (f : DebugAuth → DebugAuth) : (c.onDbg f).strm = c.strm := rfl
@[simp] theorem Common.onDbg_live (c : Common kd) (f : DebugAuth → DebugAuth) : (c.onDbg f).live = c.live := rfl
@[simp] theorem Common.onDbg_flag (c : Common kd) (f : DebugAuth → DebugAuth) : (c.onDbg f).flag = c.flag := rfl

@[simp] theorem Common.setTest_dict (c : Common kd) (t : Option Test) : (c.setTest t).dict = c.dict := rfl
@[simp] theorem Common.setTest_now (c : Common kd) (t : Option Test) : (c.setTest t).now = c.now := rfl
@[simp] theorem Common.setTest_out (c : Common kd) (t : Option Test) : (c.setTest t).out = c.out := rfl
@[simp] theorem Common.setTest_fresh (c : Common kd) (t : Option Test) : (c.setTest t).fresh = c.fresh := rfl
@[simp] theorem Common.setTest_pins (c : Common kd) (t : Option Test) : (c.setTest t).pins = c.pins := rfl
@[simp] theorem Common.setTest_tempo (c : Common kd) (t : Option Test) : (c.setTest t).tempo = c.tempo := rfl
@[simp] theorem Common.setTest_ctl (c : Common kd) (t : Option Test) : (c.setTest t).ctl = c.ctl := rfl
@[simp] theorem Common.setTest_dbg (c : Common kd) (t : Option Test) : (c.setTest t).dbg = c.dbg := rfl
@[simp] theorem Common.setTest_log (c : Common kd) (t : Option Test) : (c.setTest t).log = c.log := rfl
@[simp] theorem Common.setTest_bud (c : Common kd) (t : Option Test) : (c.setTest t).bud = c.bud := rfl
@[simp] theorem Common.setTest_ports (c : Common kd) (t : Option Test) : (c.setTest t).ports = c.ports := rfl
@[simp] theorem Common.setTest_bindings (c : Common kd) (t : Option Test) : (c.setTest t).bindings = c.bindings := rfl
@[simp] theorem Common.setTest_bist (c : Common kd) (t : Option Test) : (c.setTest t).bist = { c.bist with current := t } := rfl
@[simp] theorem Common.setTest_strm (c : Common kd) (t : Option Test) : (c.setTest t).strm = c.strm := rfl
@[simp] theorem Common.setTest_live (c : Common kd) (t : Option Test) : (c.setTest t).live = c.live := rfl
@[simp] theorem Common.setTest_flag (c : Common kd) (t : Option Test) : (c.setTest t).flag = c.flag := rfl

@[simp] theorem Common.setExchange_dict (c : Common kd) (l : Nat) (e : Exchange) : (c.setExchange l e).dict = c.dict := rfl
@[simp] theorem Common.setExchange_now (c : Common kd) (l : Nat) (e : Exchange) : (c.setExchange l e).now = c.now := rfl
@[simp] theorem Common.setExchange_out (c : Common kd) (l : Nat) (e : Exchange) : (c.setExchange l e).out = c.out := rfl
@[simp] theorem Common.setExchange_fresh (c : Common kd) (l : Nat) (e : Exchange) : (c.setExchange l e).fresh = c.fresh := rfl
@[simp] theorem Common.setExchange_pins (c : Common kd) (l : Nat) (e : Exchange) : (c.setExchange l e).pins = c.pins := rfl
@[simp] theorem Common.setExchange_tempo (c : Common kd) (l : Nat) (e : Exchange) : (c.setExchange l e).tempo = { c.tempo with exch := putKey c.tempo.exch l e } := rfl
@[simp] theorem Common.setExchange_ctl (c : Common kd) (l : Nat) (e : Exchange) : (c.setExchange l e).ctl = c.ctl := rfl
@[simp] theorem Common.setExchange_dbg (c : Common kd) (l : Nat) (e : Exchange) : (c.setExchange l e).dbg = c.dbg := rfl
@[simp] theorem Common.setExchange_log (c : Common kd) (l : Nat) (e : Exchange) : (c.setExchange l e).log = c.log := rfl
@[simp] theorem Common.setExchange_bud (c : Common kd) (l : Nat) (e : Exchange) : (c.setExchange l e).bud = c.bud := rfl
@[simp] theorem Common.setExchange_ports (c : Common kd) (l : Nat) (e : Exchange) : (c.setExchange l e).ports = c.ports := rfl
@[simp] theorem Common.setExchange_bindings (c : Common kd) (l : Nat) (e : Exchange) : (c.setExchange l e).bindings = c.bindings := rfl
@[simp] theorem Common.setExchange_bist (c : Common kd) (l : Nat) (e : Exchange) : (c.setExchange l e).bist = c.bist := rfl
@[simp] theorem Common.setExchange_strm (c : Common kd) (l : Nat) (e : Exchange) : (c.setExchange l e).strm = c.strm := rfl
@[simp] theorem Common.setExchange_live (c : Common kd) (l : Nat) (e : Exchange) : (c.setExchange l e).live = c.live := rfl
@[simp] theorem Common.setExchange_flag (c : Common kd) (l : Nat) (e : Exchange) : (c.setExchange l e).flag = c.flag := rfl

@[simp] theorem Common.takeSerial_dict (c : Common kd)  : (c.takeSerial).1.dict = c.dict := rfl
@[simp] theorem Common.takeSerial_now (c : Common kd)  : (c.takeSerial).1.now = c.now := rfl
@[simp] theorem Common.takeSerial_out (c : Common kd)  : (c.takeSerial).1.out = c.out := rfl
@[simp] theorem Common.takeSerial_fresh (c : Common kd)  : (c.takeSerial).1.fresh = c.fresh := rfl
@[simp] theorem Common.takeSerial_pins (c : Common kd)  : (c.takeSerial).1.pins = c.pins := rfl
@[simp] theorem Common.takeSerial_tempo (c : Common kd)  : (c.takeSerial).1.tempo = c.tempo := rfl
@[simp] theorem Common.takeSerial_ctl (c : Common kd)  : (c.takeSerial).1.ctl = { c.ctl with serial := c.ctl.serial + 1 } := rfl
@[simp] theorem Common.takeSerial_dbg (c : Common kd)  : (c.takeSerial).1.dbg = c.dbg := rfl
@[simp] theorem Common.takeSerial_log (c : Common kd)  : (c.takeSerial).1.log = c.log := rfl
@[simp] theorem Common.takeSerial_bud (c : Common kd)  : (c.takeSerial).1.bud = c.bud := rfl
@[simp] theorem Common.takeSerial_ports (c : Common kd)  : (c.takeSerial).1.ports = c.ports := rfl
@[simp] theorem Common.takeSerial_bindings (c : Common kd)  : (c.takeSerial).1.bindings = c.bindings := rfl
@[simp] theorem Common.takeSerial_bist (c : Common kd)  : (c.takeSerial).1.bist = c.bist := rfl
@[simp] theorem Common.takeSerial_strm (c : Common kd)  : (c.takeSerial).1.strm = c.strm := rfl
@[simp] theorem Common.takeSerial_live (c : Common kd)  : (c.takeSerial).1.live = c.live := rfl
@[simp] theorem Common.takeSerial_flag (c : Common kd)  : (c.takeSerial).1.flag = c.flag := rfl

@[simp] theorem Common.drawFree_dict (c : Common kd) (w : Nat) : (c.drawFree w).1.dict = c.dict := rfl
@[simp] theorem Common.drawFree_now (c : Common kd) (w : Nat) : (c.drawFree w).1.now = c.now := rfl
@[simp] theorem Common.drawFree_out (c : Common kd) (w : Nat) : (c.drawFree w).1.out = c.out := rfl
@[simp] theorem Common.drawFree_fresh (c : Common kd) (w : Nat) : (c.drawFree w).1.fresh = c.fresh + 1 := rfl
@[simp] theorem Common.drawFree_pins (c : Common kd) (w : Nat) : (c.drawFree w).1.pins = c.pins := rfl
@[simp] theorem Common.drawFree_tempo (c : Common kd) (w : Nat) : (c.drawFree w).1.tempo = c.tempo := rfl
@[simp] theorem Common.drawFree_ctl (c : Common kd) (w : Nat) : (c.drawFree w).1.ctl = c.ctl := rfl
@[simp] theorem Common.drawFree_dbg (c : Common kd) (w : Nat) : (c.drawFree w).1.dbg = c.dbg := rfl
@[simp] theorem Common.drawFree_log (c : Common kd) (w : Nat) : (c.drawFree w).1.log = c.log := rfl
@[simp] theorem Common.drawFree_bud (c : Common kd) (w : Nat) : (c.drawFree w).1.bud = c.bud := rfl
@[simp] theorem Common.drawFree_ports (c : Common kd) (w : Nat) : (c.drawFree w).1.ports = c.ports := rfl
@[simp] theorem Common.drawFree_bindings (c : Common kd) (w : Nat) : (c.drawFree w).1.bindings = c.bindings := rfl
@[simp] theorem Common.drawFree_bist (c : Common kd) (w : Nat) : (c.drawFree w).1.bist = c.bist := rfl
@[simp] theorem Common.drawFree_strm (c : Common kd) (w : Nat) : (c.drawFree w).1.strm = c.strm := rfl
@[simp] theorem Common.drawFree_live (c : Common kd) (w : Nat) : (c.drawFree w).1.live = c.live := rfl
@[simp] theorem Common.drawFree_flag (c : Common kd) (w : Nat) : (c.drawFree w).1.flag = c.flag := rfl

@[simp] theorem Vangeg.onC_c (v : Vangeg) (f : Common .vangeg → Common .vangeg) : (v.onC f).c = f v.c := rfl
@[simp] theorem Vangeg.onC_bnd (v : Vangeg) (f : Common .vangeg → Common .vangeg) : (v.onC f).bnd = v.bnd := rfl
@[simp] theorem Vangeg.onC_slices (v : Vangeg) (f : Common .vangeg → Common .vangeg) : (v.onC f).slices = v.slices := rfl
@[simp] theorem Vangeg.onC_pawn (v : Vangeg) (f : Common .vangeg → Common .vangeg) : (v.onC f).pawn = v.pawn := rfl
@[simp] theorem Vangeg.onC_trc (v : Vangeg) (f : Common .vangeg → Common .vangeg) : (v.onC f).trc = v.trc := rfl
@[simp] theorem Vangeg.onC_sig (v : Vangeg) (f : Common .vangeg → Common .vangeg) : (v.onC f).sig = v.sig := rfl

@[simp] theorem Vangeg.onSig_c (v : Vangeg) (f : SigUnit → SigUnit) : (v.onSig f).c = v.c := rfl
@[simp] theorem Vangeg.onSig_bnd (v : Vangeg) (f : SigUnit → SigUnit) : (v.onSig f).bnd = v.bnd := rfl
@[simp] theorem Vangeg.onSig_slices (v : Vangeg) (f : SigUnit → SigUnit) : (v.onSig f).slices = v.slices := rfl
@[simp] theorem Vangeg.onSig_pawn (v : Vangeg) (f : SigUnit → SigUnit) : (v.onSig f).pawn = v.pawn := rfl
@[simp] theorem Vangeg.onSig_trc (v : Vangeg) (f : SigUnit → SigUnit) : (v.onSig f).trc = v.trc := rfl
@[simp] theorem Vangeg.onSig_sig (v : Vangeg) (f : SigUnit → SigUnit) : (v.onSig f).sig = f v.sig := rfl

@[simp] theorem Vangeg.setUnit_c (v : Vangeg) (u : Nat) (q : UnitSig) : (v.setUnit u q).c = v.c := rfl
@[simp] theorem Vangeg.setUnit_bnd (v : Vangeg) (u : Nat) (q : UnitSig) : (v.setUnit u q).bnd = v.bnd := rfl
@[simp] theorem Vangeg.setUnit_slices (v : Vangeg) (u : Nat) (q : UnitSig) : (v.setUnit u q).slices = v.slices := rfl
@[simp] theorem Vangeg.setUnit_pawn (v : Vangeg) (u : Nat) (q : UnitSig) : (v.setUnit u q).pawn = v.pawn := rfl
@[simp] theorem Vangeg.setUnit_trc (v : Vangeg) (u : Nat) (q : UnitSig) : (v.setUnit u q).trc = v.trc := rfl
@[simp] theorem Vangeg.setUnit_sig (v : Vangeg) (u : Nat) (q : UnitSig) : (v.setUnit u q).sig = { v.sig with units := putKey v.sig.units u q } := rfl

@[simp] theorem Vangeg.setSlice_c (v : Vangeg) (s : Nat) (q : Slice) : (v.setSlice s q).c = v.c := rfl
@[simp] theorem Vangeg.setSlice_bnd (v : Vangeg) (s : Nat) (q : Slice) : (v.setSlice s q).bnd = v.bnd := rfl
@[simp] theorem Vangeg.setSlice_slices (v : Vangeg) (s : Nat) (q : Slice) : (v.setSlice s q).slices = putKey v.slices s q := rfl
@[simp] theorem Vangeg.setSlice_pawn (v : Vangeg) (s : Nat) (q : Slice) : (v.setSlice s q).pawn = v.pawn := rfl
@[simp] theorem Vangeg.setSlice_trc (v : Vangeg) (s : Nat) (q : Slice) : (v.setSlice s q).trc = v.trc := rfl
@[simp] theorem Vangeg.setSlice_sig (v : Vangeg) (s : Nat) (q : Slice) : (v.setSlice s q).sig = v.sig := rfl

@[simp] theorem Vangeg.setRing_c (v : Vangeg) (r : Nat) (q : Ring) : (v.setRing r q).c = v.c := rfl
@[simp] theorem Vangeg.setRing_bnd (v : Vangeg) (r : Nat) (q : Ring) : (v.setRing r q).bnd = v.bnd := rfl
@[simp] theorem Vangeg.setRing_slices (v : Vangeg) (r : Nat) (q : Ring) : (v.setRing r q).slices = v.slices := rfl
@[simp] theorem Vangeg.setRing_trc (v : Vangeg) (r : Nat) (q : Ring) : (v.setRing r q).trc = v.trc := rfl
@[simp] theorem Vangeg.setRing_sig (v : Vangeg) (r : Nat) (q : Ring) : (v.setRing r q).sig = v.sig := rfl

@[simp] theorem Vangeg.setCell_c (v : Vangeg) (n : Nat) (q : Cell) : (v.setCell n q).c = v.c := rfl
@[simp] theorem Vangeg.setCell_bnd (v : Vangeg) (n : Nat) (q : Cell) : (v.setCell n q).bnd = v.bnd := rfl
@[simp] theorem Vangeg.setCell_slices (v : Vangeg) (n : Nat) (q : Cell) : (v.setCell n q).slices = v.slices := rfl
@[simp] theorem Vangeg.setCell_trc (v : Vangeg) (n : Nat) (q : Cell) : (v.setCell n q).trc = v.trc := rfl
@[simp] theorem Vangeg.setCell_sig (v : Vangeg) (n : Nat) (q : Cell) : (v.setCell n q).sig = v.sig := rfl

@[simp] theorem Vangeg.setSrc_c (v : Vangeg) (s : Nat) (q : TraceSrc) : (v.setSrc s q).c = v.c := rfl
@[simp] theorem Vangeg.setSrc_bnd (v : Vangeg) (s : Nat) (q : TraceSrc) : (v.setSrc s q).bnd = v.bnd := rfl
@[simp] theorem Vangeg.setSrc_slices (v : Vangeg) (s : Nat) (q : TraceSrc) : (v.setSrc s q).slices = v.slices := rfl
@[simp] theorem Vangeg.setSrc_pawn (v : Vangeg) (s : Nat) (q : TraceSrc) : (v.setSrc s q).pawn = v.pawn := rfl
@[simp] theorem Vangeg.setSrc_sig (v : Vangeg) (s : Nat) (q : TraceSrc) : (v.setSrc s q).sig = v.sig := rfl

@[simp] theorem Vangeg.setIsland_c (v : Vangeg) (i : Nat) (q : Island) : (v.setIsland i q).c = v.c := rfl
@[simp] theorem Vangeg.setIsland_slices (v : Vangeg) (i : Nat) (q : Island) : (v.setIsland i q).slices = v.slices := rfl
@[simp] theorem Vangeg.setIsland_pawn (v : Vangeg) (i : Nat) (q : Island) : (v.setIsland i q).pawn = v.pawn := rfl
@[simp] theorem Vangeg.setIsland_trc (v : Vangeg) (i : Nat) (q : Island) : (v.setIsland i q).trc = v.trc := rfl
@[simp] theorem Vangeg.setIsland_sig (v : Vangeg) (i : Nat) (q : Island) : (v.setIsland i q).sig = v.sig := rfl

@[simp] theorem Shopostra.onC_c (x : Shopostra) (f : Common .shopostra → Common .shopostra) : (x.onC f).c = f x.c := rfl
@[simp] theorem Shopostra.onC_fleet (x : Shopostra) (f : Common .shopostra → Common .shopostra) : (x.onC f).fleet = x.fleet := rfl
@[simp] theorem Shopostra.onC_mgt (x : Shopostra) (f : Common .shopostra → Common .shopostra) : (x.onC f).mgt = x.mgt := rfl
@[simp] theorem Shopostra.onC_pkg (x : Shopostra) (f : Common .shopostra → Common .shopostra) : (x.onC f).pkg = x.pkg := rfl
@[simp] theorem Shopostra.onC_hist (x : Shopostra) (f : Common .shopostra → Common .shopostra) : (x.onC f).hist = x.hist := rfl
@[simp] theorem Shopostra.onC_table (x : Shopostra) (f : Common .shopostra → Common .shopostra) : (x.onC f).table = x.table := rfl
@[simp] theorem Shopostra.onC_red (x : Shopostra) (f : Common .shopostra → Common .shopostra) : (x.onC f).red = x.red := rfl
@[simp] theorem Shopostra.onC_tan (x : Shopostra) (f : Common .shopostra → Common .shopostra) : (x.onC f).tan = x.tan := rfl
@[simp] theorem Shopostra.onC_ver (x : Shopostra) (f : Common .shopostra → Common .shopostra) : (x.onC f).ver = x.ver := rfl

@[simp] theorem Shopostra.onFleet_c (x : Shopostra) (f : Fleet → Fleet) : (x.onFleet f).c = x.c := rfl
@[simp] theorem Shopostra.onFleet_fleet (x : Shopostra) (f : Fleet → Fleet) : (x.onFleet f).fleet = f x.fleet := rfl
@[simp] theorem Shopostra.onFleet_mgt (x : Shopostra) (f : Fleet → Fleet) : (x.onFleet f).mgt = x.mgt := rfl
@[simp] theorem Shopostra.onFleet_pkg (x : Shopostra) (f : Fleet → Fleet) : (x.onFleet f).pkg = x.pkg := rfl
@[simp] theorem Shopostra.onFleet_hist (x : Shopostra) (f : Fleet → Fleet) : (x.onFleet f).hist = x.hist := rfl
@[simp] theorem Shopostra.onFleet_table (x : Shopostra) (f : Fleet → Fleet) : (x.onFleet f).table = x.table := rfl
@[simp] theorem Shopostra.onFleet_red (x : Shopostra) (f : Fleet → Fleet) : (x.onFleet f).red = x.red := rfl
@[simp] theorem Shopostra.onFleet_tan (x : Shopostra) (f : Fleet → Fleet) : (x.onFleet f).tan = x.tan := rfl
@[simp] theorem Shopostra.onFleet_ver (x : Shopostra) (f : Fleet → Fleet) : (x.onFleet f).ver = x.ver := rfl

@[simp] theorem Shopostra.onMgt_c (x : Shopostra) (f : Mgt → Mgt) : (x.onMgt f).c = x.c := rfl
@[simp] theorem Shopostra.onMgt_fleet (x : Shopostra) (f : Mgt → Mgt) : (x.onMgt f).fleet = x.fleet := rfl
@[simp] theorem Shopostra.onMgt_mgt (x : Shopostra) (f : Mgt → Mgt) : (x.onMgt f).mgt = f x.mgt := rfl
@[simp] theorem Shopostra.onMgt_pkg (x : Shopostra) (f : Mgt → Mgt) : (x.onMgt f).pkg = x.pkg := rfl
@[simp] theorem Shopostra.onMgt_hist (x : Shopostra) (f : Mgt → Mgt) : (x.onMgt f).hist = x.hist := rfl
@[simp] theorem Shopostra.onMgt_table (x : Shopostra) (f : Mgt → Mgt) : (x.onMgt f).table = x.table := rfl
@[simp] theorem Shopostra.onMgt_red (x : Shopostra) (f : Mgt → Mgt) : (x.onMgt f).red = x.red := rfl
@[simp] theorem Shopostra.onMgt_tan (x : Shopostra) (f : Mgt → Mgt) : (x.onMgt f).tan = x.tan := rfl
@[simp] theorem Shopostra.onMgt_ver (x : Shopostra) (f : Mgt → Mgt) : (x.onMgt f).ver = x.ver := rfl

@[simp] theorem Shopostra.onRed_c (x : Shopostra) (f : Reduction → Reduction) : (x.onRed f).c = x.c := rfl
@[simp] theorem Shopostra.onRed_fleet (x : Shopostra) (f : Reduction → Reduction) : (x.onRed f).fleet = x.fleet := rfl
@[simp] theorem Shopostra.onRed_mgt (x : Shopostra) (f : Reduction → Reduction) : (x.onRed f).mgt = x.mgt := rfl
@[simp] theorem Shopostra.onRed_pkg (x : Shopostra) (f : Reduction → Reduction) : (x.onRed f).pkg = x.pkg := rfl
@[simp] theorem Shopostra.onRed_hist (x : Shopostra) (f : Reduction → Reduction) : (x.onRed f).hist = x.hist := rfl
@[simp] theorem Shopostra.onRed_table (x : Shopostra) (f : Reduction → Reduction) : (x.onRed f).table = x.table := rfl
@[simp] theorem Shopostra.onRed_red (x : Shopostra) (f : Reduction → Reduction) : (x.onRed f).red = f x.red := rfl
@[simp] theorem Shopostra.onRed_tan (x : Shopostra) (f : Reduction → Reduction) : (x.onRed f).tan = x.tan := rfl
@[simp] theorem Shopostra.onRed_ver (x : Shopostra) (f : Reduction → Reduction) : (x.onRed f).ver = x.ver := rfl

@[simp] theorem Shopostra.onTan_c (x : Shopostra) (f : Tangent → Tangent) : (x.onTan f).c = x.c := rfl
@[simp] theorem Shopostra.onTan_fleet (x : Shopostra) (f : Tangent → Tangent) : (x.onTan f).fleet = x.fleet := rfl
@[simp] theorem Shopostra.onTan_mgt (x : Shopostra) (f : Tangent → Tangent) : (x.onTan f).mgt = x.mgt := rfl
@[simp] theorem Shopostra.onTan_pkg (x : Shopostra) (f : Tangent → Tangent) : (x.onTan f).pkg = x.pkg := rfl
@[simp] theorem Shopostra.onTan_hist (x : Shopostra) (f : Tangent → Tangent) : (x.onTan f).hist = x.hist := rfl
@[simp] theorem Shopostra.onTan_table (x : Shopostra) (f : Tangent → Tangent) : (x.onTan f).table = x.table := rfl
@[simp] theorem Shopostra.onTan_red (x : Shopostra) (f : Tangent → Tangent) : (x.onTan f).red = x.red := rfl
@[simp] theorem Shopostra.onTan_tan (x : Shopostra) (f : Tangent → Tangent) : (x.onTan f).tan = f x.tan := rfl
@[simp] theorem Shopostra.onTan_ver (x : Shopostra) (f : Tangent → Tangent) : (x.onTan f).ver = x.ver := rfl

@[simp] theorem Shopostra.onVer_c (x : Shopostra) (f : VerdictUnit → VerdictUnit) : (x.onVer f).c = x.c := rfl
@[simp] theorem Shopostra.onVer_fleet (x : Shopostra) (f : VerdictUnit → VerdictUnit) : (x.onVer f).fleet = x.fleet := rfl
@[simp] theorem Shopostra.onVer_mgt (x : Shopostra) (f : VerdictUnit → VerdictUnit) : (x.onVer f).mgt = x.mgt := rfl
@[simp] theorem Shopostra.onVer_pkg (x : Shopostra) (f : VerdictUnit → VerdictUnit) : (x.onVer f).pkg = x.pkg := rfl
@[simp] theorem Shopostra.onVer_hist (x : Shopostra) (f : VerdictUnit → VerdictUnit) : (x.onVer f).hist = x.hist := rfl
@[simp] theorem Shopostra.onVer_table (x : Shopostra) (f : VerdictUnit → VerdictUnit) : (x.onVer f).table = x.table := rfl
@[simp] theorem Shopostra.onVer_red (x : Shopostra) (f : VerdictUnit → VerdictUnit) : (x.onVer f).red = x.red := rfl
@[simp] theorem Shopostra.onVer_tan (x : Shopostra) (f : VerdictUnit → VerdictUnit) : (x.onVer f).tan = x.tan := rfl
@[simp] theorem Shopostra.onVer_ver (x : Shopostra) (f : VerdictUnit → VerdictUnit) : (x.onVer f).ver = f x.ver := rfl

@[simp] theorem Shopostra.setEntry_c (x : Shopostra) (t : Nat) (e : Entry) : (x.setEntry t e).c = x.c := rfl
@[simp] theorem Shopostra.setEntry_fleet (x : Shopostra) (t : Nat) (e : Entry) : (x.setEntry t e).fleet = x.fleet := rfl
@[simp] theorem Shopostra.setEntry_mgt (x : Shopostra) (t : Nat) (e : Entry) : (x.setEntry t e).mgt = x.mgt := rfl
@[simp] theorem Shopostra.setEntry_pkg (x : Shopostra) (t : Nat) (e : Entry) : (x.setEntry t e).pkg = x.pkg := rfl
@[simp] theorem Shopostra.setEntry_hist (x : Shopostra) (t : Nat) (e : Entry) : (x.setEntry t e).hist = x.hist := rfl
@[simp] theorem Shopostra.setEntry_table (x : Shopostra) (t : Nat) (e : Entry) : (x.setEntry t e).table = putKey x.table t e := rfl
@[simp] theorem Shopostra.setEntry_red (x : Shopostra) (t : Nat) (e : Entry) : (x.setEntry t e).red = x.red := rfl
@[simp] theorem Shopostra.setEntry_tan (x : Shopostra) (t : Nat) (e : Entry) : (x.setEntry t e).tan = x.tan := rfl
@[simp] theorem Shopostra.setEntry_ver (x : Shopostra) (t : Nat) (e : Entry) : (x.setEntry t e).ver = x.ver := rfl

/-- A register read after its write. -/
@[simp] theorem Common.reg_setReg_same (c : Common kd) (i s v : Nat) : (c.setReg i s v).reg i s = v := by
  simp [Common.reg]

/-- A register read after a write of another. -/
theorem Common.reg_setReg_other (c : Common kd) {i s j t : Nat} (v : Nat) (h : key j t ≠ key i s) :
    (c.setReg i s v).reg j t = c.reg j t := by
  simp [Common.reg, storeGet_set_other, h]

/-- Reading a register looks at the store and the kind only. -/
theorem Common.reg_congr {c d : Common kd} (hd : d.dict = c.dict) (i s : Nat) : d.reg i s = c.reg i s := by
  simp [Common.reg, hd]

@[simp] theorem Common.reg_send (c : Common kd) (m : Msg) (i s : Nat) : (c.send m).reg i s = c.reg i s := rfl
@[simp] theorem Common.reg_setPin (c : Common kd) (p : Pin) (v : Nat) (i s : Nat) : (c.setPin p v).reg i s = c.reg i s := rfl
@[simp] theorem Common.reg_arrive (c : Common kd) (t : Ticks) (i s : Nat) : (c.arrive t).reg i s = c.reg i s := rfl
@[simp] theorem Common.reg_setPort (c : Common kd) (p : Nat) (q : Port) (i s : Nat) : (c.setPort p q).reg i s = c.reg i s := rfl
@[simp] theorem Common.reg_onLive (c : Common kd) (f : Live → Live) (i s : Nat) : (c.onLive f).reg i s = c.reg i s := rfl
@[simp] theorem Common.reg_onBist (c : Common kd) (f : Director → Director) (i s : Nat) : (c.onBist f).reg i s = c.reg i s := rfl
@[simp] theorem Common.reg_onDbg (c : Common kd) (f : DebugAuth → DebugAuth) (i s : Nat) : (c.onDbg f).reg i s = c.reg i s := rfl
@[simp] theorem Common.reg_setTest (c : Common kd) (t : Option Test) (i s : Nat) : (c.setTest t).reg i s = c.reg i s := rfl
@[simp] theorem Common.reg_setExchange (c : Common kd) (l : Nat) (e : Exchange) (i s : Nat) : (c.setExchange l e).reg i s = c.reg i s := rfl
@[simp] theorem Common.reg_takeSerial (c : Common kd)  (i s : Nat) : c.takeSerial.1.reg i s = c.reg i s := rfl
@[simp] theorem Common.reg_drawFree (c : Common kd) (w : Nat) (i s : Nat) : (c.drawFree w).1.reg i s = c.reg i s := rfl

end Sys2Proof.Machine
end

