-- ==== Sys2Proof/Laws/Quiet.lean ====
section
/-! SUPPORT. What messages, records, reports and answers may change: one lemma per shared operation, in the terms of
`Quiet`. -/

namespace Sys2Proof.Machine

variable {kd : Part}

theorem Budget.Books.refl (b : Budget) : b.Books b := ⟨_, _, _, _, _, _, _, _, rfl⟩
theorem Ctl.Books.refl (b : Ctl) : b.Books b := ⟨_, _, _, _, _, rfl⟩

theorem Budget.Books.trans {a b c : Budget} (h : a.Books b) (k : b.Books c) : a.Books c := by
  obtain ⟨_, _, _, _, _, _, _, _, rfl⟩ := h
  obtain ⟨_, _, _, _, _, _, _, _, rfl⟩ := k
  exact ⟨_, _, _, _, _, _, _, _, rfl⟩

theorem Ctl.Books.trans {a b c : Ctl} (h : a.Books b) (k : b.Books c) : a.Books c := by
  obtain ⟨_, _, _, _, _, rfl⟩ := h
  obtain ⟨_, _, _, _, _, rfl⟩ := k
  exact ⟨_, _, _, _, _, rfl⟩

theorem Quiet.refl (c : Common kd) : Quiet c c :=
  ⟨fun _ _ _ => rfl, rfl, ⟨[], rfl⟩, fun _ _ => rfl, rfl, rfl, rfl, rfl, rfl, rfl, rfl, rfl, .refl _, .refl _⟩

theorem Quiet.trans {a b c : Common kd} (h : Quiet a b) (k : Quiet b c) : Quiet a c := by
  obtain ⟨l, hl⟩ := h.out
  obtain ⟨m, hm⟩ := k.out
  exact ⟨fun i s hi => (k.reg i s hi).trans (h.reg i s hi), k.now.trans h.now,
    ⟨m ++ l, by rw [hm, hl, List.append_assoc]⟩, fun p hp => (k.pin p hp).trans (h.pin p hp), k.tempo.trans h.tempo,
    k.dbg.trans h.dbg, k.ports.trans h.ports, k.bindings.trans h.bindings, k.bist.trans h.bist, k.strm.trans h.strm,
    k.live.trans h.live, k.flag.trans h.flag, h.bud.trans k.bud, h.ctl.trans k.ctl⟩

/-- A message sent earlier stands. -/
theorem Quiet.sent {c d : Common kd} (h : Quiet c d) {m : Msg} (hm : m ∈ c.out) : m ∈ d.out := by
  obtain ⟨l, hl⟩ := h.out
  rw [hl]
  exact List.mem_append_right l hm

/-- A change of the log, the books and the free counter. -/
theorem quiet_fields (c : Common kd) (fresh : Nat) (ctl : Ctl) (log : Recorder) (bud : Budget)
    (hc : c.ctl.Books ctl := by exact ⟨_, _, _, _, _, rfl⟩) (hb : c.bud.Books bud := by exact ⟨_, _, _, _, _, _, _, _, rfl⟩) :
    Quiet c { c with fresh := fresh, ctl := ctl, log := log, bud := bud } :=
  ⟨fun _ _ _ => rfl, rfl, ⟨[], rfl⟩, fun _ _ => rfl, rfl, rfl, rfl, rfl, rfl, rfl, rfl, rfl, hb, hc⟩

theorem Common.reg_setReg_idx (c : Common kd) {i j : Nat} (s t v : Nat) (h : j ≠ i) : (c.setReg i s v).reg j t = c.reg j t :=
  Common.reg_setReg_other c v (fun e => h (key_inj.mp e).1)

theorem Common.reg_setReg_sub (c : Common kd) {i s t : Nat} (v : Nat) (h : t % 256 ≠ s % 256) :
    (c.setReg i s v).reg i t = c.reg i t :=
  Common.reg_setReg_other c v (fun e => h (key_inj.mp e).2)

theorem quiet_setReg (c : Common kd) (i s v : Nat) (h : i ∈ accounting) : Quiet c (c.setReg i s v) :=
  ⟨fun _ _ hj => c.reg_setReg_idx s _ v (fun e => hj (e ▸ h)), rfl, ⟨[], rfl⟩, fun _ _ => rfl, rfl, rfl, rfl, rfl, rfl,
    rfl, rfl, rfl, .refl _, .refl _⟩

theorem quiet_addReg (c : Common kd) (i s n : Nat) (h : i ∈ accounting) : Quiet c (c.addReg i s n) := quiet_setReg c i s _ h

theorem quiet_bump (c : Common kd) (i s : Nat) (h : i ∈ accounting) : Quiet c (c.bump i s) := quiet_setReg c i s _ h

theorem quiet_baseline (c : Common kd) (n : Nat) : Quiet c (c.baseline n) := by
  unfold Common.baseline
  split
  · exact quiet_bump c _ _ (by decide)
  · exact Quiet.refl c

theorem quiet_send (c : Common kd) (m : Msg) : Quiet c (c.send m) :=
  ⟨fun _ _ _ => rfl, rfl, ⟨[m], rfl⟩, fun _ _ => rfl, rfl, rfl, rfl, rfl, rfl, rfl, rfl, rfl, .refl _, .refl _⟩

theorem quiet_drawFree (c : Common kd) (w : Nat) : Quiet c (c.drawFree w).1 := quiet_fields c _ _ _ _

theorem quiet_takeSerial (c : Common kd) : Quiet c c.takeSerial.1 := quiet_fields c _ _ _ _

theorem quiet_take (c : Common kd) (u : WorkUnit) (r : Nat) : Quiet c (c.take u r) := quiet_fields c _ _ _ _

/-- A fold of quiet changes is quiet. -/
theorem quiet_foldl {α : Type} (f : Common kd → α → Common kd) (hf : ∀ c a, Quiet c (f c a)) (l : List α) (c : Common kd) :
    Quiet c (l.foldl f c) := by
  induction l generalizing c with
  | nil => exact Quiet.refl c
  | cons a l ih => exact (hf c a).trans (ih (f c a))

theorem quiet_startUnit (c : Common kd) (u : WorkUnit) : Quiet c (c.startUnit u) := by
  unfold Common.startUnit
  refine Quiet.trans ?_ (quiet_foldl _ (fun c m => quiet_send c m) _ _)
  refine Quiet.trans ?_ (quiet_fields _ _ _ _ _)
  have h : Quiet c ((((c.take u 0).take u 1).take u 2).take u 3) :=
    (((quiet_take c u 0).trans (quiet_take _ u 1)).trans (quiet_take _ u 2)).trans (quiet_take _ u 3)
  dsimp only
  split
  · exact h
  · exact h.trans (quiet_fields _ _ _ _ _)

theorem quiet_countLoss (c : Common kd) (n : Nat) : Quiet c (c.countLoss n) :=
  (quiet_bump c _ _ (by decide)).trans (quiet_baseline _ _)

theorem quiet_loseUnit (c : Common kd) (cls serial : Nat) : Quiet c (c.loseUnit cls serial) := by
  have lost : Quiet c (({ c with bud := { c.bud with lostUnits := c.bud.lostUnits ++ [serial] } } : Common kd).countLoss cls) :=
    (quiet_fields c _ _ _ _).trans (quiet_countLoss _ _)
  unfold Common.loseUnit
  dsimp only
  split
  · exact lost
  · split
    · exact (lost.trans (quiet_bump _ _ _ (by decide))).trans (quiet_bump _ _ _ (by decide))
    · exact lost

theorem quiet_offer (c : Common kd) (u : WorkUnit) : Quiet c (c.offer u).1 := by
  unfold Common.offer
  dsimp only
  split
  · exact quiet_loseUnit c _ _
  · split
    · exact quiet_startUnit c u
    · split
      · exact quiet_loseUnit c _ _
      · exact quiet_fields c _ _ _ _

theorem quiet_submit (c : Common kd) (u : WorkUnit) : Quiet c (c.submit u).1 := by
  unfold Common.submit
  split
  · exact Quiet.refl c
  · exact (quiet_takeSerial c).trans (quiet_offer _ _)

theorem quiet_retry (c : Common kd) : Quiet c c.retry :=
  (quiet_fields c _ _ _ _).trans (quiet_foldl (fun a u => (Common.offer a u).1) (fun a u => quiet_offer a u) _ _)

theorem quiet_control (c : Common kd) (d : Dest) (t : Nat) (f : List Nat) : Quiet c (c.control d t f) := by
  unfold Common.control
  split
  · exact (quiet_send c _).trans (quiet_foldl _ (fun a p => quiet_submit a _) _ _)
  · exact Quiet.refl c

theorem quiet_message (c : Common kd) (d : Dest) (w : String) (f : List Nat) : Quiet c (c.message d w f) := by
  unfold Common.message
  split
  · exact (quiet_send c _).trans (quiet_foldl _ (fun a p => quiet_submit a _) _ _)
  · exact Quiet.refl c

theorem quiet_sessionMsg (c : Common kd) (d : Dest) (t : Nat) (f : List Nat) : Quiet c (c.sessionMsg d t f) := by
  unfold Common.sessionMsg
  split
  · exact (quiet_send c _).trans (quiet_foldl _ (fun a p => quiet_submit a _) _ _)
  · exact Quiet.refl c

theorem quiet_storePersistent (c : Common kd) (r : Record) : Quiet c (c.storePersistent r) := by
  unfold Common.storePersistent
  dsimp only
  split
  · exact quiet_fields c _ _ _ _
  · exact quiet_bump c _ _ (by decide)

theorem quiet_storeRecord (c : Common kd) (r : Record) : Quiet c (c.storeRecord r) := by
  unfold Common.storeRecord
  split
  · split
    · exact quiet_storePersistent c r
    · exact Quiet.refl c
  · dsimp only
    split
    · split
      · refine Quiet.trans ?_ (quiet_foldl _ (fun a p => quiet_control a _ _ _) _ _)
        refine Quiet.trans ?_ (quiet_fields _ _ _ _ _)
        split
        · exact quiet_fields c _ _ _ _
        · exact (quiet_fields c _ _ _ _).trans (quiet_addReg _ _ _ _ (by decide))
      · split
        · exact (quiet_fields c _ _ _ _).trans (quiet_fields _ _ _ _ _)
        · exact quiet_fields c _ _ _ _
    · exact quiet_bump c _ _ (by decide)

theorem quiet_createRecord (c : Common kd) (sev type : Nat) (p : List Nat) : Quiet c (c.createRecord sev type p) :=
  (quiet_bump c _ _ (by decide)).trans (quiet_storeRecord _ _)

theorem quiet_event (c : Common kd) (code sev : Nat) (d : List Nat) : Quiet c (c.event code sev d) := quiet_createRecord c _ _ _

theorem quiet_report (c : Common kd) (f : ReportFields) : Quiet c (c.report f) := by
  unfold Common.report
  dsimp only
  have h : Quiet c ((c.setReg 0x3604 5 ((c.reg 0x3604 5 + 1) % 2 ^ 32)).createRecord f.sev 0x01 (c.reportBytes f)) :=
    (quiet_setReg c _ _ _ (by decide)).trans (quiet_createRecord _ _ _ _)
  split
  · exact h.trans (quiet_control _ _ _ _)
  · exact h

theorem quiet_reportCode (c : Common kd) (sev code detail : Nat) : Quiet c (c.reportCode sev code detail) := quiet_report c _

theorem quiet_ports {c d : Common kd} (h : Quiet c d) (ports : List (Nat × Port)) :
    Quiet (kd := kd) { c with ports := ports } { d with ports := ports } :=
  ⟨fun i s hi => h.reg i s hi, h.now, h.out, fun p hp => h.pin p hp, h.tempo, h.dbg, rfl, h.bindings, h.bist, h.strm,
    h.live, h.flag, h.bud, h.ctl⟩

/-- A violation also marks its code as logged in the port's record. -/
theorem quiet_violation (c : Common kd) (p l code : Nat) : ∃ ports, Quiet (kd := kd) { c with ports := ports } (c.violation p l code) := by
  unfold Common.violation
  dsimp only
  have h := quiet_bump c 0x1310 (code - 0x0600) (by decide)
  split
  · exact ⟨c.ports, h⟩
  · exact ⟨_, (quiet_ports h _).trans (quiet_event (Common.setPort _ p _) _ _ _)⟩

theorem quiet_respond (c : Common kd) (p : Path) (q : CtlResponse) : Quiet c (c.respond p q) := by
  have up : ∀ n, Quiet c (if c.portUp n then (((c.send (.response p q)).submit (linkUnit 4 n 1 0 false [])).1) else c) := by
    intro n
    split
    · exact (quiet_send c _).trans (quiet_submit _ _)
    · exact Quiet.refl c
  cases p <;> first | exact up _ | exact quiet_send c _

theorem quiet_answer (c : Common kd) (r : Req) (op : DictOp) (i s : Nat) (a : Option Abort) (d n : Nat) (m : Bool) :
    Quiet c (c.answer r op i s a d n m) := by
  unfold Common.answer
  dsimp only
  refine Quiet.trans ?_ (quiet_respond _ _ _)
  have h1 : Quiet c (match a with
      | none => c.bump 0x1032 1
      | some .privilege => ((c.bump 0x1032 2).bump 0x3803 0).baseline 57
      | some .busy => (c.bump 0x1032 2).bump 0x1032 4
      | some .timeout => (c.bump 0x1032 2).bump 0x1032 3
      | some _ => c.bump 0x1032 2) := by
    have b2 := quiet_bump c 0x1032 2 (by decide)
    split
    · exact quiet_bump c _ _ (by decide)
    · exact (b2.trans (quiet_bump _ _ _ (by decide))).trans (quiet_baseline _ _)
    · exact b2.trans (quiet_bump _ _ _ (by decide))
    · exact b2.trans (quiet_bump _ _ _ (by decide))
    · exact b2
  refine Quiet.trans h1 ?_
  cases r.path <;> dsimp only
  case hrp =>
    by_cases ha : a.isSome = true <;> simp only [ha, if_true]
    · exact (quiet_baseline _ _).trans (quiet_baseline _ _)
    · exact quiet_baseline _ _
  case i3c => exact quiet_fields _ _ _ _ _
  all_goals exact Quiet.refl _

theorem quiet_discardStagings (c : Common kd) (f : Staging → Bool) : Quiet c (c.discardStagings f) := by
  unfold Common.discardStagings
  dsimp only
  split
  · exact Quiet.refl c
  · exact (quiet_addReg c _ _ _ (by decide)).trans (quiet_fields _ _ _ _ _)

theorem quiet_abortRelayed (c : Common kd) (f : Relayed → Bool) (a : Abort) : Quiet c (c.abortRelayed f a) := by
  unfold Common.abortRelayed
  dsimp only
  refine Quiet.trans (quiet_fields c _ _ _ _) (quiet_foldl _ (fun b r => ?_) _ _)
  exact (quiet_bump b _ _ (by decide)).trans (quiet_respond _ _ _)

end Sys2Proof.Machine
end

