-- ==== Sys2Proof/Laws/Flush.lean ====
section
/-! SUPPORT. What the end of a command does to a part: units in transit are settled and the outputs are driven. -/

namespace Sys2Proof.Machine

variable {kd : Part}

/-- What is in transit. -/
def Common.transit (c : Common kd) : List HostWrite × List Nat := (c.bud.issuing, c.bud.lostUnits)

/-- What settling changes: bookkeeping, and nothing in transit. -/
structure Settled (v w : Vangeg) : Prop where
  q : QuietV v w
  bud : w.c.transit = v.c.transit

theorem QuietV.refl (v : Vangeg) : QuietV v v := ⟨Quiet.refl _, rfl, rfl, rfl, ⟨_, _, rfl⟩, ⟨_, _, rfl⟩⟩

theorem QuietV.trans {u v w : Vangeg} (h : QuietV u v) (k : QuietV v w) : QuietV u w := by
  obtain ⟨a1, b1, h1⟩ := h.bnd
  obtain ⟨a2, b2, h2⟩ := k.bnd
  obtain ⟨a3, b3, h3⟩ := h.pawn
  obtain ⟨a4, b4, h4⟩ := k.pawn
  exact ⟨h.c.trans k.c, k.slices.trans h.slices, k.trc.trans h.trc, k.sig.trans h.sig,
    ⟨a2, b2, by rw [h2, h1]⟩, ⟨a4, b4, by rw [h4, h3]⟩⟩

theorem QuietX.refl (x : Shopostra) : QuietX x x := ⟨Quiet.refl _, rfl, rfl, rfl, rfl, rfl, rfl, rfl, rfl⟩

theorem QuietX.trans {u v w : Shopostra} (h : QuietX u v) (k : QuietX v w) : QuietX u w :=
  ⟨h.c.trans k.c, k.fleet.trans h.fleet, k.mgt.trans h.mgt, k.pkg.trans h.pkg, k.hist.trans h.hist, k.table.trans h.table,
    k.red.trans h.red, k.tan.trans h.tan, k.ver.trans h.ver⟩

theorem QuietV.onC {v : Vangeg} {f : Common .vangeg → Common .vangeg} (h : Quiet v.c (f v.c)) : QuietV v (v.onC f) :=
  ⟨h, rfl, rfl, rfl, ⟨_, _, rfl⟩, ⟨_, _, rfl⟩⟩

theorem QuietX.onC {x : Shopostra} {f : Common .shopostra → Common .shopostra} (h : Quiet x.c (f x.c)) : QuietX x (x.onC f) :=
  ⟨h, rfl, rfl, rfl, rfl, rfl, rfl, rfl, rfl⟩

theorem Settled.refl (v : Vangeg) : Settled v v := ⟨QuietV.refl v, rfl⟩

theorem Settled.trans {u v w : Vangeg} (h : Settled u v) (k : Settled v w) : Settled u w :=
  ⟨h.q.trans k.q, k.bud.trans h.bud⟩

theorem settled_foldl {α : Type} (f : Vangeg → α → Vangeg) (hf : ∀ v a, Settled v (f v a)) (l : List α) (v : Vangeg) :
    Settled v (l.foldl f v) := by
  induction l generalizing v with
  | nil => exact Settled.refl v
  | cons a l ih => exact (hf v a).trans (ih (f v a))

/-- A change of the counts alone. -/
theorem settled_onC (v : Vangeg) (f : Common .vangeg → Common .vangeg) (h : Quiet v.c (f v.c)) (hb : (f v.c).transit = v.c.transit) :
    Settled v (v.onC f) := ⟨QuietV.onC h, hb⟩

@[simp] theorem Common.bump_bud (c : Common kd) (i s : Nat) : (c.bump i s).bud = c.bud := rfl

theorem quiet_consume (c : Common kd) (cls r n : Nat) : Quiet c (c.consume cls r n) := by
  unfold Common.consume
  split
  · exact Quiet.refl c
  · exact quiet_fields c _ _ _ _

@[simp] theorem Common.consume_transit (c : Common kd) (cls r n : Nat) : (c.consume cls r n).transit = c.transit := by
  unfold Common.consume; split <;> rfl

@[simp] theorem Common.baseline_bud (c : Common kd) (n : Nat) : (c.baseline n).bud = c.bud := by
  unfold Common.baseline; split <;> rfl

theorem settled_setRing (v : Vangeg) (r : Nat) (q : Ring) : Settled v (v.setRing r q) :=
  ⟨⟨Quiet.refl _, rfl, rfl, rfl, ⟨_, _, rfl⟩, ⟨_, _, rfl⟩⟩, rfl⟩

theorem settled_issue (v : Vangeg) (w : HostWrite) (i : Nat) : Settled v (v.issue w i) := by
  unfold Vangeg.issue
  dsimp only
  refine Settled.trans (settled_onC v _ ?_ ?_) ⟨⟨Quiet.refl _, rfl, rfl, rfl, ⟨_, _, rfl⟩, ⟨_, _, rfl⟩⟩, rfl⟩
  · refine Quiet.trans ?_ (quiet_send _ _)
    split
    · exact (quiet_baseline _ _).trans (quiet_consume _ _ _ _)
    · exact (quiet_addReg _ _ _ _ (by decide)).trans (quiet_consume _ _ _ _)
  · unfold Common.transit
    rw [Common.send_bud]
    split
    · exact (Common.consume_transit _ _ _ _).trans (by simp [Common.transit])
    · exact Common.consume_transit _ _ _ _

theorem settled_issueOrWait (v : Vangeg) (w : HostWrite) : Settled v (v.issueOrWait w) := by
  unfold Vangeg.issueOrWait
  split
  · exact settled_issue v w _
  · exact ⟨⟨Quiet.refl _, rfl, rfl, rfl, ⟨_, _, rfl⟩, ⟨_, _, rfl⟩⟩, rfl⟩

theorem settled_issueStarted (v : Vangeg) (w : HostWrite) : Settled v (v.issueStarted w) := by
  unfold Vangeg.issueStarted
  split
  · refine Settled.trans ?_ (settled_issueOrWait _ _)
    split
    · split
      · exact settled_setRing _ _ _
      · exact Settled.refl _
    · exact Settled.refl _
  · exact settled_issueOrWait _ _

theorem quiet_lossCounts (l : List Nat) (c : Common kd) :
    Quiet c (l.foldl (fun (a : Common kd) _ => (a.bump 0x2910 9).baseline 50) c) ∧
      (l.foldl (fun (a : Common kd) _ => (a.bump 0x2910 9).baseline 50) c).bud = c.bud := by
  induction l generalizing c with
  | nil => exact ⟨Quiet.refl c, rfl⟩
  | cons a l ih =>
    have h := ih ((c.bump 0x2910 9).baseline 50)
    exact ⟨((quiet_bump c _ _ (by decide)).trans (quiet_baseline _ _)).trans h.1, h.2.trans (by simp)⟩

theorem settled_dropImages (lost : List Nat) (v : Vangeg) : Settled v (v.dropImages lost) := by
  unfold Vangeg.dropImages
  dsimp only
  split
  · exact Settled.refl v
  · have h := quiet_lossCounts (List.range (v.pawn.agg.held.filter (fun s => decide (s ∈ lost))).length) v.c
    exact ⟨⟨h.1, rfl, rfl, rfl, ⟨_, _, rfl⟩, ⟨_, _, rfl⟩⟩, by unfold Common.transit; rw [h.2]⟩

/-- Settling a Vangeg leaves no unit in transit and changes nothing but counts, writes, rings and the dump of images. -/
theorem settled_settle (v : Vangeg) :
    Settled { v with c := { v.c with bud := { v.c.bud with issuing := [], lostUnits := [] } } } v.settle := by
  unfold Vangeg.settle
  exact Settled.trans (settled_foldl Vangeg.issueStarted settled_issueStarted v.c.bud.issuing _)
    (settled_dropImages v.c.bud.lostUnits _)

theorem quiet_pins (c : Common kd) (pins : List (Pin × Nat)) (h : ∀ p, p.driven = false → lookupD 0 pins p = c.pin p) :
    Quiet c { c with pins := pins } :=
  ⟨fun _ _ _ => rfl, rfl, ⟨[], rfl⟩, h, rfl, rfl, rfl, rfl, rfl, rfl, rfl, rfl, .refl _, .refl _⟩

theorem Vangeg.quietV_drive (v : Vangeg) : QuietV v v.drive := by
  refine QuietV.onC (quiet_pins v.c _ ?_)
  intro p hp
  simp only [Common.setPin_pins]
  rw [lookupD_putKey_other, lookupD_putKey_other, lookupD_putKey_other]
  · rfl
  all_goals rintro rfl; simp [Pin.driven] at hp

/-- What ends a command at a Vangeg is bookkeeping. -/
theorem Vangeg.quietV_flush (v : Vangeg) : QuietV v v.flush := by
  have h := (settled_settle v).q
  have q : QuietV v v.settle := ⟨(quiet_fields v.c _ _ _ _).trans h.c, h.slices, h.trc, h.sig, h.bnd, h.pawn⟩
  exact q.trans v.settle.quietV_drive

theorem Vangeg.flush_transit (v : Vangeg) : v.flush.c.bud.issuing = [] ∧ v.flush.c.bud.lostUnits = [] := by
  have h := (settled_settle v).bud
  exact ⟨congrArg Prod.fst h, congrArg Prod.snd h⟩

theorem Shopostra.quietX_drive (x : Shopostra) : QuietX x x.drive := by
  refine ⟨quiet_pins x.c _ ?_, rfl, rfl, rfl, rfl, rfl, rfl, rfl, rfl⟩
  intro p hp
  simp only [Common.setPin_pins]
  rw [lookupD_putKey_other, lookupD_putKey_other, lookupD_putKey_other, lookupD_putKey_other]
  · rfl
  all_goals rintro rfl; simp [Pin.driven] at hp

/-- What ends a command at a Shopostra is bookkeeping. -/
theorem Shopostra.quietX_flush (x : Shopostra) : QuietX x x.flush := by
  unfold Shopostra.flush
  refine QuietX.trans ?_ (Shopostra.quietX_drive _)
  exact ⟨quiet_fields x.c _ _ _ _, rfl, rfl, rfl, rfl, rfl, rfl, rfl, rfl⟩

theorem State.Near.refl (s : State) : s.Near s := ⟨QuietV.refl _, QuietX.refl _, rfl⟩

theorem State.Near.trans {s t u : State} (h : s.Near t) (k : t.Near u) : s.Near u :=
  ⟨h.vg.trans k.vg, h.sx.trans k.sx, k.pending.trans h.pending⟩

/-- A command to a Vangeg out of reset. -/
theorem onV_runs (f : Vangeg → Vangeg) (s : State) (h : s.vg.bnd.inReset = false) :
    onV f s = .next { s with vg := (f s.vg).flush } := by simp [onV, h]

/-- A command to a Shopostra that runs. -/
theorem onX_runs (f : Shopostra → Shopostra) (s : State) (h : s.sx.runs = true) :
    onX f s = .next { s with sx := (f s.sx).flush } := by simp [onX, h]

theorem near_onV {f : Vangeg → Vangeg} {s : State} {v : Vangeg} (h : s.vg.bnd.inReset = false) (hq : QuietV v (f s.vg)) :
    ∃ t, onV f s = .next t ∧ State.Near { s with vg := v } t :=
  ⟨_, onV_runs f s h, ⟨hq.trans (Vangeg.quietV_flush _), QuietX.refl _, rfl⟩⟩

theorem near_onX {f : Shopostra → Shopostra} {s : State} {x : Shopostra} (h : s.sx.runs = true) (hq : QuietX x (f s.sx)) :
    ∃ t, onX f s = .next t ∧ State.Near { s with sx := x } t :=
  ⟨_, onX_runs f s h, ⟨QuietV.refl _, hq.trans (Shopostra.quietX_flush _), rfl⟩⟩

/-- A command to the common units of a part that is up. -/
theorem near_onC {p : Part} {f g : Common p → Common p} {s : State} (h : s.runs p = true)
    (hq : Quiet (g (s.com p)) (f (s.com p))) : ∃ t, onC p f s = .next t ∧ (s.on p g).Near t := by
  cases p
  · exact near_onV (f := fun v => v.onC f) (v := s.vg.onC g) (by simpa [State.runs] using h) ⟨hq, rfl, rfl, rfl, ⟨_, _, rfl⟩, ⟨_, _, rfl⟩⟩
  · exact near_onX (f := fun x => x.onC f) (x := s.sx.onC g) h ⟨hq, rfl, rfl, rfl, rfl, rfl, rfl, rfl, rfl⟩

/-- An admitted write at a Vangeg runs the object's rule and answers with what the rule says. -/
theorem Vangeg.ruled_admits {s : State} {r : Req} {i k v : Nat} (h : s.admits .vangeg r i k v = true)
    (rule : Vangeg → Vangeg × Option Abort) :
    s.vg.ruled r i k v rule = (rule s.vg).1.onC (fun c => c.answer r .write i k (rule s.vg).2 0 0 false) := by
  simp only [State.admits, Bool.and_eq_true, decide_eq_true_eq, Bool.not_eq_true', Common.fits] at h
  obtain ⟨⟨⟨-, h1⟩, h2⟩, h3⟩ := h
  unfold Vangeg.ruled
  rw [h1]
  cases hf : findRow i k with
  | none => rw [hf] at h2; cases h2
  | some o => rw [hf] at h2; simp [h2, h3]

/-- An admitted write at a Shopostra. -/
theorem Shopostra.ruled_admits {s : State} {r : Req} {i k v : Nat} (h : s.admits .shopostra r i k v = true)
    (rule : Shopostra → Shopostra × Option Abort) :
    s.sx.ruled r i k v rule = (rule s.sx).1.onC (fun c => c.answer r .write i k (rule s.sx).2 0 0 false) := by
  simp only [State.admits, Bool.and_eq_true, decide_eq_true_eq, Common.fits] at h
  obtain ⟨⟨-, h1⟩, h2⟩ := h
  unfold Shopostra.ruled
  rw [h1]
  cases hf : findRow i k with
  | none => rw [hf] at h2; cases h2
  | some o => rw [hf] at h2; simp [h2]

theorem State.admits_runs {s : State} {p : Part} {r : Req} {i k v : Nat} (h : s.admits p r i k v = true) : s.runs p = true := by
  cases p
  · simp [State.admits, State.runs] at h ⊢; exact h.1.1.1
  · simp [State.admits, State.runs] at h ⊢; exact h.1.1

/-- An admitted write at a Vangeg: what the rule does, up to bookkeeping. -/
theorem near_ruledV {s : State} {r : Req} {i k v : Nat} {rule : Vangeg → Vangeg × Option Abort} {w : Vangeg}
    (h : s.admits .vangeg r i k v = true) (hq : QuietV w (rule s.vg).1) :
    ∃ t, onV (fun x => x.ruled r i k v rule) s = .next t ∧ State.Near { s with vg := w } t := by
  refine near_onV (by simpa [State.runs] using State.admits_runs h) ?_
  rw [Vangeg.ruled_admits h]
  exact hq.trans (QuietV.onC (quiet_answer _ _ _ _ _ _ _ _ _))

/-- An admitted write at a Shopostra. -/
theorem near_ruledX {s : State} {r : Req} {i k v : Nat} {rule : Shopostra → Shopostra × Option Abort} {y : Shopostra}
    (h : s.admits .shopostra r i k v = true) (hq : QuietX y (rule s.sx).1) :
    ∃ t, onX (fun x => x.ruled r i k v rule) s = .next t ∧ State.Near { s with sx := y } t := by
  refine near_onX (State.admits_runs h) ?_
  rw [Shopostra.ruled_admits h]
  exact hq.trans (QuietX.onC (quiet_answer _ _ _ _ _ _ _ _ _))

/-- An admitted write under a rule of the common units. -/
theorem near_writeBoth {s : State} {p : Part} {r : Req} {i k v : Nat} {f : Common p → Common p × Option Abort} {g : Common p → Common p}
    (h : s.admits p r i k v = true) (hq : Quiet (g (s.com p)) (f (s.com p)).1) :
    ∃ t, writeBoth p r i k v f s = .next t ∧ (s.on p g).Near t := by
  cases p
  · exact near_ruledV (rule := ruleV f) (w := s.vg.onC g) h ⟨hq, rfl, rfl, rfl, ⟨_, _, rfl⟩, ⟨_, _, rfl⟩⟩
  · exact near_ruledX (rule := ruleX f) (y := s.sx.onC g) h ⟨hq, rfl, rfl, rfl, rfl, rfl, rfl, rfl, rfl⟩

/-- The common units after a command to them, at a part that runs. -/
theorem com_onC {p : Part} {f : Common p → Common p} {s : State} (h : s.runs p = true) :
    ∃ t, onC p f s = .next t ∧ Quiet (f (s.com p)) (t.com p) := by
  cases p
  · exact ⟨_, onV_runs (fun v => v.onC f) s (by simpa [State.runs] using h), (Vangeg.quietV_flush (s.vg.onC f)).c⟩
  · exact ⟨_, onX_runs (fun x => x.onC f) s h, (Shopostra.quietX_flush (s.sx.onC f)).c⟩

/-- The Vangeg after a command to it. -/
theorem vg_onV {f : Vangeg → Vangeg} {s : State} (h : s.vg.bnd.inReset = false) :
    ∃ t, onV f s = .next t ∧ QuietV (f s.vg) t.vg ∧ t.sx = s.sx ∧ t.pending = s.pending :=
  ⟨_, onV_runs f s h, Vangeg.quietV_flush (f s.vg), rfl, rfl⟩

/-- The Shopostra after a command to it. -/
theorem sx_onX {f : Shopostra → Shopostra} {s : State} (h : s.sx.runs = true) :
    ∃ t, onX f s = .next t ∧ QuietX (f s.sx) t.sx ∧ t.vg = s.vg ∧ t.pending = s.pending :=
  ⟨_, onX_runs f s h, Shopostra.quietX_flush (f s.sx), rfl, rfl⟩

/-- The Vangeg after an admitted write. -/
theorem vg_ruled {s : State} {r : Req} {i k v : Nat} {rule : Vangeg → Vangeg × Option Abort}
    (h : s.admits .vangeg r i k v = true) :
    ∃ t, onV (fun x => x.ruled r i k v rule) s = .next t ∧ QuietV (rule s.vg).1 t.vg ∧ t.sx = s.sx ∧ t.pending = s.pending := by
  refine ⟨_, onV_runs (fun x => x.ruled r i k v rule) s (by simpa [State.runs] using State.admits_runs h), ?_, rfl, rfl⟩
  rw [Vangeg.ruled_admits h]
  exact (QuietV.onC (quiet_answer _ _ _ _ _ _ _ _ _)).trans (Vangeg.quietV_flush _)

/-- The Shopostra after an admitted write. -/
theorem sx_ruled {s : State} {r : Req} {i k v : Nat} {rule : Shopostra → Shopostra × Option Abort}
    (h : s.admits .shopostra r i k v = true) :
    ∃ t, onX (fun x => x.ruled r i k v rule) s = .next t ∧ QuietX (rule s.sx).1 t.sx ∧ t.vg = s.vg ∧ t.pending = s.pending := by
  refine ⟨_, onX_runs (fun x => x.ruled r i k v rule) s (State.admits_runs h), ?_, rfl, rfl⟩
  rw [Shopostra.ruled_admits h]
  exact (QuietX.onC (quiet_answer _ _ _ _ _ _ _ _ _)).trans (Shopostra.quietX_flush _)

/-- The common units after an admitted write under a rule of theirs. -/
theorem com_writeBoth {p : Part} {r : Req} {i k v : Nat} {f : Common p → Common p × Option Abort} {s : State}
    (h : s.admits p r i k v = true) :
    ∃ t, writeBoth p r i k v f s = .next t ∧ Quiet (f (s.com p)).1 (t.com p) := by
  cases p
  · obtain ⟨t, ht, q, -, -⟩ := vg_ruled (rule := ruleV f) h
    exact ⟨t, ht, q.c⟩
  · obtain ⟨t, ht, q, -, -⟩ := sx_ruled (rule := ruleX f) h
    exact ⟨t, ht, q.c⟩

end Sys2Proof.Machine
end

