-- ==== Sys2Proof/Laws/Memory.lean ====
section
/-! SUPPORT. Laws of a tile's region RAM: its canonical form, which every write keeps, and a read after a write. -/

namespace Sys2Proof.Machine

/-- Every address of a memory lies above a bound. -/
def cellsAbove (b : Nat) (m : List Host.Cell) : Prop := ∀ q ∈ m, b < q.1

theorem memWf_cons (q : Host.Cell) (m : List Host.Cell) :
    memWf (q :: m) = true ↔ q.2 ≠ memDefault ∧ cellsAbove q.1 m ∧ memWf m = true := by
  induction m generalizing q with
  | nil => simp [memWf, cellsAbove]
  | cons r m ih =>
    simp only [memWf, Bool.and_eq_true, decide_eq_true_eq, and_assoc]
    refine and_congr_right fun _ => ⟨fun ⟨hlt, h⟩ => ⟨fun x hx => ?_, h⟩, fun ⟨h, k⟩ => ⟨h r (by simp), k⟩⟩
    have hr := (ih r).mp (by simpa [memWf, and_assoc] using h)
    rcases List.mem_cons.mp hx with rfl | hx
    · exact hlt
    · exact Nat.lt_trans hlt (hr.2.1 x hx)

theorem cellsAbove_erase {b : Nat} {m : List Host.Cell} (k : Nat) (h : cellsAbove b m) : cellsAbove b (memErase m k) := by
  induction m with
  | nil => exact h
  | cons q m ih =>
    have hm : cellsAbove b m := fun x hx => h x (List.mem_cons_of_mem _ hx)
    simp only [memErase]
    split
    · exact hm
    · intro x hx
      rcases List.mem_cons.mp hx with rfl | hx
      · exact h _ List.mem_cons_self
      · exact ih hm x hx

theorem cellsAbove_insert {b k : Nat} {m : List Host.Cell} (v : BitVec 8) (h : cellsAbove b m) (hk : b < k) :
    cellsAbove b (memInsert m k v) := by
  induction m with
  | nil => intro x hx; simp [memInsert] at hx; exact hx ▸ hk
  | cons q m ih =>
    have hm : cellsAbove b m := fun x hx => h x (List.mem_cons_of_mem _ hx)
    have hq : b < q.1 := h q List.mem_cons_self
    simp only [memInsert]
    split
    · intro x hx
      rcases List.mem_cons.mp hx with rfl | hx
      · exact hk
      · exact h x hx
    · split
      · intro x hx
        rcases List.mem_cons.mp hx with rfl | hx
        · exact hk
        · exact hm x hx
      · intro x hx
        rcases List.mem_cons.mp hx with rfl | hx
        · exact hq
        · exact ih hm x hx

/-- A write keeps the canonical form. -/
theorem memWf_write (m : List Host.Cell) (k : Nat) (v : BitVec 8) (h : memWf m = true) : memWf (memWrite m k v) = true := by
  unfold memWrite
  split
  · induction m with
    | nil => exact h
    | cons q m ih =>
      obtain ⟨h1, h2, h3⟩ := (memWf_cons q m).mp h
      simp only [memErase]
      split
      · exact h3
      · exact (memWf_cons _ _).mpr ⟨h1, cellsAbove_erase k h2, ih h3⟩
  · rename_i hv
    induction m with
    | nil => exact (memWf_cons _ _).mpr ⟨hv, fun x hx => by simp at hx, rfl⟩
    | cons q m ih =>
      obtain ⟨h1, h2, h3⟩ := (memWf_cons q m).mp h
      simp only [memInsert]
      split
      · rename_i hk
        refine (memWf_cons _ _).mpr ⟨hv, fun x hx => ?_, h⟩
        rcases List.mem_cons.mp hx with rfl | hx
        · exact hk
        · exact Nat.lt_trans hk (h2 x hx)
      · rename_i hk
        split
        · rename_i he
          exact (memWf_cons _ _).mpr ⟨hv, he ▸ h2, h3⟩
        · rename_i hne
          exact (memWf_cons _ _).mpr ⟨h1, cellsAbove_insert v h2 (by omega), ih h3⟩

/-- A write of several bytes keeps the canonical form. -/
theorem memWf_writeN (m : List Host.Cell) (k : Nat) (l : List Nat) (h : memWf m = true) : memWf (memWriteN m k l) = true := by
  induction l generalizing m k with
  | nil => exact h
  | cons b l ih => exact ih _ _ (memWf_write m k _ h)

theorem memRead_above {b k : Nat} {m : List Host.Cell} (h : cellsAbove b m) (hk : k ≤ b) : memRead m k = memDefault := by
  induction m with
  | nil => rfl
  | cons q m ih =>
    have hq : b < q.1 := h q List.mem_cons_self
    have hne : q.1 ≠ k := by omega
    simp only [memRead, hne, if_false]
    exact ih fun x hx => h x (List.mem_cons_of_mem _ hx)

/-- What any address of a canonical memory reads after a write. -/
theorem memRead_write (m : List Host.Cell) (k j : Nat) (v : BitVec 8) (h : memWf m = true) :
    memRead (memWrite m k v) j = if j = k then v else memRead m j := by
  unfold memWrite
  split
  · rename_i hv
    subst hv
    induction m with
    | nil => simp [memErase, memRead]
    | cons q m ih =>
      obtain ⟨_, h2, h3⟩ := (memWf_cons q m).mp h
      simp only [memErase]
      by_cases hk : q.1 = k
      · subst hk
        by_cases hj : j = q.1
        · simp [hj, memRead_above h2 (Nat.le_refl _)]
        · simp [hj, memRead, Ne.symm hj]
      · by_cases hj : q.1 = j
        · simp [hj, memRead, show j ≠ k from fun e => hk (hj.trans e)]
        · simp [hk, hj, memRead, ih h3]
  · induction m with
    | nil =>
      by_cases hj : j = k
      · simp [memInsert, memRead, hj]
      · simp [memInsert, memRead, hj, Ne.symm hj]
    | cons q m ih =>
      obtain ⟨_, _, h3⟩ := (memWf_cons q m).mp h
      simp only [memInsert]
      by_cases h1 : k < q.1
      · by_cases hj : j = k
        · simp [h1, hj, memRead]
        · simp [h1, hj, memRead, Ne.symm hj]
      · by_cases h2 : q.1 = k
        · subst h2
          by_cases hj : j = q.1
          · simp [hj, memRead]
          · simp [hj, memRead, Ne.symm hj]
        · by_cases hj : q.1 = j
          · rw [if_neg h1, if_neg h2, if_neg (show j ≠ k from fun e => h2 (hj.trans e))]
            simp [hj, memRead]
          · simp [h1, h2, hj, memRead, ih h3]

end Sys2Proof.Machine
end

