-- ==== Sys2Proof/Tests/Slice0.lean ====
section
/-! SUPPORT. Tests: ill-formed commands that each check refuses, and states that meet the hypotheses of the statements. -/

namespace Sys2Proof.Tests

open Sys2Proof Sys2Proof.Machine

/-- A requester at a level. -/
def req (path : Path) (priv : Nat) : Req := { path := path, priv := priv, pasid := 0, tag := 0, source := 0 }

/-! ## Each check of well-formedness refuses something -/

theorem test_wf_accepts : (Instr.dictRead .vangeg (req .hrp 2) 0x1200 0 0).wf = true := by decide
theorem test_wf_level : (Instr.updateFetch (req .mgmt 8)).wf = false := by decide
theorem test_wf_port : (Instr.trainingTimeout .vangeg 2).wf = false := by decide
theorem test_wf_port_shopostra : (Instr.trainingTimeout .shopostra 48).wf = false := by decide
theorem test_wf_index : (Instr.dictRead .vangeg (req .hrp 2) 0x10000 0 0).wf = false := by decide
theorem test_wf_subindex : (Instr.dictRead .vangeg (req .hrp 2) 0 256 0).wf = false := by decide
theorem test_wf_slice : (Instr.sliceBind (req .hrp 2) 64).wf = false := by decide
theorem test_wf_cell : (Instr.counterParityError 256).wf = false := by decide
theorem test_wf_bytes : (Instr.i3cPrivateWrite [256]).wf = false := by decide
theorem test_wf_island : (Instr.pwrReqRise 64).wf = false := by decide

end Sys2Proof.Tests
end

/-! ## Each command acts on one part (R1, R2; log entry 1) -/

namespace Sys2Proof.Machine

/-- A meaning acts on one part alone, and from that part alone: from every state in which the part is the same it leaves
a next state that differs in that part only, and there in the same way. -/
def ActsOn (p : Part) (h : State → Res) : Prop :=
  ∀ s : State, match p with
    | .vangeg => ∃ v : Vangeg, ∀ s' : State, s'.vg = s.vg → h s' = .next { s' with vg := v }
    | .shopostra => ∃ x : Shopostra, ∀ s' : State, s'.sx = s.sx → h s' = .next { s' with sx := x }

/-- Two states that agree in one part. -/
def State.SamePart (p : Part) (s t : State) : Prop :=
  match p with
  | .vangeg => t.vg = s.vg
  | .shopostra => t.sx = s.sx

namespace ActsOn

variable {p : Part} {h k : State → Res}

/-! ### The ways a meaning is lifted to the state -/

theorem onVg {g : Vangeg → Vangeg} (e : ∀ s, h s = .next (s.onVg g)) : ActsOn .vangeg h :=
  fun s => ⟨g s.vg, fun s' hs => by rw [e, State.onVg, hs]⟩

theorem onSx {g : Shopostra → Shopostra} (e : ∀ s, h s = .next (s.onSx g)) : ActsOn .shopostra h :=
  fun s => ⟨g s.sx, fun s' hs => by rw [e, State.onSx, hs]⟩

theorem next (p : Part) : ActsOn p .next := by
  cases p
  · exact .onVg (g := id) fun _ => rfl
  · exact .onSx (g := id) fun _ => rfl

theorem onV {f : Vangeg → Vangeg} (e : ∀ s, h s = Machine.onV f s) : ActsOn .vangeg h :=
  .onVg (g := fun v => if v.bnd.inReset then v else (f v).flush) fun s => (e s).trans <| by
    simp only [Machine.onV, State.onVg]
    split <;> rfl

theorem onX {f : Shopostra → Shopostra} (e : ∀ s, h s = Machine.onX f s) : ActsOn .shopostra h :=
  .onSx (g := fun x => if x.runs then (f x).flush else x) fun s => (e s).trans <| by
    simp only [Machine.onX, State.onSx]
    split <;> rfl

theorem onPkg {f : Shopostra → Shopostra} (e : ∀ s, h s = Machine.onPkg f s) : ActsOn .shopostra h :=
  .onSx (g := fun x => (f x).flush) e

theorem onC {f : Common p → Common p} (e : ∀ s, h s = Machine.onC p f s) : ActsOn p h := by
  cases p
  · exact .onV (f := fun v => v.onC f) e
  · exact .onX (f := fun x => x.onC f) e

theorem onPart {fv : Vangeg → Vangeg} {fx : Shopostra → Shopostra} (e : ∀ s, h s = Machine.onPart p fv fx s) : ActsOn p h := by
  cases p
  · exact .onV (f := fv) e
  · exact .onX (f := fx) e

theorem writeBoth {r : Req} {idx sub v : Nat} {f : Common p → Common p × Option Abort}
    (e : ∀ s, h s = Machine.writeBoth p r idx sub v f s) : ActsOn p h := by
  cases p
  · exact .onV (f := fun x => x.ruled r idx sub v (ruleV f)) e
  · exact .onX (f := fun x => x.ruled r idx sub v (ruleX f)) e

/-! ### Meanings made of others -/

/-- A choice that does not look at the state. -/
theorem ite {c : Prop} [Decidable c] (hh : c → ActsOn p h) (hk : ¬c → ActsOn p k) :
    ActsOn p (fun s => if c then h s else k s) := by
  by_cases hc : c
  · simpa only [hc, if_true] using hh hc
  · simpa only [hc, if_false] using hk hc

theorem ofVangeg (e : p = .vangeg) (hh : ActsOn .vangeg h) : ActsOn p h := e ▸ hh

theorem ofShopostra (e : p = .shopostra) (hh : ActsOn .shopostra h) : ActsOn p h := e ▸ hh

/-- A meaning chosen by what the part alone determines. -/
theorem choose {α : Type} {f : State → α} {m : α → State → Res} (hf : ∀ s t, State.SamePart p s t → f t = f s)
    (hm : ∀ a, ActsOn p (m a)) : ActsOn p (fun s => m (f s) s) := by
  intro s
  have hs := hm (f s) s
  cases p
  all_goals
    obtain ⟨y, hy⟩ := hs
    exact ⟨y, fun s' e => (congrArg (fun a => m a s') (hf s s' e)).trans (hy s' e)⟩

/-- A meaning chosen by the part's common units. -/
theorem ofCom {m : Common p → State → Res} (hm : ∀ c, ActsOn p (m c)) : ActsOn p (fun s => m (s.com p) s) := by
  refine choose (fun s t e => ?_) hm
  cases p
  · exact congrArg Vangeg.c e
  · exact congrArg Shopostra.c e

/-- A meaning that a part which does not run ignores. -/
theorem ifRuns (hh : ActsOn p h) : ActsOn p (fun s => if s.runs p then h s else .next s) := by
  refine choose (f := fun s => s.runs p) (m := fun b s => if b then h s else .next s) (fun s t e => ?_)
    fun _ => ite (fun _ => hh) fun _ => next p
  cases p
  · exact congrArg (fun v : Vangeg => !v.bnd.inReset) e
  · exact congrArg Shopostra.runs e

/-- One meaning after another. -/
theorem after (hh : ActsOn p h) (hk : ActsOn p k) : ActsOn p (fun s => k (after_ h s)) := by
  have comes : ∀ {s t : State}, h s = .next t → after_ h s = t := fun e => by simp only [after_, e]
  intro s
  have h1 := hh s
  cases p
  case vangeg =>
    obtain ⟨v, hv⟩ := h1
    obtain ⟨w, hw⟩ := hk { s with vg := v }
    exact ⟨w, fun s' e => (congrArg k (comes (hv s' e))).trans (hw _ rfl)⟩
  case shopostra =>
    obtain ⟨x, hx⟩ := h1
    obtain ⟨y, hy⟩ := hk { s with sx := x }
    exact ⟨y, fun s' e => (congrArg k (comes (hx s' e))).trans (hy _ rfl)⟩

end ActsOn

/-! ### Frames received, and what they carry -/

/-- Operations 3, 4, 8 and 9 of a session travel upward: only a Shopostra takes them (Table 8-5). -/
theorem actsOn_sessionMessage (p : Part) (port : Nat) (b : List Nat)
    (up : nth 0 b 0 ∈ [3, 4, 8, 9] → p = .shopostra) : ActsOn p (sessionMessage p port b) := by
  unfold sessionMessage
  match hop : nth 0 b 0 with
  | 1 => exact .ofCom (m := fun c => execSessionHeadRx p b (headBusy c b)) fun c => .onPart fun _ => rfl
  | 2 | 5 | 6 | 7 => exact .onPart fun _ => rfl
  | 3 | 4 | 8 | 9 => exact .ofShopostra (up (by simp [hop])) (.onX fun _ => rfl)
  | 0 | n + 10 => exact .next p

theorem actsOn_controlRecord (p : Part) (port lane source : Nat) (b : List Nat) :
    ActsOn p (controlRecord p port lane source b) := by
  have isVangeg {t : Prop} (h : t ∧ (!decide (p = .shopostra)) = true) : p = .vangeg := by
    cases p <;> simp_all
  have isShopostra {t : Prop} (h : t ∧ decide (p = .shopostra) = true) : p = .shopostra := of_decide_eq_true h.2
  unfold controlRecord
  refine .ite (fun _ => .onPart fun _ => rfl) fun _ => ?heartbeat
  refine .ite (fun h => .ofShopostra (isShopostra h) (.onX fun _ => rfl)) fun _ => ?revoke
  refine .ite (fun _ => .onPart fun _ => rfl) fun _ => ?notice
  refine .ite (fun _ => .onPart fun _ => rfl) fun _ => ?rehearsal
  refine .ite (fun _ => .onC fun _ => rfl) fun _ => ?snapCount
  refine .ite (fun h => .ofShopostra (isShopostra h) (.onX fun _ => rfl)) fun _ => ?forwarded
  refine .ite (fun h => .ofVangeg (isVangeg h) (.onV fun _ => rfl)) fun _ => ?forwardAck
  refine .ite (fun h => .ofVangeg (isVangeg h) (.onV fun _ => rfl)) fun _ => ?counts
  refine .ite (fun h => .ofVangeg (isVangeg h) (.onV fun _ => rfl)) fun _ => ?calibration
  refine .ite (fun _ => .onPart fun _ => rfl) fun _ => ?verdict
  refine .ite (fun h => .ofShopostra (isShopostra h) (.onX fun _ => rfl)) fun _ => ?report
  refine .ite (fun _ => .ite (fun h => ?upward) fun _ => .next p) fun hop => .ite (fun _ => ?downward) fun _ => .next p
  case upward => exact actsOn_sessionMessage p port b fun _ => of_decide_eq_true h
  case downward => exact actsOn_sessionMessage p port b fun h => absurd h (by simpa using hop)

theorem actsOn_controlBody (p : Part) (port lane source : Nat) (b : CtlBody) :
    ActsOn p (controlBody p port lane source b) := by
  cases b with
  | response q => exact .onC fun _ => rfl
  | other t f => exact actsOn_controlRecord _ _ _ _ _
  | _ => exact .onPart fun _ => rfl

theorem actsOn_controlFrame (p : Part) (port lane : Nat) (f : Frame) (b : CtlBody) :
    ActsOn p (controlFrame p port lane f b) :=
  .ite (fun _ => actsOn_controlBody _ _ _ _ _) fun _ => .onC fun _ => rfl

theorem actsOn_deliver (p : Part) (port lane : Nat) (f : Frame) :
    ActsOn p (fun s => .next (deliver p port lane s f)) := by
  unfold deliver
  have freed : ActsOn p (onC p fun c => c.freeFrame port f.queue) := .onC fun _ => rfl
  cases f.body with
  | control b => exact freed.after ((actsOn_controlFrame p port lane f b).after (.next p))
  | data bytes => exact freed.after (.after (h := onPart p _ _) (.onPart fun _ => rfl) (.next p))

theorem actsOn_deliver_foldl (p : Part) (port lane : Nat) (l : List Frame) :
    ActsOn p (fun s => .next (l.foldl (deliver p port lane) s)) := by
  induction l with
  | nil => exact .next p
  | cons f l ih =>
    intro s
    exact (actsOn_deliver p port lane f).after ih s

theorem actsOn_receiveWith (p : Part) (port lane : Nat) (f : Common p → Common p × List Frame) :
    ActsOn p (receiveWith p port lane f) :=
  .ifRuns (.ofCom (m := fun c s => .next ((f c).2.foldl (deliver p port lane) (after_ (onC p fun c => (f c).1) s)))
    fun _ => .after (h := onC p _) (.onC fun _ => rfl) (actsOn_deliver_foldl p port lane _))

theorem actsOn_receiveFrame (p : Part) (port lane : Nat) (f : Frame) : ActsOn p (receiveFrame p port lane f) := by
  have received : ActsOn p (onC p fun c => (c.heartbeatReceive port lane f).1) := .onC fun _ => rfl
  unfold receiveFrame
  refine .ite (fun _ => ?heartbeat) fun _ => actsOn_receiveWith _ _ _ _
  cases f.body with
  | control b =>
    exact .ofCom (m := fun c s =>
        let s1 := after_ (onC p fun c => (c.heartbeatReceive port lane f).1) s
        if (c.heartbeatReceive port lane f).2 then controlFrame p port lane f b s1 else .next s1)
      fun _ => received.after (.ite (fun _ => actsOn_controlFrame _ _ _ _ _) fun _ => .next p)
  | data bytes => exact received.after (.next p)

/-! ### Every command -/

theorem actsOn_submitKind (kind : Nat) (r : Req) (v : Nat) : ActsOn .shopostra (submitKind kind r v) := .onX fun _ => rfl

theorem actsOn_vangegColdReset (timeout : Bool) : ActsOn .vangeg (execVangegColdReset timeout) :=
  .onVg (g := fun v => if v.bnd.inReset then (v.coldReset timeout).flush else v) fun s => by
    simp only [execVangegColdReset, State.onVg]
    split <;> rfl

theorem actsOn_vangegResetAssert : ActsOn .vangeg execVangegResetAssert :=
  fun _ => ⟨_, fun _ e => by rw [execVangegResetAssert, e]⟩

/-- Each command's meaning is one of the lifts of a change of one part, or is made of them. -/
theorem exec_actsOn (c : Instr) : ActsOn c.part (exec c) := by
  delta exec
  cases c
  all_goals dsimp only [Instr.part]
  case chordEvent | hrpRequest | hmwWriteResponse | hmwSquashAck | errReport | pwrReqRise | islandSaveComplete |
    pwrReqFall | islandRestoreComplete | pwrClockStopTimeout | testIsoAckRise | testIsoAckTimeout |
    testIsoAckFall | hubPllLock | warmResetRequest | warmResetSaveDone | warmResetRelease | warmResetRestoreDone
    | i3cCcc | i3cPrivateWrite | i3cPrivateRead | pawnConfigWrite | pawnValueWrite | pawnReloadWrite |
    pawnCellOwnerWrite | pawnOverflow | sampleRecordReady | sampleCaptureTimeout | pawnCmdSubmit | pawnCmdStart
    | pawnCmdStop | pawnCmdRestart | pawnCmdClearOvf | pawnLatchPeriodWrite | latchPeriodChange | latchTick |
    bwWindowClose | pawnBwSrcWrite | dumpDestEnable | ringRptrWrite | ringWritesAnswered | mirrorWriteAnswered |
    counterParityError | saveStoreEccError | imageBufferParityError | traceRecord | traceFrontOverflowExit |
    tracePacketCommit | trcCmpWrite | trcCmdSubmit | trcStartEdge | trcStopEdge | trcBufRead |
    traceFeParityError | traceBufferEccError | isoBudgetAbort | sigTapBeat | sigStepEnd | roundInputWaitTimeout
    | sigGroupWrite | sigCleanJobWrite | auditReplayEnd | auditDeadline | minorityQueryRx | taintNoticeRx |
    repeatComplete | repeatDeadline | healthSample | sigAccumulatorParity | leaseParityError | forwardAckRx |
    forwardResendTimeout | dieCountsRx | bistTestStart | wrapperOpComplete | bistStepTimeout | bistResult |
    bistPlanWrite | calRecordRx | sliceBind | sliceReset | sliceResetUnbind | sliceDrainTimeout |
    sliceResetComplete | squashAckLate | protDriverPasidWrite | sliceTableParity | blockClockEdge |
    cleanEpochHoldEnd =>
    exact .onV fun _ => rfl
  case mirrorApexTakeover | levelRoleWrite | liveAssign | castleSubmit | castleAckDeadline | tempoSourceSelWrite
    | ptpMessageRx | ptpMessageTx | esmcRx | ppsEdge | tempoTodWrite | chordRecordRx | chordRecordExpire |
    chordFit | laserInputChange | engineFault | strmDescDataWrite | sessionOpen | sessionTagCopyRx |
    sessionReceiptRx | prepareResendCheck | sessionAckRx | sessionAckDeadline | sessionDecide | sessionQueryRx |
    sessionClose | endRecordRx | drainTimeout | entryDrained | drainDoneRx | redDescDataWrite | redDescCommit |
    intervalDeadline | logMirrorRx | logRecordExpire | redReadoutRead | redReplaySubmit | replayRecordsDone |
    reductionCellFault | logCrcFailure | tangentRunStart | tangentPhaseStart | slotRunComplete | tileFault |
    programLoad | programUnload | tanLoadDataWrite | tanSlotSeedWrite | roundInputRx | roundDeadline | sigResume
    | minorityAnswerRx | minorityDeadline | taintMapCompute | classEntryExpire | errorReportRx | roundEccError |
    parentRevokeRx | deadDeclaration | partnerDeadWaitEnd | liveFenceCmd | fenceCommandInstant | liveGambit |
    gambitRun | livenessStateParity | flagSymbolSend | triggerCopyRx | savedImageRx | histSeek | histRead |
    forwardedRecordRx | countersJournalWrite | persistCopy | recDieSet | exportSend | historyEccError |
    norFailure | hbmStackLoss | elementTestStart | elementTestComplete | sxColdReset | bootCoreStart |
    bootExtensionDone | recoveryFetchRetry | recoveryFetchDone | updateFetch | updateFetchDone | updateVerify |
    updateCommit | norSectorDone | managementReset | coldResetRequest | secFloorWrite | mgtParamCommit |
    mgtDatagramRx | mgtLinkChange | sxCalCommit | sxCalDataWrite | sxSensorSample | engineRecovery |
    mgtSramEccError | controlTimeout | railFault | updateVerifyDone | calibrationCommitDone |
    recoveryPortFallback | relayRecordFree =>
    exact .onX fun _ => rfl
  case tempoModeSwitch | tempoCmpFire | tempoSourceValid | tempoSourceLost | tempoLock | tempoUnlock |
    timeDownSend | timeDownRx | timeUpRx | timeSourceReturn | tempoDisagreement | slotSchedule | guardWindow |
    creditWordRx | creditSyncRx | laneWordRx | laneWordMissing | laneDegrade | laneRestore | trainingLock |
    identRx | identPeriodicSend | trainingTimeout | portFailedExpiry | portDown | unitReady | unitRetry |
    gclSwitch | budgetParityError | gclParityError | sessionRecordExpire | controlResponseRx | flagWordRx |
    snapCountRx | captureTimeout | recRead | eventRecordStore | bistStressTimeout | directorParityError |
    dbgAuthExpiry | dbgLockoutEnd | matrixParityError | stagingExpiry =>
    exact .onC fun _ => rfl
  case boardCycleStart | activeParentSwitch | castleStateDelivery | castleInstant | tempoModeWrite |
    tempoEpochWrite | fuseProgramDone | portTimeComplete | sessionHeadRx | sessionEntryRx | sessionCommitRx |
    sessionCancelRx | sessionActivate | sessionOrphanTimeout | sessionCloseRx | sessionStop | verdictRecordRx |
    heartbeatRx | leaseExpiry | livenessNoticeRx | rehearsalRecordRx | snapshotAction | stopAction |
    resumeAction | ophoursTick | fuseBurnSubmit | dbgChallengeRead | dbgAuthSubmit | dictRead | dictWrite |
    dictWriteFence | dictBlockRead | dictFence | partFenceComplete | registerWrite =>
    exact .onPart fun _ => rfl
  case tempoIncrWrite | tempoStep | tempoCmpArm | linkAsymWrite | portEnableWrite | portCreditsWrite |
    budShapeWrite | gclSwitchSubmit | gclSwitchCancel | bistRequestSubmit | dbgAuthEnd | fenceReqWrite =>
    exact .writeBoth fun _ => rfl
  case powerOnReset | resetPin | refclkLoss | laserPresenceChange | refclkReturn | resetPinAssert => exact .onPkg fun _ => rfl
  case controlFrameRx | dataFrameRx => exact actsOn_receiveFrame _ _ _ _
  case reorderGapTimeout => exact actsOn_receiveWith _ _ _ _
  case flagSnapshotSubmit | flagStopSubmit | flagResumeSubmit | flagCancelSubmit => exact actsOn_submitKind _ _ _
  case vangegColdReset timeout => exact actsOn_vangegColdReset timeout
  case vangegResetAssert => exact actsOn_vangegResetAssert
  case budAmountWrite => exact .ite (fun _ => .writeBoth fun _ => rfl) fun _ => .next _
  case trcSrcConfigWrite => exact .ite (fun _ => .onV fun _ => rfl) fun _ => .next _
  case redQuantileRead => exact .ite (fun _ => .onX fun _ => rfl) fun _ => .next _

/-- Settles O45: the meaning of every command acts on the addressed part, and from that part alone. -/
theorem commandsActOnOnePart : Obligations.CommandsActOnOnePart := by
  intro c s
  have h := exec_actsOn c s
  refine ⟨fun hp => ?_, fun hp => ?_⟩
  · rw [hp] at h
    exact h
  · rw [hp] at h
    exact h

end Sys2Proof.Machine
/-! ## Answers: what reaches the requester, and what an answer leaves alone -/

namespace Sys2Proof.Machine

variable {kd : Part}

theorem Quiet.portUp {c d : Common kd} (h : Quiet c d) (p : Nat) : d.portUp p = c.portUp p := by
  unfold Common.portUp Common.portState
  rw [h.reg 0x1300 (p + 1) (by decide)]

theorem Quiet.reaches {c d : Common kd} (h : Quiet c d) (r : Req) : d.reaches r = c.reaches r := by
  unfold Common.reaches
  split
  · exact h.portUp _
  · exact h.portUp _
  · rfl

/-- An answer sent earlier stands. -/
theorem Quiet.answered {c d : Common kd} (h : Quiet c d) {r : Req} {a : Option Abort} {data : Nat}
    (hc : c.answered r a data) : d.answered r a data := by
  obtain ⟨q, hq, e⟩ := hc
  exact ⟨q, h.sent hq, e⟩

theorem Quiet.setReg {c d : Common kd} (h : Quiet c d) (i s v : Nat) : Quiet (c.setReg i s v) (d.setReg i s v) := by
  refine ⟨fun j t hj => ?_, h.now, h.out, h.pin, h.tempo, h.dbg, h.ports, h.bindings, h.bist, h.strm, h.live, h.flag,
    h.bud, h.ctl⟩
  by_cases e : key j t = key i s
  · simp only [Common.reg, Common.setReg_dict, Common.kind_eq, e, storeGet_set_same]
  · rw [Common.reg_setReg_other _ _ e, Common.reg_setReg_other _ _ e, h.reg j t hj]

theorem Common.mem_out_respond {c : Common kd} {r : Req} (h : c.reaches r = true) (q : CtlResponse) :
    Msg.response r.path q ∈ (c.respond r.path q).out := by
  have onPort {n : Nat} (hn : c.portUp n = true) {m : Msg} {u : WorkUnit} :
      m ∈ (if c.portUp n then ((c.send m).submit u).1 else c).out := by
    rw [if_pos hn]
    exact (quiet_submit _ _).sent (List.mem_cons_self ..)
  unfold Common.reaches at h
  unfold Common.respond
  cases hp : r.path <;> simp only [hp] at h ⊢
  case upper => exact onPort h
  case child => exact onPort h
  all_goals exact List.mem_cons_self ..

/-! ### The two halves of an answer: counts, and the response -/

@[simp] theorem Common.bump_ctl (c : Common kd) (i s : Nat) : (c.bump i s).ctl = c.ctl := rfl
@[simp] theorem Common.addReg_ctl (c : Common kd) (i s n : Nat) : (c.addReg i s n).ctl = c.ctl := rfl

@[simp] theorem Common.baseline_ctl (c : Common kd) (n : Nat) : (c.baseline n).ctl = c.ctl := by
  unfold Common.baseline
  split <;> rfl

/-- Bookkeeping that leaves the stagings. -/
structure Counts (c d : Common kd) : Prop where
  quiet : Quiet c d
  stagings : d.ctl.stagings = c.ctl.stagings

theorem Counts.refl (c : Common kd) : Counts c c := ⟨Quiet.refl c, rfl⟩

theorem Counts.bump {c d : Common kd} (h : Counts c d) (i s : Nat) (hi : i ∈ accounting) : Counts c (d.bump i s) :=
  ⟨h.quiet.trans (quiet_bump d i s hi), h.stagings⟩

theorem Counts.baseline {c d : Common kd} (h : Counts c d) (n : Nat) : Counts c (d.baseline n) :=
  ⟨h.quiet.trans (quiet_baseline d n), by rw [Common.baseline_ctl, h.stagings]⟩

/-- An answer counts itself, and then sends its response. -/
theorem Common.answer_eq_respond (c : Common kd) (r : Req) (op : DictOp) (i s : Nat) (a : Option Abort) (data n : Nat)
    (more : Bool) : ∃ (d : Common kd) (q : CtlResponse), Counts c d ∧ q.reqId = r.tag ∧ q.abort = abortCode a ∧
      q.data = data ∧ c.answer r op i s a data n more = d.respond r.path q := by
  have listed : (0x1032 : Nat) ∈ accounting ∧ (0x3803 : Nat) ∈ accounting := by decide
  obtain ⟨answers, denials⟩ := listed
  unfold Common.answer
  dsimp only
  refine ⟨_, _, ?counts, rfl, rfl, rfl, rfl⟩
  have counted : Counts c (match a with
      | none => c.bump 0x1032 1
      | some .privilege => ((c.bump 0x1032 2).bump 0x3803 0).baseline 57
      | some .busy => (c.bump 0x1032 2).bump 0x1032 4
      | some .timeout => (c.bump 0x1032 2).bump 0x1032 3
      | some _ => c.bump 0x1032 2) := by
    have abort := (Counts.refl c).bump _ 2 answers
    split
    · exact (Counts.refl c).bump _ _ answers
    · exact (abort.bump _ _ denials).baseline _
    · exact abort.bump _ _ answers
    · exact abort.bump _ _ answers
    · exact abort
  cases r.path <;> dsimp only
  case hrp =>
    by_cases ha : a.isSome = true <;> simp only [ha, if_true]
    · exact (counted.baseline _).baseline _
    · exact counted.baseline _
  case i3c => exact ⟨counted.quiet.trans (quiet_fields _ _ _ _ _), counted.stagings⟩
  all_goals exact counted

theorem Common.answered_answer {c : Common kd} {r : Req} (h : c.reaches r = true) (op : DictOp) (i s : Nat)
    (a : Option Abort) (data n : Nat) (more : Bool) : (c.answer r op i s a data n more).answered r a data := by
  obtain ⟨d, q, hd, htag, habort, hdata, e⟩ := c.answer_eq_respond r op i s a data n more
  rw [e]
  exact ⟨q, Common.mem_out_respond ((hd.quiet.reaches r).trans h) q, htag, habort, hdata⟩

/-! ### The open stagings -/

@[simp] theorem Common.consume_ctl (c : Common kd) (cls r n : Nat) : (c.consume cls r n).ctl = c.ctl := by
  unfold Common.consume
  split <;> rfl

theorem Common.foldl_ctl {α : Type} (f : Common kd → α → Common kd) (hf : ∀ c a, (f c a).ctl = c.ctl) (l : List α)
    (c : Common kd) : (l.foldl f c).ctl = c.ctl := by
  induction l generalizing c with
  | nil => rfl
  | cons a l ih => exact (ih (f c a)).trans (hf c a)

@[simp] theorem Common.take_ctl (c : Common kd) (u : WorkUnit) (res : Nat) : (c.take u res).ctl = c.ctl := rfl

@[simp] theorem Common.startUnit_ctl (c : Common kd) (u : WorkUnit) : (c.startUnit u).ctl = c.ctl := by
  unfold Common.startUnit
  dsimp only
  rw [Common.foldl_ctl (fun a m => a.send m) fun _ _ => rfl]
  dsimp only
  split
  · simp only [Common.take_ctl]
  · simp only [Common.take_ctl]

@[simp] theorem Common.loseUnit_ctl (c : Common kd) (cls serial : Nat) : (c.loseUnit cls serial).ctl = c.ctl := by
  unfold Common.loseUnit Common.countLoss
  dsimp only
  split
  · simp
  · split <;> simp

@[simp] theorem Common.offer_ctl (c : Common kd) (u : WorkUnit) : (c.offer u).1.ctl = c.ctl := by
  unfold Common.offer
  dsimp only
  split
  · exact c.loseUnit_ctl _ _
  · split
    · exact c.startUnit_ctl u
    · split
      · exact c.loseUnit_ctl _ _
      · rfl

@[simp] theorem Common.submit_stagings (c : Common kd) (u : WorkUnit) : (c.submit u).1.ctl.stagings = c.ctl.stagings := by
  unfold Common.submit
  split
  · rfl
  · simp

@[simp] theorem Common.respond_stagings (c : Common kd) (p : Path) (q : CtlResponse) :
    (c.respond p q).ctl.stagings = c.ctl.stagings := by
  have onPort (n : Nat) (m : Msg) (u : WorkUnit) :
      (if c.portUp n then ((c.send m).submit u).1 else c).ctl.stagings = c.ctl.stagings := by
    split
    · simp
    · rfl
  unfold Common.respond
  cases p
  case upper => exact onPort _ _ _
  case child => exact onPort _ _ _
  all_goals rfl

@[simp] theorem Common.answer_stagings (c : Common kd) (r : Req) (op : DictOp) (i s : Nat) (a : Option Abort)
    (data n : Nat) (more : Bool) : (c.answer r op i s a data n more).ctl.stagings = c.ctl.stagings := by
  obtain ⟨d, q, hd, -, -, -, e⟩ := c.answer_eq_respond r op i s a data n more
  rw [e, Common.respond_stagings, hd.stagings]

theorem Vangeg.issue_ctl (v : Vangeg) (w : HostWrite) (i : Nat) : (v.issue w i).c.ctl = v.c.ctl := by
  unfold Vangeg.issue
  dsimp only [Vangeg.onC_c, Common.send_ctl]
  split <;> simp

theorem Vangeg.issueOrWait_ctl (v : Vangeg) (w : HostWrite) : (v.issueOrWait w).c.ctl = v.c.ctl := by
  unfold Vangeg.issueOrWait
  split
  · exact v.issue_ctl w _
  · rfl

theorem Vangeg.issueStarted_ctl (v : Vangeg) (w : HostWrite) : (v.issueStarted w).c.ctl = v.c.ctl := by
  unfold Vangeg.issueStarted
  split
  · refine (Vangeg.issueOrWait_ctl _ w).trans ?_
    split
    · split <;> rfl
    · rfl
  · exact v.issueOrWait_ctl w

theorem Vangeg.dropImages_ctl (lost : List Nat) (v : Vangeg) : (v.dropImages lost).c.ctl = v.c.ctl := by
  unfold Vangeg.dropImages
  dsimp only
  split
  · rfl
  · exact Common.foldl_ctl _ (fun _ _ => by simp) _ _

/-- What ends a command at a Vangeg leaves the dictionary's transactions. -/
theorem Vangeg.flush_ctl (v : Vangeg) : v.flush.c.ctl = v.c.ctl := by
  have issued (l : List HostWrite) (w : Vangeg) : (l.foldl Vangeg.issueStarted w).c.ctl = w.c.ctl := by
    induction l generalizing w with
    | nil => rfl
    | cons a l ih => exact (ih _).trans (w.issueStarted_ctl a)
  exact (Vangeg.dropImages_ctl _ _).trans (issued _ _)

end Sys2Proof.Machine

/-! ## A command to the common units of one part -/

namespace Sys2Proof.Machine

/-- A command to a Vangeg that comes to a change of its common units. -/
theorem onPart_vangeg_eq {fv : Vangeg → Vangeg} {fx : Shopostra → Shopostra} {f : Common .vangeg → Common .vangeg}
    {s : State} (h : fv s.vg = s.vg.onC f) : onPart .vangeg fv fx s = onC .vangeg f s := by
  simp only [onPart, onC, onV, h]

/-- A command to a Shopostra that comes to a change of its common units. -/
theorem onPart_shopostra_eq {fv : Vangeg → Vangeg} {fx : Shopostra → Shopostra} {f : Common .shopostra → Common .shopostra}
    {s : State} (h : fx s.sx = s.sx.onC f) : onPart .shopostra fv fx s = onC .shopostra f s := by
  simp only [onPart, onC, onX, h]

@[simp] theorem State.com_on (s : State) (p : Part) (f : Common p → Common p) : (s.on p f).com p = f (s.com p) := by
  cases p <;> rfl

theorem State.Near.com {s t : State} (h : s.Near t) (p : Part) : Quiet (s.com p) (t.com p) := by
  cases p
  · exact h.vg.c
  · exact h.sx.c

theorem State.near_on {s : State} {p : Part} {f : Common p → Common p} (h : Quiet (s.com p) (f (s.com p))) :
    s.Near (s.on p f) := by
  cases p
  · exact ⟨QuietV.onC h, QuietX.refl _, rfl⟩
  · exact ⟨QuietV.refl _, QuietX.onC h, rfl⟩

/-- What a command to the common units of a part that runs leaves: its effect, up to bookkeeping that leaves the stagings. -/
theorem onC_outcome {s : State} {p : Part} (run : s.runs p = true) (f : Common p → Common p) :
    ∃ t, onC p f s = .next t ∧ (s.on p f).Near t ∧ (t.com p).ctl.stagings = (f (s.com p)).ctl.stagings := by
  cases p
  case vangeg =>
    exact ⟨_, onV_runs (fun v => v.onC f) s (by simpa [State.runs] using run),
      ⟨Vangeg.quietV_flush _, QuietX.refl _, rfl⟩, congrArg Ctl.stagings (Vangeg.flush_ctl _)⟩
  case shopostra =>
    exact ⟨_, onX_runs (fun x => x.onC f) s run, ⟨QuietV.refl _, Shopostra.quietX_flush _, rfl⟩, rfl⟩

/-- A command that is an answer, up to bookkeeping. -/
theorem gives_answered {i : Instr} {s : State} {p : Part} {r : Req} {a : Option Abort} {data : Nat}
    {f : Common p → Common p} (run : s.runs p = true) (e : exec i s = onC p f s) (quiet : Quiet (s.com p) (f (s.com p)))
    (answered : (f (s.com p)).answered r a data) :
    Gives i s (fun t => s.Near t ∧ (t.com p).answered r a data) := by
  obtain ⟨t, ht, near, -⟩ := onC_outcome run f
  refine ⟨t, e.trans ht, (State.near_on quiet).trans near, (near.com p).answered ?_⟩
  rwa [State.com_on]

end Sys2Proof.Machine

/-! ## Discarding the stagings of other objects decides nothing about an access (R584) -/

namespace Sys2Proof.Machine

variable {kd : Part}

theorem quiet_dropOther (r : Req) (i s : Nat) (c : Common kd) : Quiet c (c.dropOther r i s) := quiet_discardStagings c _

/-- Of the registers it changes the count of discarded stagings alone. -/
theorem Common.reg_dropOther (c : Common kd) (r : Req) (i s : Nat) {j t : Nat} (h : j ≠ 0x1032 ∨ t % 256 ≠ 6) :
    (c.dropOther r i s).reg j t = c.reg j t := by
  unfold Common.dropOther Common.discardStagings
  dsimp only
  split
  · rfl
  · refine c.reg_setReg_other _ fun e => ?_
    obtain ⟨hj, ht⟩ := key_inj.mp e
    exact h.elim (· hj) (· ht)

/-- Nor does it change the size of a record, or any object without subindices. -/
theorem Common.reg_zero_dropOther (c : Common kd) (r : Req) (i s j : Nat) : (c.dropOther r i s).reg j 0 = c.reg j 0 :=
  c.reg_dropOther r i s (.inr (by decide))

theorem Common.reg_idx_dropOther (c : Common kd) (r : Req) (i s : Nat) {j : Nat} (h : j ≠ 0x1032) :
    (c.dropOther r i s).reg j = c.reg j :=
  funext fun _ => c.reg_dropOther r i s (.inl h)

theorem Common.exists_dropOther (c : Common kd) (r : Req) (i s j t : Nat) : (c.dropOther r i s).exists_ j t = c.exists_ j t := by
  unfold Common.exists_ Common.portCount Common.usesCell Common.usesSrc
  rw [c.reg_zero_dropOther r i s j, c.reg_idx_dropOther r i s (j := 0x1300) (by decide),
    c.reg_idx_dropOther r i s (j := 0x1020) (by decide)]
  rfl

theorem Common.pathAdmits_dropOther (c : Common kd) (r : Req) (i s : Nat) (q : Req) :
    (c.dropOther r i s).pathAdmits q = c.pathAdmits q := by
  unfold Common.pathAdmits Common.fuseFault
  rw [c.reg_zero_dropOther r i s 0x1022, c.reg_zero_dropOther r i s 0x1023, c.reg_zero_dropOther r i s 0x3802]
  rfl

theorem Common.levelAdmits_dropOther (c : Common kd) (r : Req) (i s : Nat) (q : Req) (j t : Nat) (w : Bool) :
    (c.dropOther r i s).levelAdmits q j t w = c.levelAdmits q j t w := by
  unfold Common.levelAdmits
  rw [c.reg_idx_dropOther r i s (j := 0x3801) (by decide)]

theorem Common.gate_dropOther (c : Common kd) (r : Req) (i s : Nat) (q : Req) (j t : Nat) (w b : Bool) :
    (c.dropOther r i s).gate q j t w b = c.gate q j t w b := by
  simp only [Common.gate, Common.exists_dropOther, Common.pathAdmits_dropOther, Common.levelAdmits_dropOther]

theorem Common.valueFits_of_quiet {c d : Common kd} (h : Quiet c d) (ty : ObjType) (v : Nat) :
    d.valueFits ty v = c.valueFits ty v := by
  have mode : d.mode = c.mode := h.reg 0x1200 0 (by decide)
  unfold Common.valueFits
  rw [mode]

theorem Vangeg.sliceState_dropOther (x : Vangeg) (r : Req) (i s k : Nat) :
    (x.onC (Common.dropOther r i s)).sliceState k = x.sliceState k := x.c.reg_dropOther r i s (.inr (by decide))

theorem Vangeg.slicePasid_dropOther (x : Vangeg) (r : Req) (i s k : Nat) :
    (x.onC (Common.dropOther r i s)).slicePasid k = x.slicePasid k := x.c.reg_dropOther r i s (.inr (by decide))

theorem Vangeg.sliceOfPasid_dropOther (x : Vangeg) (r : Req) (i s pasid : Nat) :
    (x.onC (Common.dropOther r i s)).sliceOfPasid pasid = x.sliceOfPasid pasid := by
  unfold Vangeg.sliceOfPasid
  congr 1
  funext k
  rw [x.sliceState_dropOther, x.slicePasid_dropOther]

theorem Common.cellOwner_dropOther (c : Common kd) (r : Req) (i s cell : Nat) :
    (c.dropOther r i s).cellOwner cell = c.cellOwner cell := c.reg_dropOther r i s (.inl (by omega))

theorem Vangeg.objectSlice_dropOther (x : Vangeg) (r : Req) (i s j t : Nat) :
    (x.onC (Common.dropOther r i s)).objectSlice j t = x.objectSlice j t := by
  unfold Vangeg.objectSlice
  rw [Vangeg.onC_c, Common.cellOwner_dropOther, x.c.reg_dropOther r i s (t := 2) (.inr (by decide))]

theorem Vangeg.sliceAdmits_dropOther (x : Vangeg) (r : Req) (i s : Nat) (q : Req) (j t : Nat) :
    (x.onC (Common.dropOther r i s)).sliceAdmits q j t = x.sliceAdmits q j t := by
  unfold Vangeg.sliceAdmits
  rw [x.sliceOfPasid_dropOther, x.objectSlice_dropOther]
  rfl

theorem Vangeg.requesterResetting_dropOther (x : Vangeg) (r : Req) (i s : Nat) (q : Req) :
    (x.onC (Common.dropOther r i s)).requesterResetting q = x.requesterResetting q := by
  unfold Vangeg.requesterResetting
  rw [x.sliceOfPasid_dropOther]
  cases x.sliceOfPasid q.pasid with
  | none => rfl
  | some k =>
    dsimp only
    rw [x.sliceState_dropOther]

end Sys2Proof.Machine

/-! ## The transaction engine, for either part -/

namespace Sys2Proof.Machine

variable {kd : Part}

/-- A face whose common units are reached by `onC` alone, and whose slice rules no discarded staging changes. -/
structure Face.Lawful {α : Type} (F : Face kd α) : Prop where
  com_onC : ∀ f x, F.com (F.onC f x) = f (F.com x)
  onC_onC : ∀ f g x, F.onC f (F.onC g x) = F.onC (fun c => f (g c)) x
  slice_dropOther : ∀ r i s q j t x, F.slice q j t (F.onC (Common.dropOther r i s) x) = F.slice q j t x
  resetting_dropOther : ∀ r i s q x, F.resetting q (F.onC (Common.dropOther r i s) x) = F.resetting q x

theorem vangegFace_lawful : vangegFace.Lawful :=
  ⟨fun _ _ => rfl, fun _ _ _ => rfl, fun r i s q j t x => x.sliceAdmits_dropOther r i s q j t,
    fun r i s q x => x.requesterResetting_dropOther r i s q⟩

theorem shopostraFace_lawful : shopostraFace.Lawful :=
  ⟨fun _ _ => rfl, fun _ _ _ => rfl, fun _ _ _ _ _ _ _ => rfl, fun _ _ _ _ _ => rfl⟩

namespace Face

variable {α : Type} {F : Face kd α} {r : Req} {idx sub word : Nat} {x : α}

/-- The access decision of a face. -/
def gate (F : Face kd α) (r : Req) (idx sub : Nat) (write : Bool) (x : α) : Option Abort :=
  (F.com x).gate r idx sub write (F.slice r idx sub x)

theorem Lawful.gate_dropOther (hF : F.Lawful) (write : Bool) :
    (F.com (F.onC (Common.dropOther r idx sub) x)).gate r idx sub write
      (F.slice r idx sub (F.onC (Common.dropOther r idx sub) x)) = F.gate r idx sub write x := by
  rw [hF.com_onC, hF.slice_dropOther, Common.gate_dropOther, Face.gate]

/-- A reply after the stagings of other objects are discarded. -/
theorem Lawful.reply_dropOther (hF : F.Lawful) (op : DictOp) (a : Option Abort) (data n : Nat) (more : Bool)
    (f : Common kd → Common kd) :
    F.reply r op idx sub a data n more (F.onC f (F.onC (Common.dropOther r idx sub) x)) =
      F.onC (fun c => (f (c.dropOther r idx sub)).answer r op idx sub a data n more) x := by
  rw [Face.reply, hF.onC_onC, hF.onC_onC]

theorem Lawful.read_refused (hF : F.Lawful) {a : Abort} (h : F.gate r idx sub false x = some a) :
    F.read r idx sub word x =
      F.onC (fun c => (c.dropOther r idx sub).answer r .read idx sub (some a) 0 0 false) x := by
  unfold Face.read
  dsimp only
  rw [hF.gate_dropOther, h]
  exact hF.onC_onC _ _ _

theorem Lawful.write_refused (hF : F.Lawful) {op : DictOp} {data : List Nat} {a : Abort} (hne : data ≠ [])
    (hle : data.length ≤ 24) (h : F.gate r idx sub true x = some a) :
    F.write r op idx sub word data x =
      F.onC (fun c => (c.dropOther r idx sub).answer r op idx sub (some a) 0 0 false) x := by
  unfold Face.write
  dsimp only
  rw [if_neg (by simp [hne, hle]), hF.gate_dropOther, h]
  exact hF.onC_onC _ _ _

/-- An admitted read answers its value, or on a path of words the word asked for. -/
theorem Lawful.read_admitted (hF : F.Lawful) {o : ObjRow} {v : Nat} (h : F.gate r idx sub false x = none)
    (ho : findRow idx sub = some o) (hw : word < wordsOf o.ty idx sub) (hr : F.resetting r x = false)
    (hv : F.value idx sub (F.onC (Common.dropOther r idx sub) x) = .ok v) :
    F.read r idx sub word x = F.onC (fun c =>
      if pathKind r.path = 2 then (c.dropOther r idx sub).answer r .read idx sub none v (bytesOf o.ty idx sub) false
      else
        let q := ((F.com x).dropOther r idx sub).readWord r idx sub word v o.ty
        q.1.answer r .read idx sub none q.2 8 false) x := by
  unfold Face.read
  dsimp only
  rw [hF.gate_dropOther, h, ho]
  dsimp only
  rw [if_neg (by omega), hF.resetting_dropOther, hr, hv]
  dsimp only
  by_cases hk : pathKind r.path = 2
  · simp only [hk, if_true]
    exact hF.onC_onC _ _ _
  · simp only [hk, if_false, hF.com_onC]
    exact hF.reply_dropOther _ _ _ _ _ _

/-- A WRITE of the one word of a value that fits runs the object's rule. -/
theorem Lawful.write_word (hF : F.Lawful) {op : DictOp} {o : ObjRow} {v : Nat} (h : F.gate r idx sub true x = none)
    (ho : findRow idx sub = some o) (hw : wordsOf o.ty idx sub = 1) (hfit : (F.com x).valueFits o.ty v = true)
    (hr : F.resetting r x = false) :
    F.write r op idx sub 0 [v] x =
      let q := F.rule r idx sub v (F.onC (Common.dropOther r idx sub) x)
      F.reply r op idx sub q.2 0 0 false q.1 := by
  unfold Face.write
  dsimp only
  rw [if_neg (by simp), hF.gate_dropOther, h, ho]
  have fits : (F.com (F.onC (Common.dropOther r idx sub) x)).valueFits o.ty v = true := by
    rw [hF.com_onC, Common.valueFits_of_quiet (quiet_dropOther r idx sub _), hfit]
  simp [hw, Face.commit, fits, hF.resetting_dropOther, hr]

theorem Lawful.write_timeWord (hF : F.Lawful) {op : DictOp} {o : ObjRow} {lo : Nat} {d : Common kd}
    (h : F.gate r idx sub true x = none) (ho : findRow idx sub = some o) (hty : o.ty = .time)
    (hr : F.resetting r x = false)
    (hd : ((F.com x).dropOther r idx sub).stageWords r idx sub [(0, lo % 2 ^ 64)] = some d) :
    F.write r op idx sub 0 [lo] x = F.onC (fun _ => d.answer r op idx sub none 0 0 false) x := by
  unfold Face.write
  dsimp only
  rw [if_neg (by simp), hF.gate_dropOther, h, ho]
  have words : wordsOf o.ty idx sub = 2 := by rw [hty]; rfl
  have listed : ((List.range [lo].length).zip [lo]).map (fun w => (0 + w.1, w.2 % 2 ^ 64)) = [(0, lo % 2 ^ 64)] := rfl
  simp only [words, listed, hF.resetting_dropOther, hr, hF.com_onC, hd]
  exact hF.reply_dropOther _ _ _ _ _ _

/-- The bytes of a BLOB other than the challenge and management SRAM. -/
theorem bytes_blob {at_ n : Nat} {l : List Nat} (hauth : idx ≠ 0x3860) (hmem : idx ≠ 0x3861)
    (hl : F.blob idx sub x = .ok l) : F.bytes idx sub at_ n x = (x, .ok ((l.drop at_).take n, l.length)) := by
  unfold Face.bytes
  dsimp only
  rw [if_neg hauth, if_neg hmem, hl]

/-- An admitted block read of a BLOB without a named cursor answers the bytes at the cursor, and moves it. -/
theorem Lawful.blockRead_admitted (hF : F.Lawful) {count offset : Nat} {o : ObjRow} {l : List Nat}
    (h : F.gate r idx sub false x = none) (ho : findRow idx sub = some o) (hty : o.ty = .blob)
    (hn : namedCursor idx sub = false) (hauth : idx ≠ 0x3860) (hmem : idx ≠ 0x3861)
    (hword : badWord r.path false word offset = false) (hr : F.resetting r x = false) (hwin : F.window idx sub = none)
    (hl : F.blob idx sub (F.onC (Common.dropOther r idx sub) x) = .ok l) :
    let start := ((F.com x).dropOther r idx sub).startAt r.path idx sub word offset
    let bytes := (l.drop start).take (if pathKind r.path = 2 then count else 8)
    F.blockRead r idx sub word count offset x = F.onC (fun c =>
      ((c.dropOther r idx sub).setCursor r.path idx sub (start + bytes.length)).answer r .blockRead idx sub none
        (fromLE bytes) bytes.length (decide (start + bytes.length < l.length))) x := by
  unfold Face.blockRead
  dsimp only
  rw [hF.gate_dropOther, h, ho, hn, hword, hF.resetting_dropOther, hr, hwin, hF.com_onC]
  simp only [hty, Bool.and_false, decide_true, Bool.not_true, Bool.false_eq_true, if_false, Face.bytes_blob hauth hmem hl]
  exact hF.reply_dropOther _ _ _ _ _ _

end Face

end Sys2Proof.Machine

/-! ## Dictionary accesses at a part -/

namespace Sys2Proof.Machine

variable {s : State} {p : Part} {r : Req} {idx sub word : Nat}

theorem State.serves_runs (h : s.serves p r = true) : s.runs p = true := by
  cases p
  · exact (Bool.and_eq_true_iff.mp h).1
  · exact h

/-- An object that the part does not have is refused before anything else is judged (R18, Table 19-7). -/
theorem State.gate_absent (h : (s.com p).exists_ idx sub = false) (write : Bool) :
    s.gate p r idx sub write = some .noObject := by
  cases p
  · exact if_pos (congrArg (!·) h)
  · exact if_pos (congrArg (!·) h)

/-! ### Refused accesses -/

theorem execDictRead_refused {a : Abort} (h : s.gate p r idx sub false = some a) :
    execDictRead p r idx sub word s =
      onC p (fun c => (c.dropOther r idx sub).answer r .read idx sub (some a) 0 0 false) s := by
  cases p
  · exact onPart_vangeg_eq (vangegFace_lawful.read_refused h)
  · exact onPart_shopostra_eq (shopostraFace_lawful.read_refused h)

theorem onPart_write_refused {op : DictOp} {data : List Nat} {a : Abort} (hne : data ≠ []) (hle : data.length ≤ 24)
    (h : s.gate p r idx sub true = some a) :
    onPart p (vangegFace.write r op idx sub word data) (shopostraFace.write r op idx sub word data) s =
      onC p (fun c => (c.dropOther r idx sub).answer r op idx sub (some a) 0 0 false) s := by
  cases p
  · exact onPart_vangeg_eq (vangegFace_lawful.write_refused hne hle h)
  · exact onPart_shopostra_eq (shopostraFace_lawful.write_refused hne hle h)

theorem execRegisterWrite_refused {v : Nat} {a : Abort} (h : s.gate p r idx sub true = some a) :
    execRegisterWrite p r idx sub v s = onC p (fun c => c.answer r .write idx sub (some a) 0 0 false) s := by
  cases p
  · refine onPart_vangeg_eq ?_
    unfold Vangeg.ruled
    rw [show s.vg.c.gate r idx sub true (s.vg.sliceAdmits r idx sub) = some a from h]
  · refine onPart_shopostra_eq ?_
    unfold Shopostra.ruled
    rw [show s.sx.c.gate r idx sub true true = some a from h]

/-- An answer after the requester's stagings of other objects are discarded. -/
theorem gives_dropOther_answer {i : Instr} {op : DictOp} {a : Option Abort} {data n : Nat} {more : Bool}
    (run : s.runs p = true) (reach : (s.com p).reaches r = true)
    (e : exec i s = onC p (fun c => (c.dropOther r idx sub).answer r op idx sub a data n more) s) :
    Gives i s (fun t => s.Near t ∧ (t.com p).answered r a data) :=
  gives_answered run e ((quiet_dropOther _ _ _ _).trans (quiet_answer _ _ _ _ _ _ _ _ _))
    (Common.answered_answer (((quiet_dropOther _ _ _ _).reaches r).trans reach) _ _ _ _ _ _ _)

theorem dictRead_refused {a : Abort} (run : s.runs p = true) (h : s.gate p r idx sub false = some a)
    (reach : (s.com p).reaches r = true) :
    Gives (.dictRead p r idx sub word) s fun t => s.Near t ∧ (t.com p).answered r (some a) 0 :=
  gives_dropOther_answer run reach (execDictRead_refused h)

theorem dictWrite_refused {data : List Nat} {a : Abort} (run : s.runs p = true) (h : s.gate p r idx sub true = some a)
    (reach : (s.com p).reaches r = true) (hne : data ≠ []) (hle : data.length ≤ 24) :
    Gives (.dictWrite p r idx sub word data) s fun t => s.Near t ∧ (t.com p).answered r (some a) 0 :=
  gives_dropOther_answer run reach (onPart_write_refused hne hle h)

theorem dictWriteFence_refused {data : List Nat} {a : Abort} (run : s.runs p = true)
    (h : s.gate p r idx sub true = some a) (reach : (s.com p).reaches r = true) (hne : data ≠ []) (hle : data.length ≤ 24) :
    Gives (.dictWriteFence p r idx sub word data) s fun t => s.Near t ∧ (t.com p).answered r (some a) 0 :=
  gives_dropOther_answer run reach (onPart_write_refused hne hle h)

theorem registerWrite_refused {v : Nat} {a : Abort} (run : s.runs p = true) (h : s.gate p r idx sub true = some a)
    (reach : (s.com p).reaches r = true) :
    Gives (.registerWrite p r idx sub v) s fun t => s.Near t ∧ (t.com p).answered r (some a) 0 :=
  gives_answered run (execRegisterWrite_refused h) (quiet_answer _ _ _ _ _ _ _ _ _)
    (Common.answered_answer reach _ _ _ _ _ _ _)

/-- Settles O50: the access decision finds an absent object first, and its refusal is the answer. -/
theorem absentObjectsAnswerNoObject : Obligations.AbsentObjectsAnswerNoObject := by
  intro s p r idx sub word data run absent reach hne hle
  exact ⟨rfl, dictRead_refused run (State.gate_absent absent false) reach,
    dictWrite_refused run (State.gate_absent absent true) reach hne hle⟩

end Sys2Proof.Machine

/-! ## Admitted accesses -/

namespace Sys2Proof.Machine

section engine

variable {kd : Part} {c d : Common kd}

theorem Quiet.cursor (h : Quiet c d) (path : Path) (idx sub : Nat) : d.cursor path idx sub = c.cursor path idx sub := by
  obtain ⟨_, _, _, _, _, e⟩ := h.ctl
  simp only [Common.cursor, e]

theorem Quiet.startAt (h : Quiet c d) (path : Path) (idx sub word offset : Nat) :
    d.startAt path idx sub word offset = c.startAt path idx sub word offset := by
  simp only [Common.startAt, h.cursor]

@[simp] theorem Common.cursor_setCursor (c : Common kd) (path : Path) (idx sub n : Nat) :
    (c.setCursor path idx sub n).cursor path idx sub = n := lookupD_putKey_same _ _ _ _

/-- The word that a reader by words gets is the same once stagings are discarded. -/
theorem Quiet.readWord (h : Quiet c d) (r : Req) (idx sub word v : Nat) (ty : ObjType) :
    (d.readWord r idx sub word v ty).2 = (c.readWord r idx sub word v ty).2 := by
  obtain ⟨_, _, _, _, _, e⟩ := h.ctl
  simp only [Common.readWord, e]
  split
  · rfl
  · split
    · split <;> rfl
    · rfl

theorem Common.reaches_readWord (c : Common kd) (r q : Req) (idx sub word v : Nat) (ty : ObjType) :
    (c.readWord r idx sub word v ty).1.reaches q = c.reaches q := by
  unfold Common.readWord
  dsimp only
  split
  · rfl
  · split
    · split <;> rfl
    · rfl

/-! ### Stagings -/

theorem Common.stagings_dropOther (c : Common kd) (r : Req) (idx sub : Nat) :
    (c.dropOther r idx sub).ctl.stagings.Sublist c.ctl.stagings := by
  unfold Common.dropOther Common.discardStagings
  dsimp only
  split
  · exact List.Sublist.refl _
  · exact List.filter_sublist

/-- The first words staged for an object open a staging of their own, within the limit of the path (R584). -/
theorem Common.stageWords_opens {r : Req} {idx sub : Nat} (words : List (Nat × Nat)) (closed : c.staged r idx sub = none)
    (room : (c.ctl.stagings.filter fun g => g.onPath r.path).length < stagingLimit r.path) :
    ∃ d, c.stageWords r idx sub words = some d ∧ Quiet c d ∧ ∃ g ∈ d.ctl.stagings, g.who = reqRequester r ∧
      g.key = key idx sub ∧ g.words = words.foldl (fun m w => putKey m w.1 w.2) [] ∧ g.last = c.now := by
  unfold Common.stageWords
  dsimp only
  rw [if_neg (by simpa [closed] using room), closed]
  exact ⟨_, rfl, quiet_fields _ _ _ _ _, _, List.mem_append_right _ (List.mem_singleton_self _), rfl, rfl, rfl, rfl⟩

/-- The same once the requester's stagings of other objects are discarded. -/
theorem Common.stageWords_dropOther {r : Req} {idx sub : Nat} (words : List (Nat × Nat)) (closed : c.staged r idx sub = none)
    (room : (c.ctl.stagings.filter fun g => g.onPath r.path).length < stagingLimit r.path) :
    ∃ d, (c.dropOther r idx sub).stageWords r idx sub words = some d ∧ Quiet c d ∧ ∃ g ∈ d.ctl.stagings,
      g.who = reqRequester r ∧ g.key = key idx sub ∧ g.words = words.foldl (fun m w => putKey m w.1 w.2) [] ∧
      g.last = c.now := by
  have sub' := c.stagings_dropOther r idx sub
  have drop := quiet_dropOther r idx sub c
  obtain ⟨d, hd, quiet, g, hg, who, key, hwords, last⟩ := Common.stageWords_opens (c := c.dropOther r idx sub) words
    (List.find?_eq_none.mpr fun g hg => List.find?_eq_none.mp closed g (sub'.subset hg))
    (Nat.lt_of_le_of_lt (sub'.filter _).length_le room)
  exact ⟨d, hd, drop.trans quiet, g, hg, who, key, hwords, last.trans drop.now⟩

/-! ### Values that are stored as they are written -/

/-- The object's form of a written value (R17, R577). -/
def objForm (o : ObjRow) (idx sub v : Nat) : Nat := storedForm o.ty (withoutReserved idx sub v)

theorem Common.applyWrite_plain {idx sub v : Nat} {o : ObjRow} (ho : findRow idx sub = some o)
    (keeps : clears idx sub = false) (rule : Common.ruleOf (kd := kd) idx sub v = none) (range : objRange idx sub v = true)
    (c : Common kd) : c.applyWrite idx sub v = (c.setReg idx sub (objForm o idx sub v), none) := by
  simp [Common.applyWrite, keeps, rule, ruleStore, range, Common.store, ho, objForm]

theorem Vangeg.applyWrite_plain {r : Req} {idx sub v : Nat} {o : ObjRow} (ho : findRow idx sub = some o)
    (plain : plainValue .vangeg r idx sub v = true) (x : Vangeg) :
    x.applyWrite r idx sub v = (x.onC (fun c => c.setReg idx sub (objForm o idx sub v)), none) := by
  simp only [plainValue, Bool.and_eq_true, Bool.not_eq_true', Option.isNone_iff_eq_none] at plain
  obtain ⟨⟨keeps, range⟩, own, common⟩ := plain
  simp [Vangeg.applyWrite, keeps, own, ruleV, Common.applyWrite_plain ho keeps common range, Vangeg.onC]

theorem Shopostra.applyWrite_plain {r : Req} {idx sub v : Nat} {o : ObjRow} (ho : findRow idx sub = some o)
    (plain : plainValue .shopostra r idx sub v = true) (x : Shopostra) :
    x.applyWrite r idx sub v = (x.onC (fun c => c.setReg idx sub (objForm o idx sub v)), none) := by
  simp only [plainValue, Bool.and_eq_true, Bool.not_eq_true', Option.isNone_iff_eq_none] at plain
  obtain ⟨⟨keeps, range⟩, own, common⟩ := plain
  simp [Shopostra.applyWrite, keeps, own, ruleX, Common.applyWrite_plain ho keeps common range, Shopostra.onC]

end engine

variable {s : State} {p : Part} {r : Req} {idx sub word v : Nat} {o : ObjRow}

theorem Except.eq_ok_of_toOption {ε β : Type} {e : Except ε β} {b : β} (h : e.toOption = some b) : e = .ok b := by
  cases e with
  | error a => cases h
  | ok b' => exact congrArg _ (Option.some.inj h)

theorem State.serves_vangeg (h : s.serves .vangeg r = true) : vangegFace.resetting r s.vg = false := by
  simp only [State.serves, Bool.and_eq_true, Bool.not_eq_true'] at h
  exact h.2

/-- What an admitted write has passed. -/
theorem State.admits_parts (h : s.admits p r idx sub v = true) :
    s.serves p r = true ∧ s.gate p r idx sub true = none ∧ (s.com p).fits idx sub v = true := by
  cases p
  · simp only [State.admits, Bool.and_eq_true, decide_eq_true_eq] at h
    obtain ⟨⟨⟨up, gate⟩, fits⟩, resetting⟩ := h
    exact ⟨Bool.and_eq_true_iff.mpr ⟨up, resetting⟩, gate, fits⟩
  · simp only [State.admits, Bool.and_eq_true, decide_eq_true_eq] at h
    obtain ⟨⟨up, gate⟩, fits⟩ := h
    exact ⟨up, gate, fits⟩

/-! ### Reads -/

theorem execDictRead_admitted (serves : s.serves p r = true) (gate : s.gate p r idx sub false = none)
    (ho : findRow idx sub = some o) (hw : word < wordsOf o.ty idx sub) (hv : s.value p r idx sub = some v) :
    execDictRead p r idx sub word s = onC p (fun c =>
      if pathKind r.path = 2 then (c.dropOther r idx sub).answer r .read idx sub none v (bytesOf o.ty idx sub) false
      else
        let q := ((s.com p).dropOther r idx sub).readWord r idx sub word v o.ty
        q.1.answer r .read idx sub none q.2 8 false) s := by
  cases p
  · exact onPart_vangeg_eq (vangegFace_lawful.read_admitted gate ho hw (State.serves_vangeg serves)
      (Except.eq_ok_of_toOption hv))
  · exact onPart_shopostra_eq (shopostraFace_lawful.read_admitted gate ho hw rfl (Except.eq_ok_of_toOption hv))

theorem dictRead_admitted (serves : s.serves p r = true) (gate : s.gate p r idx sub false = none)
    (ho : findRow idx sub = some o) (hw : word < wordsOf o.ty idx sub) (hv : s.value p r idx sub = some v)
    (reach : (s.com p).reaches r = true) :
    Gives (.dictRead p r idx sub word) s fun t => (t.com p).answered r none
      (if pathKind r.path = 2 then v else ((s.com p).readWord r idx sub word v o.ty).2) := by
  have drop := quiet_dropOther r idx sub (s.com p)
  have reach' : ((s.com p).dropOther r idx sub).reaches r = true := (drop.reaches r).trans reach
  obtain ⟨t, ht, near, -⟩ := onC_outcome (State.serves_runs serves) _
  refine ⟨t, (execDictRead_admitted serves gate ho hw hv).trans ht, (near.com p).answered ?_⟩
  rw [State.com_on]
  by_cases hk : pathKind r.path = 2
  · simp only [hk, if_true]
    exact Common.answered_answer reach' _ _ _ _ _ _ _
  · simp only [hk, if_false]
    rw [← drop.readWord r idx sub word v o.ty]
    exact Common.answered_answer ((Common.reaches_readWord _ _ _ _ _ _ _ _).trans reach') _ _ _ _ _ _ _

theorem namedCursor_windows (h : namedCursor idx sub = false) :
    vangegFace.window idx sub = none ∧ shopostraFace.window idx sub = none := by
  simp only [namedCursor, decide_eq_false_iff_not, not_or] at h
  obtain ⟨rec, hist, buf⟩ := h
  simp only [vangegFace, shopostraFace, rec, hist, buf, if_false, and_self]

theorem execDictBlockRead_admitted {count offset : Nat} {l : List Nat} (serves : s.serves p r = true)
    (gate : s.gate p r idx sub false = none) (ho : findRow idx sub = some o) (hty : o.ty = .blob)
    (hn : namedCursor idx sub = false) (hauth : idx ≠ 0x3860) (hmem : idx ≠ 0x3861)
    (hword : badWord r.path false word offset = false) (hl : s.blob p r idx sub = some l) :
    let start := ((s.com p).dropOther r idx sub).startAt r.path idx sub word offset
    let bytes := (l.drop start).take (if pathKind r.path = 2 then count else 8)
    execDictBlockRead p r idx sub word count offset s = onC p (fun c =>
      ((c.dropOther r idx sub).setCursor r.path idx sub (start + bytes.length)).answer r .blockRead idx sub none
        (fromLE bytes) bytes.length (decide (start + bytes.length < l.length))) s := by
  obtain ⟨noWindowV, noWindowX⟩ := namedCursor_windows hn
  cases p
  · exact onPart_vangeg_eq (vangegFace_lawful.blockRead_admitted gate ho hty hn hauth hmem hword
      (State.serves_vangeg serves) noWindowV (Except.eq_ok_of_toOption hl))
  · exact onPart_shopostra_eq (shopostraFace_lawful.blockRead_admitted gate ho hty hn hauth hmem hword rfl noWindowX
      (Except.eq_ok_of_toOption hl))

theorem dictBlockRead_admitted {count offset : Nat} {l : List Nat} (serves : s.serves p r = true)
    (gate : s.gate p r idx sub false = none) (ho : findRow idx sub = some o) (hty : o.ty = .blob)
    (hn : namedCursor idx sub = false) (hauth : idx ≠ 0x3860) (hmem : idx ≠ 0x3861)
    (hword : badWord r.path false word offset = false) (hl : s.blob p r idx sub = some l)
    (reach : (s.com p).reaches r = true) :
    Gives (.dictBlockRead p r idx sub word count offset) s fun t =>
      let start := (s.com p).startAt r.path idx sub word offset
      let bytes := (l.drop start).take (if pathKind r.path = 2 then count else 8)
      (t.com p).answered r none (fromLE bytes) ∧ (t.com p).cursor r.path idx sub = start + bytes.length := by
  have drop := quiet_dropOther r idx sub (s.com p)
  have effect := execDictBlockRead_admitted (count := count) serves gate ho hty hn hauth hmem hword hl
  simp only [drop.startAt] at effect
  obtain ⟨t, ht, near, -⟩ := onC_outcome (State.serves_runs serves) _
  have after := near.com p
  rw [State.com_on] at after
  refine ⟨t, effect.trans ht, after.answered (Common.answered_answer ?_ _ _ _ _ _ _ _), ?_⟩
  · exact (drop.reaches r).trans reach
  · rw [after.cursor, (quiet_answer _ _ _ _ _ _ _ _ _).cursor, Common.cursor_setCursor]

/-! ### Writes -/

theorem onPart_write_plain {op : DictOp} (admits : s.admits p r idx sub v = true) (ho : findRow idx sub = some o)
    (plain : plainValue p r idx sub v = true) (hw : wordsOf o.ty idx sub = 1) :
    onPart p (vangegFace.write r op idx sub 0 [v]) (shopostraFace.write r op idx sub 0 [v]) s =
      onC p (fun c => ((c.dropOther r idx sub).setReg idx sub (objForm o idx sub v)).answer r op idx sub none 0 0 false) s := by
  obtain ⟨serves, gate, fits⟩ := State.admits_parts admits
  rw [Common.fits, ho] at fits
  cases p
  · refine onPart_vangeg_eq ((vangegFace_lawful.write_word gate ho hw fits (State.serves_vangeg serves)).trans ?_)
    rw [show vangegFace.rule = Vangeg.applyWrite from rfl, Vangeg.applyWrite_plain ho plain]
    rfl
  · refine onPart_shopostra_eq ((shopostraFace_lawful.write_word gate ho hw fits rfl).trans ?_)
    rw [show shopostraFace.rule = Shopostra.applyWrite from rfl, Shopostra.applyWrite_plain ho plain]
    rfl

/-- A WRITE or WRITE_FENCE of a value of one word stores it. -/
theorem near_write_plain {op : DictOp} (admits : s.admits p r idx sub v = true) (ho : findRow idx sub = some o)
    (plain : plainValue p r idx sub v = true) (hw : wordsOf o.ty idx sub = 1) :
    ∃ t, onPart p (vangegFace.write r op idx sub 0 [v]) (shopostraFace.write r op idx sub 0 [v]) s = .next t ∧
      (s.on p fun c => c.setReg idx sub (objForm o idx sub v)).Near t := by
  rw [onPart_write_plain admits ho plain hw]
  exact near_onC (State.admits_runs admits)
    (((quiet_dropOther r idx sub _).setReg _ _ _).trans (quiet_answer _ _ _ _ _ _ _ _ _))

theorem registerWrite_plain (admits : s.admits p r idx sub v = true) (ho : findRow idx sub = some o)
    (plain : plainValue p r idx sub v = true) :
    Gives (.registerWrite p r idx sub v) s (s.on p fun c => c.setReg idx sub (objForm o idx sub v)).Near := by
  cases p
  · exact near_ruledV admits (by rw [Vangeg.applyWrite_plain ho plain]; exact QuietV.refl _)
  · exact near_ruledX admits (by rw [Shopostra.applyWrite_plain ho plain]; exact QuietX.refl _)

theorem registerWrite_clears (admits : s.admits p r idx sub v = true) (hc : clears idx sub = true) :
    Gives (.registerWrite p r idx sub v) s (s.on p fun c => c.setReg idx sub 0).Near := by
  cases p
  · exact near_ruledV admits (by rw [Vangeg.applyWrite, if_pos hc]; exact QuietV.refl _)
  · exact near_ruledX admits (by rw [Shopostra.applyWrite, if_pos hc]; exact QuietX.refl _)

theorem execDictWrite_timeWord {lo : Nat} {d : Common p} (serves : s.serves p r = true)
    (gate : s.gate p r idx sub true = none) (ho : findRow idx sub = some o) (hty : o.ty = .time)
    (hd : ((s.com p).dropOther r idx sub).stageWords r idx sub [(0, lo % 2 ^ 64)] = some d) :
    execDictWrite p r idx sub 0 [lo] s = onC p (fun _ => d.answer r .write idx sub none 0 0 false) s := by
  cases p
  · exact onPart_vangeg_eq (vangegFace_lawful.write_timeWord gate ho hty (State.serves_vangeg serves) hd)
  · exact onPart_shopostra_eq (shopostraFace_lawful.write_timeWord gate ho hty rfl hd)

/-- The first word of a TIME value waits in a staging. -/
theorem dictWrite_timeWord (lo : Nat) (serves : s.serves p r = true) (gate : s.gate p r idx sub true = none)
    (ho : findRow idx sub = some o) (hty : o.ty = .time) (closed : (s.com p).staged r idx sub = none)
    (room : ((s.com p).ctl.stagings.filter fun g => g.onPath r.path).length < stagingLimit r.path) :
    Gives (.dictWrite p r idx sub 0 [lo]) s fun t => s.Near t ∧
      ∃ g ∈ (t.com p).ctl.stagings, g.who = reqRequester r ∧ g.key = key idx sub ∧ g.words = [(0, lo % 2 ^ 64)] ∧
        g.last = (s.com p).now := by
  obtain ⟨d, hd, quiet, g, hg, staging⟩ := Common.stageWords_dropOther [(0, lo % 2 ^ 64)] closed room
  obtain ⟨t, ht, near, stagings⟩ := onC_outcome (State.serves_runs serves)
    (fun _ => d.answer r .write idx sub none 0 0 false)
  rw [Common.answer_stagings] at stagings
  exact ⟨t, (execDictWrite_timeWord serves gate ho hty hd).trans ht,
    (State.near_on (quiet.trans (quiet_answer _ _ _ _ _ _ _ _ _))).trans near, g, stagings ▸ hg, staging⟩

/-- Settles O40: every access is a change of the part's common units, refused ones an answer alone. -/
theorem dictionaryAccessTakesEffect : Obligations.DictionaryAccessTakesEffect := by
  refine ⟨?read, ?readRefused, ?writeRefused, ?write, ?clear, ?stage, ?blockRead⟩
  case read =>
    intro s p r idx sub word v o serves gate ho hw hv reach
    exact dictRead_admitted serves gate ho hw hv reach
  case readRefused =>
    intro s p r idx sub word a serves gate reach
    exact dictRead_refused (State.serves_runs serves) gate reach
  case writeRefused =>
    intro s p r idx sub word data a serves gate reach hne hle
    have run := State.serves_runs serves
    exact ⟨dictWrite_refused run gate reach hne hle, dictWriteFence_refused run gate reach hne hle,
      fun v => registerWrite_refused run gate reach⟩
  case write =>
    intro s p r idx sub v o admits ho plain
    exact ⟨registerWrite_plain admits ho plain, fun hw => ⟨near_write_plain admits ho plain hw,
      near_write_plain admits ho plain hw⟩⟩
  case clear =>
    intro s p r idx sub v admits hc
    exact registerWrite_clears admits hc
  case stage =>
    intro s p r idx sub lo o serves gate ho hty closed room
    exact dictWrite_timeWord lo serves gate ho hty closed room
  case blockRead =>
    intro s p r idx sub word count offset o l serves gate ho hty hn hauth hmem hword hl reach
    exact dictBlockRead_admitted serves gate ho hty hn hauth hmem hword hl reach

end Sys2Proof.Machine

/-! ## A board-cycle start with two list switches of one port (R69, R271) -/

namespace Sys2Proof.Machine

/-- Two list switches pend for port 0, the later one first: GCL_SWITCH_SUBMIT leaves no such state, and the statement about
board-cycle starts does not exclude it. -/
def twoSwitches : State := State.reset.onSx fun x => x.onC fun c =>
  { c with bud := { c.bud with gclPending := [(0, 2 * cycleT, []), (0, cycleT, [])] } }

/-- The second switch is due at the first board-cycle start; the port's first pending one is made, at its own instant. -/
theorem twoSwitches_cycle_now : twoSwitches.sx.cycle.c.now = 2 * cycleT := by decide +kernel

/-- Refutes O4: at `twoSwitches` a board-cycle start takes Tempo one board cycle too far, since the switch that is due
brings Tempo to the instant of the port's first pending switch. -/
theorem not_rolesAndAddressesTakeEffect : ¬ Obligations.RolesAndAddressesTakeEffect := by
  rintro ⟨-, -, -, -, -, -, cycle⟩
  obtain ⟨t, ht, now⟩ := cycle twoSwitches .shopostra rfl
  obtain ⟨u, hu, quiet, -, -⟩ := sx_onX (f := Shopostra.cycle) (s := twoSwitches) rfl
  cases ht.symm.trans hu
  have late : t.sx.c.now = 2 * cycleT := quiet.c.now.trans twoSwitches_cycle_now
  exact absurd (late.symm.trans now) (by decide)

end Sys2Proof.Machine

/-! ## Binding sets and the fleet map (R40, R45, R623) -/

namespace Sys2Proof.Machine

section bindings

variable {kd : Part} {c d : Common kd} {p q l : Nat}

theorem mem_of_mem_lookupD {α β : Type} [DecidableEq α] {a : β} {bs : List (α × List β)} {k : α}
    (h : a ∈ lookupD [] bs k) : ∃ b ∈ bs, b.1 = k ∧ a ∈ b.2 := by
  induction bs with
  | nil => cases h
  | cons b bs ih =>
    simp only [lookupD] at h
    split at h
    case isTrue hk => exact ⟨b, List.mem_cons_self, hk, h⟩
    case isFalse =>
      obtain ⟨e, he, hb⟩ := ih h
      exact ⟨e, List.mem_cons_of_mem _ he, hb⟩

theorem find?_putKey_same {α β : Type} [DecidableEq α] (es : List (α × β)) (k : α) (v : β) :
    (putKey es k v).find? (fun e => decide (e.1 = k)) = some (k, v) := by
  induction es with
  | nil => simp [putKey]
  | cons e es ih => by_cases h : e.1 = k <;> simp [putKey, h, ih]

/-- `d` is `c` with other binding sets, where no set has gained an address but that of the port `gain`, if any. -/
structure Rebound (gain : Option Nat) (c d : Common kd) : Prop where
  only : ∃ bs, d = { c with bindings := bs }
  within : ∀ q, gain ≠ some q → d.bindingSet q ⊆ c.bindingSet q

theorem Rebound.refl (gain : Option Nat) (c : Common kd) : Rebound gain c c := ⟨⟨_, rfl⟩, fun _ _ => List.Subset.refl _⟩

theorem Rebound.trans {gain : Option Nat} {e : Common kd} (h : Rebound gain c d) (k : Rebound gain d e) :
    Rebound gain c e := by
  obtain ⟨bs, rfl⟩ := h.only
  obtain ⟨bs', rfl⟩ := k.only
  exact ⟨⟨bs', rfl⟩, fun q hq => List.Subset.trans (k.within q hq) (h.within q hq)⟩

theorem Rebound.now {gain : Option Nat} (h : Rebound gain c d) : d.now = c.now := by
  obtain ⟨_, rfl⟩ := h.only
  rfl

theorem rebound_foldl {α : Type} {gain : Option Nat} (f : Common kd → α → Common kd)
    (hf : ∀ c a, Rebound gain c (f c a)) (as : List α) (c : Common kd) : Rebound gain c (as.foldl f c) := by
  induction as generalizing c with
  | nil => exact .refl _ c
  | cons a as ih => exact (hf c a).trans (ih (f c a))

@[simp] theorem Common.bindingSet_unbind_same (c : Common kd) (p l : Nat) :
    (c.unbind p l).bindingSet p = (c.bindingSet p).filter fun x => decide (x ≠ l) := lookupD_putKey_same _ _ _ _

theorem Common.bindingSet_unbind_other (c : Common kd) (l : Nat) (h : q ≠ p) :
    (c.unbind p l).bindingSet q = c.bindingSet q := lookupD_putKey_other _ _ _ h

theorem Common.bindingSet_bind_other (c : Common kd) (l : Nat) (h : q ≠ p) :
    (c.bind_ p l).bindingSet q = c.bindingSet q := by
  unfold Common.bind_
  split
  · rfl
  · exact lookupD_putKey_other _ _ _ h

/-- A bound address is in the set of its port, but for the address that means none. -/
theorem Common.mem_bindingSet_bind (c : Common kd) (p : Nat) (h : l ≠ 0xFFFFFFFF) : l ∈ (c.bind_ p l).bindingSet p := by
  unfold Common.bind_
  split
  case isTrue bound => exact bound.resolve_left h
  case isFalse => simp [Common.bindingSet]

theorem rebound_unbind (gain : Option Nat) (c : Common kd) (p l : Nat) : Rebound gain c (c.unbind p l) := by
  refine ⟨⟨_, rfl⟩, fun q _ => ?_⟩
  by_cases h : q = p
  · rw [h, Common.bindingSet_unbind_same]
    exact fun _ kept => (List.mem_filter.mp kept).1
  · exact c.bindingSet_unbind_other l h ▸ List.Subset.refl _

theorem rebound_unbindAll (gain : Option Nat) (c : Common kd) (p : Nat) (ls : List Nat) :
    Rebound gain c (c.unbindAll p ls) :=
  rebound_foldl _ (fun c l => rebound_unbind gain c p l) ls c

theorem rebound_bind (c : Common kd) (p l : Nat) : Rebound (some p) c (c.bind_ p l) := by
  refine ⟨?_, fun q h => c.bindingSet_bind_other l (fun e => h (congrArg some e.symm)) ▸ List.Subset.refl _⟩
  unfold Common.bind_
  split
  · exact ⟨_, rfl⟩
  · exact ⟨_, rfl⟩

theorem rebound_bindAll (c : Common kd) (p : Nat) (ls : List Nat) : Rebound (some p) c (c.bindAll p ls) := by
  unfold Common.bindAll
  split
  · exact rebound_foldl _ (fun c l => rebound_bind c p l) ls c
  · exact .refl _ c

theorem Common.mem_bindingSet_bindAll (c : Common kd) (hp : p < 48) (h : l ≠ 0xFFFFFFFF) :
    l ∈ (c.bindAll p [l]).bindingSet p := by
  unfold Common.bindAll
  rw [if_pos hp]
  exact c.mem_bindingSet_bind p h

/-- T* takes an address, and what moves with it, out of the sets of the ports it was bound to. -/
def Common.unbindMoved (c : Common kd) (moves : Nat → List Nat) (l : Nat) (old : List Nat) : Common kd :=
  old.foldl (fun a p => (a.unbindAll p (moves p)).unbind p l) c

theorem rebound_unbindMoved (gain : Option Nat) (c : Common kd) (moves : Nat → List Nat) (l : Nat) (old : List Nat) :
    Rebound gain c (c.unbindMoved moves l old) :=
  rebound_foldl _ (fun c p => (rebound_unbindAll gain c p _).trans (rebound_unbind gain _ p l)) old c

theorem Common.not_mem_bindingSet_unbindMoved (c : Common kd) (moves : Nat → List Nat) (old : List Nat)
    (hq : q ∈ old ∨ l ∉ c.bindingSet q) : l ∉ (c.unbindMoved moves l old).bindingSet q := by
  induction old generalizing c with
  | nil => exact hq.resolve_left List.not_mem_nil
  | cons p old ih =>
    refine ih _ ?_
    by_cases h : q = p
    · subst h
      exact .inr (by simp)
    · refine hq.imp (fun named => (List.mem_cons.mp named).resolve_left h) fun free bound => free ?_
      rw [Common.bindingSet_unbind_other _ _ h] at bound
      exact (rebound_unbindAll none c p (moves p)).within q nofun bound

end bindings

end Sys2Proof.Machine

/-! ## Castle (R42 to R48) -/

namespace Sys2Proof.Machine

/-! ### What T* does at a Shopostra -/

/-- The common units of a Shopostra at T*, once the binding sets say where the address is (R45). -/
def Shopostra.castleRebound (x : Shopostra) (l port : Nat) (k : Castle) : Common .shopostra :=
  let old := (x.c.bindings.filter (fun b => decide (l ∈ b.2))).map (fun b => b.1)
  (((x.c.arrive k.at_).unbindMoved (x.c.movesWith l) l old).bindAll port (old.flatMap (x.c.movesWith l))).bindAll port [l]

section

variable {x : Shopostra} {l port q : Nat} {k : Castle}

theorem Shopostra.castleRebound_now : (x.castleRebound l port k).now = max x.c.now k.at_ :=
  (((rebound_unbindMoved _ _ _ _ _).trans (rebound_bindAll _ _ _)).trans (rebound_bindAll _ _ _)).now

theorem Shopostra.mem_castleRebound (assigned : l ≠ 0xFFFFFFFF) (hp : port < 48) :
    l ∈ (x.castleRebound l port k).bindingSet port := by
  unfold Shopostra.castleRebound
  exact Common.mem_bindingSet_bindAll _ hp assigned

theorem Shopostra.not_mem_castleRebound (hq : q ≠ port) : l ∉ (x.castleRebound l port k).bindingSet q := by
  intro bound
  have other : some port ≠ some q := fun e => hq (Option.some.inj e).symm
  have unbound := ((rebound_bindAll _ _ _).trans (rebound_bindAll _ _ _)).within q other bound
  refine Common.not_mem_bindingSet_unbindMoved _ _ _ ?_ unbound
  by_cases held : l ∈ (x.c.arrive k.at_).bindingSet q
  · obtain ⟨b, hb, rfl, hl⟩ := mem_of_mem_lookupD held
    exact .inl (List.mem_map_of_mem (List.mem_filter.mpr ⟨hb, decide_eq_true hl⟩))
  · exact .inr held

variable (pending : x.fleet.castles.find? (fun k => decide (k.l = l)) = some k)

include pending

/-- Beyond the binding sets T* changes registers alone: the address of a spare, and the apex's status. -/
theorem Shopostra.castleInstant_c :
    ∃ dict, (x.castleInstant l port).c = { x.castleRebound l port k with dict := dict } := by
  unfold Shopostra.castleInstant
  rw [pending]
  dsimp only
  split <;> split <;> exact ⟨_, rfl⟩

theorem Shopostra.castleInstant_now : (x.castleInstant l port).c.now = max x.c.now k.at_ := by
  obtain ⟨dict, e⟩ := Shopostra.castleInstant_c (port := port) pending
  rw [e]
  exact Shopostra.castleRebound_now

theorem Shopostra.castleInstant_bindings : (x.castleInstant l port).c.bindings = (x.castleRebound l port k).bindings := by
  obtain ⟨dict, e⟩ := Shopostra.castleInstant_c (port := port) pending
  rw [e]

theorem Shopostra.castleInstant_notPending :
    (x.castleInstant l port).fleet.castles.find? (fun k => decide (k.l = l)) = none := by
  unfold Shopostra.castleInstant
  rw [pending]
  simp [List.find?_eq_none]

/-- The apex shows that the Castle took effect, and its map names the spare (R45). -/
theorem Shopostra.castleInstant_apex (apex : x.fleet.actingApex = true) :
    (x.castleInstant l port).c.reg 0x7011 4 = 2 ∧ ((x.castleInstant l port).holder l).map Prod.fst = some k.s := by
  unfold Shopostra.holder Shopostra.castleInstant
  rw [pending]
  simp [apex, find?_putKey_same]

end

/-! ### The CASTLED notice -/

variable {kd : Part}

theorem Quiet.onLive {c d : Common kd} (h : Quiet c d) (f : Live → Live) : Quiet (c.onLive f) (d.onLive f) :=
  ⟨h.reg, h.now, h.out, h.pin, h.tempo, h.dbg, h.ports, h.bindings, h.bist, h.strm, congrArg f h.live, h.flag, h.bud,
    h.ctl⟩

/-- Two changes of the common units that differ by bookkeeping. -/
theorem QuietX.onC_onC {x : Shopostra} {f g : Common .shopostra → Common .shopostra} (h : Quiet (f x.c) (g x.c)) :
    QuietX (x.onC f) (x.onC g) := ⟨h, rfl, rfl, rfl, rfl, rfl, rfl, rfl, rfl⟩

theorem nth_noticeBytes_kind (c : Common kd) (kind : Nat) (gambit : Bool) (code subject phys : Nat) (t : Ticks)
    (last session arg tag : Nat) : nth 0 (noticeBytes c kind gambit code subject phys t last session arg tag) 1 = kind := rfl

/-- The notice that a Castle took effect is told to the neighbours, and changes nothing at the apex. -/
theorem Shopostra.quietX_apexNotice_castled (x : Shopostra) {b : List Nat} (kind : nth 0 b 1 = 8) :
    QuietX x (x.apexNotice b) := by
  unfold Shopostra.apexNotice
  simp only [kind]
  exact QuietX.onC (f := fun c => (c.noticePorts (leAt b 4 4) true).foldl (fun a p => a.control (.port p) 0x51 (b.drop 1)) c)
    (quiet_foldl _ (fun c _ => quiet_control c _ _ _) _ _)

/-- An apex that Castles an address also forgets that its holder was declared down. -/
theorem Shopostra.quietX_castled (x : Shopostra) (l : Nat) : ∃ down : Live → Live,
    QuietX (x.onC fun c => c.onLive down) (x.castled l) := by
  unfold Shopostra.castled
  split
  · exact ⟨id, QuietX.refl x⟩
  · refine ⟨fun n => { n with down := n.down.filter (fun d => decide (d.1 ≠ l)) },
      QuietX.trans ?_ (Shopostra.quietX_apexNotice_castled _ (nth_noticeBytes_kind ..))⟩
    exact QuietX.onC_onC ((quiet_createRecord x.c _ _ _).onLive _)

/-! ### Each command's effect -/

variable {s : State} {r : Req} {l port : Nat}

theorem castleSubmit_accepted {v cls sp xp gen : Nat} (admits : s.admits .shopostra r 0x7011 3 v = true)
    (hl : s.sx.c.reg 0x7011 1 = l) (hsp : s.sx.c.reg 0x7011 2 = sp) (held : s.sx.holder l = some (xp, gen))
    (atStart : isCycleStart (s.sx.c.timeOf v) = true) (lead : s.sx.c.now + msT 4 ≤ s.sx.c.timeOf v)
    (kinds : physKind xp = 0 ↔ physKind sp = 0) (apex : s.sx.fleet.actingApex = true)
    (down : s.sx.c.live.down.any (fun d => decide (d.1 = l)) = true) (spare : s.sx.holds sp = false ∨ sp = xp)
    (hcls : cls ≤ 2) (free : s.sx.fleet.castling l sp = false) (steady : s.sx.c.nearSwitch (s.sx.c.timeOf v) = false) :
    Gives (.castleSubmit r v true cls) s
      (s.onSx fun x => (x.onFleet fun f => { f with
          map := putKey f.map l (xp, (gen + 1) % 2 ^ 32),
          castles := f.castles ++ [{ l := l, s := sp, at_ := x.c.timeOf v, acked := false }] }).onC fun c =>
        (c.setReg 0x7011 3 (storedForm .time v)).setReg 0x7011 4 1).Near := by
  have kindGood : (if physKind xp = 0 then decide (physKind sp = 0) else decide (physKind sp ≠ 0)) = true := by
    split <;> simp_all
  have spareGood : (!s.sx.holds sp || decide (sp = xp)) = true := by simpa using spare
  refine near_ruledX admits ?_
  unfold ruleCastle
  simp only [hl, hsp, held, atStart, lead, kindGood, apex, down, spareGood, hcls, free, steady, decide_true,
    Bool.not_false, Bool.and_self, Bool.not_true, Bool.false_eq_true, if_false]
  refine QuietX.onC_onC ?_
  exact quiet_message _ _ _ _

theorem Shopostra.quietX_passDown (x : Shopostra) (d : Dest) (what : String) (fields : List Nat) :
    QuietX x (x.passDown d what fields) := by
  unfold Shopostra.passDown
  split
  · exact QuietX.onC (quiet_message _ _ _ _)
  · exact QuietX.refl x

/-- The apex cancels a pending Castle, tells so, and passes the cancellation down. -/
theorem Shopostra.quietX_cancelCastle {x : Shopostra} (pending : x.fleet.castles.any (fun k => decide (k.l = l)) = true)
    (apex : x.fleet.actingApex = true) :
    QuietX ((x.onFleet fun f => { f with castles := f.castles.filter fun q => decide (q.l ≠ l) }).onC fun c =>
      c.setReg 0x7011 4 3) (x.cancelCastle l) := by
  unfold Shopostra.cancelCastle
  rw [if_pos pending, apex]
  exact Shopostra.quietX_passDown _ _ _ _

theorem castling_listed {castles : List Castle} {k : Castle}
    (pending : castles.find? (fun k => decide (k.l = l)) = some k) : castles.any (fun k => decide (k.l = l)) = true :=
  List.any_eq_true.mpr ⟨k, List.mem_of_find?_eq_some pending, List.find?_some (p := fun k : Castle => decide (k.l = l)) pending⟩

theorem castleAckDeadline_cancels {k : Castle} (runs : s.sx.runs = true)
    (pending : s.sx.fleet.castles.find? (fun k => decide (k.l = l)) = some k) (apex : s.sx.fleet.actingApex = true)
    (silent : k.acked = false) :
    Gives (.castleAckDeadline l) s
      (s.onSx fun x => (x.onFleet fun f => { f with castles := f.castles.filter fun q => decide (q.l ≠ l) }).onC fun c =>
        (c.arrive (k.at_ - msT 1)).setReg 0x7011 4 3).Near := by
  refine near_onX runs ?_
  unfold Shopostra.castleDeadline
  simp only [pending, Shopostra.onC_fleet, apex, silent, Bool.not_false, Bool.and_self, if_true]
  exact Shopostra.quietX_cancelCastle (x := s.sx.onC fun c => c.arrive (k.at_ - msT 1)) (castling_listed pending) apex

theorem castleInstant_spareDie (up : s.vg.bnd.inReset = false) (spare : s.vg.c.isSpare = true) :
    Gives (.castleInstant .vangeg l port) s (s.on .vangeg fun c => c.setReg 0x1011 0 l).Near := by
  refine near_onV (v := s.vg.onC fun c => c.setReg 0x1011 0 l) up ?_
  rw [if_pos spare]
  exact QuietV.refl _

theorem castleInstant_rebinds {k : Castle} (runs : s.sx.runs = true) (assigned : l ≠ 0xFFFFFFFF)
    (pending : s.sx.fleet.castles.find? (fun k => decide (k.l = l)) = some k) :
    Gives (.castleInstant .shopostra l port) s fun t =>
      t.sx.c.now = max s.sx.c.now k.at_ ∧ (port < 48 → l ∈ t.sx.c.bindingSet port) ∧
      (∀ q, q ≠ port → l ∉ t.sx.c.bindingSet q) ∧
      t.sx.fleet.castles.find? (fun k => decide (k.l = l)) = none ∧
      (s.sx.fleet.actingApex = true → t.sx.c.reg 0x7011 4 = 2 ∧ (t.sx.holder l).map Prod.fst = some k.s) := by
  obtain ⟨t, ht, flushed, -, -⟩ := sx_onX
    (f := fun x => if x.fleet.castles.any (fun k => decide (k.l = l)) then (x.castleInstant l port).castled l else x) runs
  rw [if_pos (castling_listed pending)] at flushed
  obtain ⟨down, castled⟩ := (s.sx.castleInstant l port).quietX_castled l
  have after := castled.trans flushed
  have bindings : t.sx.c.bindings = (s.sx.castleRebound l port k).bindings :=
    after.c.bindings.trans (Shopostra.castleInstant_bindings pending)
  have bindingSet (q : Nat) : t.sx.c.bindingSet q = (s.sx.castleRebound l port k).bindingSet q :=
    congrArg (fun m => lookupD [] m q) bindings
  refine ⟨t, ht, ?now, ?bound, ?unbound, ?done, fun apex => ?told⟩
  case now => exact after.c.now.trans (Shopostra.castleInstant_now pending)
  case bound => exact fun hp => bindingSet port ▸ Shopostra.mem_castleRebound assigned hp
  case unbound => exact fun q hq => bindingSet q ▸ Shopostra.not_mem_castleRebound hq
  case done => exact after.fleet ▸ Shopostra.castleInstant_notPending pending
  case told =>
    obtain ⟨status, spare⟩ := Shopostra.castleInstant_apex (port := port) pending apex
    refine ⟨(after.c.reg 0x7011 4 (by decide)).trans status, ?_⟩
    unfold Shopostra.holder
    rw [after.fleet]
    exact spare

theorem castleStateDelivery_spareDie {idx sub v : Nat} {entries : List (Nat × List Nat)} (up : s.vg.bnd.inReset = false)
    (spare : s.vg.c.isSpare = true) (carried : castleObject .vangeg idx sub = true) :
    Gives (.castleStateDelivery .vangeg l entries [(idx, sub, v)] none) s
      (s.on .vangeg fun c => c.setReg idx sub v).Near := by
  refine near_onV (v := s.vg.onC fun c => c.setReg idx sub v) up ?_
  have taken (c : Common .vangeg) : (c.takeObjects [(idx, sub, v)]).takeSaved none = c.setReg idx sub v := by
    simp [Common.takeObjects, Common.takeSaved, carried]
  rw [if_pos spare]
  unfold Vangeg.castleState
  simp only [taken]
  exact ⟨quiet_message _ _ _ _, rfl, rfl, rfl, ⟨_, _, rfl⟩, ⟨_, _, rfl⟩⟩

theorem castleStateDelivery_spareTray {tag : Nat} {b : List Nat} (runs : s.sx.runs = true)
    (spare : s.sx.c.isSpare = true) :
    Gives (.castleStateDelivery .shopostra l [(tag, b)] [] none) s (s.onSx fun x => x.setEntry tag (parseEntry b)).Near := by
  refine near_onX runs ?_
  rw [if_pos spare]
  exact QuietX.onC (quiet_message s.sx.c _ _ _)

/-- Settles O5: each Castle command by what its rule leaves at the part, the messages it sends being bookkeeping. -/
theorem castleTakesEffect : Obligations.CastleTakesEffect := by
  refine ⟨?submit, ?deadline, ?spareDie, ?rebinds, ?deliveryDie, ?deliveryTray⟩
  case submit =>
    intro s r v cls l sp xp gen admits hl hsp held atStart lead kinds apex down spare hcls free steady
    exact castleSubmit_accepted admits hl hsp held atStart lead kinds apex down spare hcls free steady
  case deadline =>
    intro s l k runs pending apex silent
    exact castleAckDeadline_cancels runs pending apex silent
  case spareDie =>
    intro s l port up spare
    exact castleInstant_spareDie up spare
  case rebinds =>
    intro s l port k runs assigned pending
    exact castleInstant_rebinds runs assigned pending
  case deliveryDie =>
    intro s l idx sub v entries up spare carried
    exact castleStateDelivery_spareDie up spare carried
  case deliveryTray =>
    intro s l tag b runs spare
    exact castleStateDelivery_spareTray runs spare

end Sys2Proof.Machine

/-! ## What Tempo's own changes leave, and what reads it -/

namespace Sys2Proof.Machine

variable {kd : Part} {c d : Common kd}

/-- A change of what no object shows of Tempo. -/
def Common.onTempo (c : Common kd) (f : TempoUnit → TempoUnit) : Common kd := { c with tempo := f c.tempo }

@[simp] theorem Common.onTempo_tempo (c : Common kd) (f : TempoUnit → TempoUnit) : (c.onTempo f).tempo = f c.tempo := rfl
@[simp] theorem Common.onTempo_now (c : Common kd) (f : TempoUnit → TempoUnit) : (c.onTempo f).now = c.now := rfl
@[simp] theorem Common.reg_onTempo (c : Common kd) (f : TempoUnit → TempoUnit) (i s : Nat) :
    (c.onTempo f).reg i s = c.reg i s := rfl

theorem Quiet.onTempo (h : Quiet c d) (f : TempoUnit → TempoUnit) : Quiet (c.onTempo f) (d.onTempo f) :=
  ⟨h.reg, h.now, h.out, h.pin, congrArg f h.tempo, h.dbg, h.ports, h.bindings, h.bist, h.strm, h.live, h.flag, h.bud,
    h.ctl⟩

theorem Quiet.mode (h : Quiet c d) : d.mode = c.mode := h.reg 0x1200 0 (by decide)

theorem Quiet.tempoState (h : Quiet c d) : d.tempoState = c.tempoState := h.reg 0x1209 0 (by decide)

theorem Quiet.exchange (h : Quiet c d) (lane : Nat) : d.exchange lane = c.exchange lane := by
  simp only [Common.exchange, h.tempo]

end Sys2Proof.Machine

/-! ## Ticks of the master counters (R58; log entry 8) -/

namespace Sys2Proof.Machine


theorem step_of_empty {s : State} (h : s.pending = []) : step s = .next s.tick := by
  unfold step
  rw [h]

/-- A Vangeg's counter runs once the hub PLL has locked (R131). -/
theorem Vangeg.tick_eq (v : Vangeg) : v.tick = { v with c := { v.c with now :=
    if v.bnd.inReset = false ∧ v.bnd.pllLocked = true then ((v.c.now : Int) + (v.c.reg 0x1204 0 : Int) + v.c.tempo.slew).toNat
    else v.c.now } } := by
  unfold Vangeg.tick
  cases v.bnd.inReset <;> cases v.bnd.pllLocked <;> rfl

theorem Shopostra.tick_eq (x : Shopostra) : x.tick = { x with c := { x.c with now :=
    if x.runs = true then ((x.c.now : Int) + (x.c.reg 0x1204 0 : Int) + x.c.tempo.slew).toNat else x.c.now } } := by
  unfold Shopostra.tick
  split <;> rfl

/-- Settles O44: on an empty queue each part's counter ticks if it runs. -/
theorem emptyQueueTicks : Obligations.EmptyQueueTicks := fun s h =>
  ⟨s.tick, step_of_empty h, h, s.vg.tick_eq, s.sx.tick_eq⟩

end Sys2Proof.Machine

/-! ## TIME values and stamps (R64, Tables 2-1 to 2-3) -/

namespace Sys2Proof.Machine

theorem totalNs_linear_lt (epoch t : Nat) : totalNs 0 epoch t < 2 ^ 64 := by
  unfold totalNs
  rw [if_pos rfl]
  exact Nat.mod_lt _ (by decide)

theorem totalNs_linear (epoch cls t : Nat) : totalNs 0 epoch t = bits (encodeTime 0 epoch cls t) 95 32 := by
  have ht : t % ns < 2 ^ 32 := Nat.mod_lt _ (by decide)
  have hn := totalNs_linear_lt epoch t
  unfold encodeTime bits
  rw [if_pos rfl]
  omega

theorem totalNs_calendar (epoch cls t : Nat) : totalNs 1 epoch t =
    bits (encodeTime 1 epoch cls t) 109 62 % 2 ^ 32 * 1000000000 + bits (encodeTime 1 epoch cls t) 61 32 := by
  have ht : t % ns < 2 ^ 32 := Nat.mod_lt _ (by decide)
  have hn : t / ns % 1000000000 < 1000000000 := Nat.mod_lt _ (by decide)
  have enc : encodeTime 1 epoch cls t = cls * 2 ^ 126 + 2 ^ 124 + t / ns / 1000000000 % 2 ^ 48 * 2 ^ 62 +
    t / ns % 1000000000 * 2 ^ 32 + t % ns := rfl
  have cnt : totalNs 1 epoch t = t / ns / 1000000000 % 2 ^ 32 * 1000000000 + t / ns % 1000000000 := rfl
  rw [enc, cnt, bits, bits]
  omega

theorem linearCount_wraps (n : Nat) {e : Nat} (he : e < 2 ^ 64) :
    (n + 2 ^ 32 + 2 ^ 64 - e) % 2 ^ 64 % 2 ^ 32 = (n + 2 ^ 64 - e) % 2 ^ 64 % 2 ^ 32 := by omega

theorem calendarCount_mod (n : Nat) : (n / 1000000000 % 2 ^ 32 * 1000000000 + n % 1000000000) % 2 ^ 32 = n % 2 ^ 32 := by
  omega

/-- 2^32 ns later the count has wrapped round once, in either format. -/
theorem totalNs_wraps (mode epoch t : Nat) :
    totalNs mode epoch (t + 2 ^ 32 * ns) % 2 ^ 32 = totalNs mode epoch t % 2 ^ 32 := by
  have later : (t + 2 ^ 32 * ns) / ns = t / ns + 2 ^ 32 := Nat.add_mul_div_right _ _ (by decide)
  unfold totalNs
  rw [later]
  split
  case isTrue => exact linearCount_wraps _ (Nat.mod_lt _ (by decide))
  case isFalse => rw [calendarCount_mod, calendarCount_mod, Nat.add_mod_right]

theorem Common.stampU_wraps {kd : Part} (c : Common kd) (u t : Nat) : c.stampU u (t + 2 ^ 32 * ns) = c.stampU u t := by
  have frac : (t + 2 ^ 32 * ns) % ns = t % ns := Nat.add_mul_mod_self_right _ _ _
  simp only [Common.stampU, totalNs_wraps, frac]

/-- Settles O53: the fields of a TIME value are apart, and 2^32 divides every count's modulus. -/
theorem nanosecondCounts : Obligations.NanosecondCounts := fun epoch cls t _ =>
  ⟨totalNs_linear epoch cls t, totalNs_calendar epoch cls t, fun _ c u => c.stampU_wraps u t⟩

end Sys2Proof.Machine

/-! ## Writes under a rule of the common units -/

namespace Sys2Proof.Machine

variable {s : State} {p : Part} {r : Req} {i k v : Nat} {f : Common p → Common p × Option Abort}

/-- An admitted write is its rule, and then the answer that the rule gives. -/
theorem writeBoth_admitted (h : s.admits p r i k v = true) :
    writeBoth p r i k v f s = onC p (fun c => (f c).1.answer r .write i k (f c).2 0 0 false) s := by
  cases p
  · simp only [writeBoth, onC, onV, Vangeg.ruled_admits h]
    rfl
  · simp only [writeBoth, onC, onX, Shopostra.ruled_admits h]
    rfl

/-- A write that its object's rule refuses changes nothing, and says so (R580). -/
theorem writeBoth_refused {c : Instr} {a : Abort} (e : exec c s = writeBoth p r i k v f s)
    (h : s.admits p r i k v = true) (reach : (s.com p).reaches r = true) (refuse : f (s.com p) = (s.com p, some a)) :
    Gives c s fun t => s.Near t ∧ (t.com p).answered r (some a) 0 := by
  refine gives_answered (State.admits_runs h) (e.trans (writeBoth_admitted h)) ?_ ?_
  · rw [refuse]
    exact quiet_answer _ _ _ _ _ _ _ _ _
  · rw [refuse]
    exact Common.answered_answer reach _ _ _ _ _ _ _

/-- Settles O51: the rule of TEMPO_CMP refuses such an instant and stores nothing. -/
theorem pastCompareInstantsAreRefused : Obligations.PastCompareInstantsAreRefused := by
  intro s p r n v admits reach nonzero past
  have refuse : ruleTempoCmp n v (s.com p) = (s.com p, some .value) := by
    unfold ruleTempoCmp
    rw [if_neg nonzero, if_pos past]
  obtain ⟨t, ht, near, answered⟩ := writeBoth_refused (c := .tempoCmpArm p r n v) rfl admits reach refuse
  exact ⟨t, ht, answered, near, (near.com p).reg _ _ (by decide), (near.com p).reg _ _ (by decide)⟩

end Sys2Proof.Machine

/-! ## Moves between Tempo states (R72 to R74, Table 2-6) -/

namespace Sys2Proof.Machine

variable {kd : Part} {c : Common kd}

@[simp] theorem Common.tempoState_onTempo (c : Common kd) (f : TempoUnit → TempoUnit) :
    (c.onTempo f).tempoState = c.tempoState := rfl

@[simp] theorem Common.tempoState_setReg_same (c : Common kd) (n : Nat) : (c.setReg 0x1209 0 n).tempoState = n :=
  c.reg_setReg_same _ _ _

theorem Common.tempoState_setReg_other (c : Common kd) {i : Nat} (s v : Nat) (h : i ≠ 0x1209) :
    (c.setReg i s v).tempoState = c.tempoState := c.reg_setReg_idx _ _ _ h.symm

/-- Writing an object's own value back changes nothing that reads it. -/
theorem quiet_setReg_self (c : Common kd) (i s : Nat) : Quiet (c.setReg i s (c.reg i s)) c := by
  refine ⟨fun j t _ => ?_, rfl, ⟨[], rfl⟩, fun _ _ => rfl, rfl, rfl, rfl, rfl, rfl, rfl, rfl, rfl, .refl _, .refl _⟩
  by_cases e : key j t = key i s
  · simp only [Common.reg, Common.setReg_dict, Common.kind_eq, e, storeGet_set_same]
  · exact (c.reg_setReg_other _ e).symm

/-- A move of the Tempo state shows in its object; the record that tells of it is bookkeeping. -/
theorem quiet_setTempoState (c : Common kd) (n : Nat) : Quiet (c.setReg 0x1209 0 n) (c.setTempoState n) := by
  unfold Common.setTempoState
  split
  case isTrue same => exact same ▸ quiet_setReg_self c 0x1209 0
  case isFalse =>
    refine Quiet.trans (Quiet.setReg ?_ _ _ _) (quiet_event _ _ _ _)
    split
    · exact (quiet_baseline _ _).trans (quiet_baseline _ _)
    · exact quiet_baseline _ _

/-- LOCKED after 80 board cycles within 4 ns. -/
theorem quiet_lock (acquiring : c.tempoState = 1) (near : 80 ≤ c.tempo.lowRun) :
    Quiet (((c.setReg 0x1209 0 2).setReg 0x120C 0 0).onTempo fun m => { m with everLocked := true, highRun := 0 }) c.lock := by
  unfold Common.lock
  rw [if_pos ⟨acquiring, near⟩]
  exact ((quiet_setTempoState c 2).setReg _ _ _).onTempo _

/-- ACQUIRING again after 8 board cycles above 4 ns. -/
theorem quiet_unlock (locked : c.tempoState = 2) (far : 8 ≤ c.tempo.highRun) :
    Quiet ((c.setReg 0x1209 0 1).onTempo fun m => { m with lowRun := 0 }) c.unlock := by
  unfold Common.unlock
  rw [if_pos ⟨locked, far⟩]
  exact (quiet_setTempoState c 1).onTempo _

/-- HOLDOVER abandons the slew and keeps the rate (R73). -/
theorem quiet_enterHoldover (c : Common kd) :
    Quiet (((c.setReg 0x1209 0 3).setReg 0x120B 0 0).onTempo fun m =>
      { m with slew := 0, holdoverSince := some c.now, source := none }) c.enterHoldover := by
  have moved := quiet_setTempoState c 3
  have since : (c.setTempoState 3).now = c.now := moved.now
  unfold Common.enterHoldover
  dsimp only
  rw [since]
  exact (moved.setReg _ _ _).onTempo _

/-- What a source that becomes valid makes of a part in FREERUN or HOLDOVER (R74). -/
theorem quiet_gainSource (without : c.tempoState = 0 ∨ c.tempoState = 3) :
    Quiet ((c.countHoldover.setReg 0x1209 0 1).onTempo fun m =>
      { m with lowRun := 0, highRun := 0, holdoverSince := none,
               exch := m.exch.map (fun e => (e.1, { e.2 with offsets := [] })) }) c.gainSource := by
  unfold Common.gainSource
  rw [if_pos without]
  exact (quiet_setTempoState c.countHoldover 1).onTempo _

@[simp] theorem Common.countHoldover_tempo (c : Common kd) : c.countHoldover.tempo = c.tempo := by
  unfold Common.countHoldover
  split <;> rfl

/-- Changes of the register store alone fold to one. -/
theorem Common.foldl_dict {α : Type} (f : Common kd → α → Common kd)
    (hf : ∀ c a, ∃ dict, f c a = { c with dict := dict }) (l : List α) (c : Common kd) :
    ∃ dict, l.foldl f c = { c with dict := dict } := by
  induction l generalizing c with
  | nil => exact ⟨_, rfl⟩
  | cons a l ih =>
    obtain ⟨_, ha⟩ := hf c a
    obtain ⟨dict, hl⟩ := ih (f c a)
    exact ⟨dict, by rw [List.foldl_cons, hl, ha]⟩

/-- The change of format rewrites TIME objects alone. -/
theorem Common.rewriteTimes_eq (c : Common kd) (mode : Nat) : ∃ dict, c.rewriteTimes mode = { c with dict := dict } := by
  refine Common.foldl_dict _ (fun a kv => ?_) _ c
  split
  · split
    · exact ⟨_, rfl⟩
    · exact ⟨_, rfl⟩
  · exact ⟨_, rfl⟩

/-- At S the new mode is in force, and no change is pending (R57). -/
theorem Common.switchMode_eq {S m : Nat} (pending : c.tempo.switchAt = some (S, m)) :
    ∃ dict, c.switchMode = (({ c.arrive S with dict := dict } : Common kd).setReg 0x1200 0 m).onTempo fun u =>
      { u with switchAt := none, switchedAt := some S } := by
  obtain ⟨dict, h⟩ := (c.arrive S).rewriteTimes_eq m
  refine ⟨dict, ?_⟩
  unfold Common.switchMode
  rw [pending]
  dsimp only
  rw [h]
  rfl

variable {s : State} {p : Part}

theorem tempoModeSwitch_inForce {S m : Nat} (run : s.runs p = true) (pending : (s.com p).tempo.switchAt = some (S, m)) :
    Gives (.tempoModeSwitch p) s fun t =>
      (t.com p).mode = m ∧ (t.com p).now = max (s.com p).now S ∧ (t.com p).tempo.switchAt = none ∧
      (t.com p).tempo.switchedAt = some S := by
  obtain ⟨t, ht, after⟩ := com_onC (f := Common.switchMode) run
  obtain ⟨dict, e⟩ := Common.switchMode_eq pending
  rw [e] at after
  refine ⟨t, ht, after.mode.trans ?_, after.now, ?_, ?_⟩
  · exact Common.reg_setReg_same _ _ _ _
  · rw [after.tempo]; rfl
  · rw [after.tempo]; rfl

theorem tempoCmpFire_fired {n : Nat} (run : s.runs p = true) (armed : (s.com p).reg 0x1211 n = 1) :
    Gives (.tempoCmpFire p n) s
      (s.on p fun c => (c.arrive (c.timeOf (c.reg 0x1210 n))).setReg 0x1211 n 2).Near := by
  refine near_onC run ?_
  unfold Common.fireCompare
  rw [if_pos armed]
  exact .refl _

theorem tempoLock_locks (run : s.runs p = true) (acquiring : (s.com p).tempoState = 1) (near : 80 ≤ (s.com p).tempo.lowRun) :
    Gives (.tempoLock p) s fun t =>
      (t.com p).tempoState = 2 ∧ (t.com p).reg 0x120C 0 = 0 ∧ (t.com p).tempo.everLocked = true := by
  obtain ⟨t, ht, flushed⟩ := com_onC (f := Common.lock) run
  have after := (quiet_lock acquiring near).trans flushed
  refine ⟨t, ht, after.tempoState.trans ?_, (after.reg _ _ (by decide)).trans ?_, ?_⟩
  · simp [Common.tempoState_setReg_other]
  · simp
  · simp [after.tempo]

theorem tempoUnlock_acquires (run : s.runs p = true) (locked : (s.com p).tempoState = 2) (far : 8 ≤ (s.com p).tempo.highRun) :
    Gives (.tempoUnlock p) s fun t => (t.com p).tempoState = 1 := by
  obtain ⟨t, ht, flushed⟩ := com_onC (f := Common.unlock) run
  exact ⟨t, ht, ((quiet_unlock locked far).trans flushed).tempoState.trans (by simp)⟩

theorem tempoSourceLost_holdsOver (run : s.runs p = true) (sources : (s.com p).sourceOrder ≠ [])
    (invalid : (s.com p).bestLane = none) (locked : (s.com p).tempoState = 2) :
    Gives (.tempoSourceLost p) s fun t =>
      (t.com p).tempoState = 3 ∧ (t.com p).tempo.slew = 0 ∧ (t.com p).tempo.source = none ∧
      (t.com p).reg 0x1204 0 = (s.com p).reg 0x1204 0 ∧ (t.com p).reg 0x120B 0 = 0 := by
  obtain ⟨t, ht, flushed⟩ := com_onC (f := Common.sourceLost) run
  have lost : (s.com p).sourceLost = (s.com p).enterHoldover := by
    unfold Common.sourceLost Common.loseSource
    rw [if_neg sources, invalid]
    exact if_pos (.inl locked)
  have after := (quiet_enterHoldover (s.com p)).trans (lost ▸ flushed)
  refine ⟨t, ht, after.tempoState.trans ?_, ?_, ?_, (after.reg _ _ (by decide)).trans ?_,
    (after.reg _ _ (by decide)).trans ?_⟩
  · simp [Common.tempoState_setReg_other]
  · simp [after.tempo]
  · simp [after.tempo]
  · simp [Common.reg_setReg_idx]
  · simp

theorem tempoSourceValid_acquires {lane : Nat} (run : s.runs p = true) (valid : (s.com p).laneValid lane = true)
    (listed : lane ∈ (s.com p).sourceOrder.flatten) (without : (s.com p).tempoState = 0 ∨ (s.com p).tempoState = 3)
    (unsourced : (s.com p).tempo.source = none) :
    Gives (.tempoSourceValid p lane) s fun t => (t.com p).tempoState = 1 ∧ (t.com p).tempo.source = some lane := by
  obtain ⟨t, ht, flushed⟩ := com_onC (f := Common.sourceValid lane) run
  have sources : (s.com p).sourceOrder ≠ [] := fun e => by simp [e] at listed
  have taken : (s.com p).sourceValid lane = ((s.com p).onTempo fun m => { m with source := some lane }).gainSource := by
    unfold Common.sourceValid
    rw [if_neg sources, if_pos (by simp [valid, listed]), if_pos unsourced]
    rfl
  have after := (quiet_gainSource (c := (s.com p).onTempo fun m => { m with source := some lane }) without).trans
    (taken ▸ flushed)
  refine ⟨t, ht, after.tempoState.trans (by simp), ?_⟩
  simp [after.tempo]

theorem timeSourceReturn_returns {a : List Nat} {rest : List (List Nat)} {l : Nat} (run : s.runs p = true)
    (order : (s.com p).sourceOrder = a :: rest) (valid : a.find? (fun l => (s.com p).laneValid l) = some l)
    (stayed : 8000 ≤ (s.com p).tempo.returnRun) :
    Gives (.timeSourceReturn p) s
      (s.on p fun c => { c with tempo := { c.tempo with source := some l } }).Near := by
  refine near_onC run ?_
  unfold Common.returnSource
  simp only [order, valid, stayed, if_true]
  exact .refl _

theorem tempoDisagreement_reported (run : s.runs p = true) (differ : 8 ≤ (s.com p).tempo.diffRun) :
    Gives (.tempoDisagreement p) s (s.on p fun c => { c with tempo := { c.tempo with diffRun := 0 } }).Near := by
  refine near_onC run ?_
  unfold Common.disagree
  rw [if_pos differ]
  exact quiet_event _ _ _ _

/-- Settles O2: each instant and each move of Table 2-6 by what its rule leaves, records apart. -/
theorem tempoInstantsTakeEffect : Obligations.TempoInstantsTakeEffect := by
  refine ⟨?switch, ?fire, ?lock, ?unlock, ?lost, ?valid, ?back, ?disagree⟩
  case switch =>
    intro s p S m run pending
    exact tempoModeSwitch_inForce run pending
  case fire =>
    intro s p n run armed
    exact tempoCmpFire_fired run armed
  case lock =>
    intro s p run acquiring near
    exact tempoLock_locks run acquiring near
  case unlock =>
    intro s p run locked far
    exact tempoUnlock_acquires run locked far
  case lost =>
    intro s p run sources invalid locked
    exact tempoSourceLost_holdsOver run sources invalid locked
  case valid =>
    intro s p lane run valid listed without unsourced
    exact tempoSourceValid_acquires run valid listed without unsourced
  case back =>
    intro s p a rest l run order valid stayed
    exact timeSourceReturn_returns run order valid stayed
  case disagree =>
    intro s p run differ
    exact tempoDisagreement_reported run differ

end Sys2Proof.Machine

/-! ## What choosing, losing and measuring a source may change (R58 to R62, R72 to R75) -/

namespace Sys2Proof.Machine

variable {kd : Part} {c d e : Common kd}

/-- Objects that the servo, the Tempo state and the choice of a source write. -/
def steering : List Nat := [0x1204, 0x1209, 0x120A, 0x120B, 0x120C, 0x120E, 0x1211]

/-- `u` is `m` but for the servo's slew, the runs and offsets measured, the source in use and the start of a holdover. -/
def TempoUnit.Steered (m u : TempoUnit) : Prop :=
  ∃ slew low high exch source since,
    u = { m with slew := slew, lowRun := low, highRun := high, exch := exch, source := source, holdoverSince := since }

theorem TempoUnit.Steered.refl (m : TempoUnit) : m.Steered m := ⟨_, _, _, _, _, _, rfl⟩

theorem TempoUnit.Steered.trans {m u w : TempoUnit} (h : m.Steered u) (k : u.Steered w) : m.Steered w := by
  obtain ⟨_, _, _, _, _, _, rfl⟩ := h
  obtain ⟨_, _, _, _, _, _, rfl⟩ := k
  exact ⟨_, _, _, _, _, _, rfl⟩

theorem TempoUnit.Steered.gmClass {m u : TempoUnit} (h : m.Steered u) : u.gmClass = m.gmClass := by
  obtain ⟨_, _, _, _, _, _, rfl⟩ := h; rfl

theorem TempoUnit.Steered.ptpValid {m u : TempoUnit} (h : m.Steered u) : u.ptpValid = m.ptpValid := by
  obtain ⟨_, _, _, _, _, _, rfl⟩ := h; rfl

theorem TempoUnit.Steered.synceValid {m u : TempoUnit} (h : m.Steered u) : u.synceValid = m.synceValid := by
  obtain ⟨_, _, _, _, _, _, rfl⟩ := h; rfl

theorem TempoUnit.Steered.ppsValid {m u : TempoUnit} (h : m.Steered u) : u.ppsValid = m.ppsValid := by
  obtain ⟨_, _, _, _, _, _, rfl⟩ := h; rfl

theorem TempoUnit.Steered.ppsRejects {m u : TempoUnit} (h : m.Steered u) : u.ppsRejects = m.ppsRejects := by
  obtain ⟨_, _, _, _, _, _, rfl⟩ := h; rfl

theorem TempoUnit.Steered.tod {m u : TempoUnit} (h : m.Steered u) : u.tod = m.tod := by
  obtain ⟨_, _, _, _, _, _, rfl⟩ := h; rfl

/-- `d` is `c` but for the counter, what choosing a source or steering the counter writes, and bookkeeping. -/
structure Steered (c d : Common kd) : Prop where
  reg : ∀ i s, i ∉ steering → i ∉ accounting → d.reg i s = c.reg i s
  tempo : c.tempo.Steered d.tempo

theorem Steered.refl (c : Common kd) : Steered c c := ⟨fun _ _ _ _ => rfl, .refl _⟩

theorem Steered.trans (h : Steered c d) (k : Steered d e) : Steered c e :=
  ⟨fun i s hi ha => (k.reg i s hi ha).trans (h.reg i s hi ha), h.tempo.trans k.tempo⟩

theorem Quiet.steered (h : Quiet c d) : Steered c d := ⟨fun i s _ ha => h.reg i s ha, h.tempo ▸ .refl _⟩

theorem steered_setReg (c : Common kd) {i : Nat} (s v : Nat) (h : i ∈ steering) : Steered c (c.setReg i s v) :=
  ⟨fun _ _ hj _ => c.reg_setReg_idx _ _ _ fun e => hj (e ▸ h), .refl _⟩

theorem steered_onTempo (c : Common kd) {f : TempoUnit → TempoUnit} (h : c.tempo.Steered (f c.tempo)) :
    Steered c (c.onTempo f) := ⟨fun _ _ _ _ => rfl, h⟩

theorem steered_setTempoState (c : Common kd) (n : Nat) : Steered c (c.setTempoState n) :=
  (steered_setReg c _ _ (by decide)).trans (quiet_setTempoState c n).steered

theorem steered_countHoldover (c : Common kd) : Steered c c.countHoldover := by
  unfold Common.countHoldover
  split
  · exact steered_setReg c _ _ (by decide)
  · exact .refl c

theorem steered_enterHoldover (c : Common kd) : Steered c c.enterHoldover :=
  (((steered_setReg c 0 3 (by decide)).trans (steered_setReg _ 0 0 (by decide))).trans
    (steered_onTempo _ ⟨_, _, _, _, _, _, rfl⟩)).trans (quiet_enterHoldover c).steered

theorem steered_loseSource (c : Common kd) : Steered c c.loseSource := by
  unfold Common.loseSource
  split
  · exact steered_enterHoldover c
  · split
    · exact (steered_setTempoState c 0).trans
        (steered_onTempo _ (f := fun m => { m with source := none }) ⟨_, _, _, _, _, _, rfl⟩)
    · exact .refl c

theorem steered_gainSource (c : Common kd) : Steered c c.gainSource := by
  by_cases without : c.tempoState = 0 ∨ c.tempoState = 3
  · exact (((steered_countHoldover c).trans (steered_setReg _ 0 1 (by decide))).trans
      (steered_onTempo _ ⟨_, _, _, _, _, _, rfl⟩)).trans (quiet_gainSource without).steered
  · unfold Common.gainSource
    rw [if_neg without]
    exact .refl c

theorem steered_selectApexSource (c : Common kd) (own : Bool) : Steered c (c.selectApexSource own) := by
  have shown := steered_setReg c (i := 0x120E) 0 c.apexSource (by decide)
  unfold Common.selectApexSource
  dsimp only
  split
  · split
    · split
      · exact shown
      · exact shown.trans (steered_loseSource _)
    · exact shown.trans (steered_gainSource _)
  · exact .refl c

theorem quiet_quotient (c : Common kd) (num : Int) (den : Nat) : Quiet c (c.quotient num den).1 := by
  unfold Common.quotient
  split
  · exact .refl c
  · exact quiet_drawFree c 1

theorem quiet_meanOf (c : Common kd) (l : List Int) : Quiet c (c.meanOf l).1 := by
  unfold Common.meanOf
  split
  · exact .refl c
  · exact quiet_quotient c _ _

theorem steered_foldl {α : Type} (f : Common kd → α → Common kd) (hf : ∀ c a, Steered c (f c a)) (l : List α)
    (c : Common kd) : Steered c (l.foldl f c) := by
  induction l generalizing c with
  | nil => exact .refl c
  | cons a l ih => exact (hf c a).trans (ih (f c a))

/-- A step marks the compare objects that it passes, moves the counter and forgets the offsets measured (R61, R62). -/
theorem steered_stepBy (c : Common kd) (d : Int) : Steered c (c.stepBy d) := by
  unfold Common.stepBy
  exact (steered_foldl _ (fun a _ => steered_setReg a _ _ (by decide)) _ c).trans
    ⟨fun _ _ _ _ => rfl, ⟨_, _, _, _, _, _, rfl⟩⟩

theorem steered_autoStep (c : Common kd) : Steered c c.autoStep := by
  unfold Common.autoStep
  dsimp only
  split
  · exact steered_stepBy c _
  · exact .refl c

theorem steered_servo (c : Common kd) : Steered c c.servo := by
  unfold Common.servo
  split
  · exact (((quiet_drawFree c 64).trans (quiet_drawFree _ 64)).steered.trans
      ((steered_setReg _ 0 _ (by decide)).trans (steered_setReg _ 0 _ (by decide)))).trans
        (steered_onTempo _ (f := fun m => { m with slew := _ }) ⟨_, _, _, _, _, _, rfl⟩)
  · exact .refl c

/-- A measurement against an apex source goes to the servo. -/
theorem steered_apexOffset (c : Common kd) (o : Int) : Steered c (c.apexOffset o) := by
  have listed (x : Exchange) : Steered c (c.setExchange 1000 x) := ⟨fun _ _ _ _ => rfl, ⟨_, _, _, _, _, _, rfl⟩⟩
  exact ((((listed _).trans (quiet_meanOf _ _).steered).trans (steered_setReg _ 0 _ (by decide))).trans
    (steered_autoStep _)).trans (steered_servo _)

end Sys2Proof.Machine

/-! ## Writes of the Tempo objects -/

namespace Sys2Proof.Machine

variable {kd : Part} {s : State} {p : Part} {r : Req} {n v : Nat}

theorem Common.isApexRole_of_role {c : Common .shopostra} (role : c.reg 0x1012 0 = 3) : c.isApexRole = true := by
  simp [Common.isApexRole, role]

/-- The first second boundary at least 2 s after an instant (R55). -/
theorem secondBoundary (now : Nat) :
    (now + secT 2 + secT 1 - 1) / secT 1 * secT 1 % secT 1 = 0 ∧
      now + secT 2 ≤ (now + secT 2 + secT 1 - 1) / secT 1 * secT 1 ∧
      (now + secT 2 + secT 1 - 1) / secT 1 * secT 1 < now + secT 3 := by
  refine ⟨Nat.mul_mod_left _ _, ?_⟩
  simp only [secT, ns]
  omega

/-- A rule of the common units at a Shopostra, up to bookkeeping. -/
theorem quietX_ruleX {x : Shopostra} {f : Common .shopostra → Common .shopostra × Option Abort}
    {g : Common .shopostra → Common .shopostra} (h : Quiet (g x.c) (f x.c).1) : QuietX (x.onC g) (ruleX f x).1 :=
  QuietX.onC_onC (g := fun c => (f c).1) h

theorem tempoModeWrite_scheduled (admits : s.admits .shopostra r 0x1200 0 v = true) (valid : v ≤ 1)
    (role : s.sx.c.reg 0x1012 0 = 3) (apex : s.sx.fleet.actingApex = true) (idle : s.sx.c.inSession = false) :
    Gives (.tempoModeWrite .shopostra r v) s
      (s.on .shopostra fun c => { c with tempo := { c.tempo with
        switchAt := some ((s.sx.c.now + secT 2 + secT 1 - 1) / secT 1 * secT 1, v) } }).Near := by
  refine near_ruledX admits ?_
  unfold Shopostra.ruleMode
  rw [if_neg (by simp [apex])]
  refine quietX_ruleX ?_
  unfold ruleTempoMode
  rw [if_neg (Nat.not_lt.mpr valid), if_neg (by simp [Common.isApexRole_of_role role, idle])]
  exact quiet_message _ _ _ _

theorem tempoEpochWrite_stored (admits : s.admits .shopostra r 0x1201 0 v = true)
    (role : s.sx.c.reg 0x1012 0 = 3) (apex : s.sx.fleet.actingApex = true) (idle : s.sx.c.inSession = false) :
    Gives (.tempoEpochWrite .shopostra r v) s (s.on .shopostra fun c => c.setReg 0x1201 0 v).Near := by
  refine near_ruledX admits ?_
  unfold Shopostra.ruleEpoch
  rw [if_pos apex]
  refine quietX_ruleX ?_
  unfold ruleTempoEpoch
  rw [if_neg (by simp [Common.isApexRole_of_role role, idle])]
  exact quiet_message _ _ _ _

theorem tempoIncrWrite_stored (admits : s.admits p r 0x1204 0 v = true)
    (low : (s.com p).reg 0x1205 0 * 9999 ≤ v * 10000) (high : v * 10000 ≤ (s.com p).reg 0x1205 0 * 10001)
    (manual : (s.com p).reg 0x1206 0 ≠ 0) :
    Gives (.tempoIncrWrite p r v) s (s.on p fun c => c.setReg 0x1204 0 v).Near := by
  refine near_writeBoth admits ?_
  unfold ruleTempoIncr
  dsimp only
  rw [if_neg (by omega), if_neg manual]
  exact .refl _

theorem Common.stepBy_now (c : Common kd) (d : Int) : (c.stepBy d).now = ((c.now : Int) + d * (2 ^ 24 : Nat)).toNat := rfl

theorem Common.stepBy_offsets (c : Common kd) (d : Int) {l : Nat} {e : Exchange} (h : (l, e) ∈ (c.stepBy d).tempo.exch) :
    e.offsets = [] := by
  obtain ⟨q, -, hq⟩ := List.mem_map.mp h
  cases hq
  rfl

theorem tempoStep_steps (admits : s.admits p r 0x1207 0 v = true) (idle : (s.com p).inSession = false) :
    Gives (.tempoStep p r v) s fun t =>
      (t.com p).now = (((s.com p).now : Int) + ofTwos 64 v * (2 ^ 24 : Nat)).toNat ∧
      (∀ l e, (l, e) ∈ (t.com p).tempo.exch → e.offsets = []) := by
  obtain ⟨t, ht, after⟩ := com_writeBoth (f := ruleTempoStep v) admits
  have stepped : ruleTempoStep v (s.com p) = ((s.com p).stepBy (ofTwos 64 v), none) := by
    simp [ruleTempoStep, idle]
  rw [stepped] at after
  exact ⟨t, ht, after.now.trans (Common.stepBy_now _ _), fun l e h => Common.stepBy_offsets _ _ (after.tempo ▸ h)⟩

theorem tempoCmpArm_arms (admits : s.admits p r 0x1210 n v = true) (nonzero : v ≠ 0)
    (future : (s.com p).now < (s.com p).timeOf v) :
    Gives (.tempoCmpArm p r n v) s
      (s.on p fun c => (c.setReg 0x1210 n (storedForm .time v)).setReg 0x1211 n 1).Near := by
  refine near_writeBoth admits ?_
  unfold ruleTempoCmp
  rw [if_neg nonzero, if_neg (Nat.not_le.mpr future)]
  exact .refl _

theorem tempoCmpArm_disarms (admits : s.admits p r 0x1210 n 0 = true) :
    Gives (.tempoCmpArm p r n 0) s (s.on p fun c => (c.setReg 0x1210 n 0).setReg 0x1211 n 0).Near := by
  refine near_writeBoth admits ?_
  unfold ruleTempoCmp
  rw [if_pos rfl]
  exact .refl _

theorem tempoSourceSelWrite_stored (admits : s.admits .shopostra r 0x120D 0 v = true) (valid : v ≤ 3)
    (role : s.sx.c.reg 0x1012 0 = 3) :
    Gives (.tempoSourceSelWrite r v) s fun t => t.sx.c.reg 0x120D 0 = v := by
  obtain ⟨t, ht, after, -, -⟩ := sx_ruled (rule := ruleX (ruleSourceSel v)) admits
  have chosen : (ruleX (ruleSourceSel v) s.sx).1.c = (s.sx.c.setReg 0x120D 0 v).selectApexSource true := by
    unfold ruleX ruleSourceSel
    rw [if_neg (Nat.not_lt.mpr valid), Common.isApexRole_of_role role]
    rfl
  have steered : Steered (s.sx.c.setReg 0x120D 0 v) t.sx.c :=
    (steered_selectApexSource _ true).trans (chosen ▸ after.c).steered
  exact ⟨t, ht, (steered.reg _ _ (by decide) (by decide)).trans (Common.reg_setReg_same _ _ _ _)⟩

theorem tempoTodWrite_taken (admits : s.admits .shopostra r 0x120F 0 v = true) (role : s.sx.c.reg 0x1012 0 = 3) :
    Gives (.tempoTodWrite r v) s
      (s.on .shopostra fun c => { c with tempo := { c.tempo with tod := some (c.timeOf v / secT 1) } }).Near := by
  refine near_ruledX admits (quietX_ruleX ?_)
  unfold ruleTod
  rw [Common.isApexRole_of_role role]
  exact .refl _

/-- The row of TEMPO_LINK_ASYM: an I32 for each link. -/
theorem findRow_linkAsym (first : 1 ≤ n) (last : n ≤ 48) : ∃ o, findRow 0x1221 n = some o ∧ o.ty = .i32 := by
  have rows : ∀ n, n < 49 → 1 ≤ n → (findRow 0x1221 n).map ObjRow.ty = some .i32 := by decide
  exact Option.map_eq_some_iff.mp (rows n (Nat.lt_succ_of_le last) first)

theorem linkAsymWrite_stored (admits : s.admits p r 0x1221 n v = true) (first : 1 ≤ n) (last : n ≤ 48) :
    Gives (.linkAsymWrite p r n v) s (s.on p fun c => c.setReg 0x1221 n (v % 2 ^ 32)).Near := by
  obtain ⟨o, ho, ty⟩ := findRow_linkAsym first last
  refine near_writeBoth admits ?_
  unfold ruleLinkAsym Common.store
  rw [ho]
  simp only [ty]
  exact .refl _

/-- Settles O1: each write is its object's rule, whose guards the hypotheses meet; messages and answers are bookkeeping. -/
theorem tempoWritesTakeEffect : Obligations.TempoWritesTakeEffect := by
  refine ⟨?mode, ?epoch, ?incr, ?step, ?arm, ?disarm, ?sourceSel, ?tod, ?linkAsym⟩
  case mode =>
    intro s r v admits valid role apex idle
    obtain ⟨boundary, late, soon⟩ := secondBoundary s.sx.c.now
    exact ⟨_, boundary, late, soon, tempoModeWrite_scheduled admits valid role apex idle⟩
  case epoch =>
    intro s r v admits role apex idle
    exact tempoEpochWrite_stored admits role apex idle
  case incr =>
    intro s p r v admits low high manual
    exact tempoIncrWrite_stored admits low high manual
  case step =>
    intro s p r v admits idle
    exact tempoStep_steps admits idle
  case arm =>
    intro s p r n v admits nonzero future
    exact tempoCmpArm_arms admits nonzero future
  case disarm =>
    intro s p r n admits
    exact tempoCmpArm_disarms admits
  case sourceSel =>
    intro s r v admits valid role
    exact tempoSourceSelWrite_stored admits valid role
  case tod =>
    intro s r v admits role
    exact tempoTodWrite_taken admits role
  case linkAsym =>
    intro s p r n v admits first last
    exact linkAsymWrite_stored admits first last

end Sys2Proof.Machine

/-! ## Clock sources at an apex (R76 to R80) -/

namespace Sys2Proof.Machine

variable {s : State} {x : Shopostra} {port : Nat}

/-- What is left of a command at a Shopostra that steers: `c`, but for what choosing a source and steering write. -/
theorem sx_steered {f : Shopostra → Shopostra} {c : Common .shopostra} (run : s.sx.runs = true)
    (h : Steered c (f s.sx).c) : ∃ t, onX f s = .next t ∧ Steered c t.sx.c := by
  obtain ⟨t, ht, after, -, -⟩ := sx_onX (f := f) run
  exact ⟨t, ht, h.trans after.c.steered⟩

/-- An announce of the domain on a slave port (R76). -/
theorem Shopostra.steered_announce {cls : Nat} {utc : Int} (slave : x.c.reg 0x1231 (port + 1) = 1 ∨ x.c.reg 0x1231 (port + 1) = 3) :
    Steered ((x.c.onTempo fun m => { m with gmClass := cls, ptpValid := true }).setRegI 16 0x1233 0 utc)
      (x.ptpRx port (.announce (x.c.reg 0x1230 0) cls utc)).c := by
  unfold Shopostra.ptpRx
  dsimp only
  rw [if_neg (by simp [slave])]
  exact steered_selectApexSource _ _

/-- A sync of the domain on a slave port (R76). -/
theorem Shopostra.steered_sync {o : Int} {sec : Nat} (slave : x.c.reg 0x1231 (port + 1) = 1 ∨ x.c.reg 0x1231 (port + 1) = 3) :
    Steered (x.c.onTempo fun m => { m with ptpValid := true, tod := some sec })
      (x.ptpRx port (.sync (x.c.reg 0x1230 0) o sec)).c := by
  unfold Shopostra.ptpRx
  dsimp only
  rw [if_neg (by simp [slave]), Shopostra.onC_c]
  split
  · exact (steered_selectApexSource _ _).trans (steered_apexOffset _ o)
  · exact steered_selectApexSource _ _

theorem ptpUnsupported_counted (run : s.sx.runs = true) :
    Gives (.ptpMessageRx port .unsupported) s (s.on .shopostra fun c => c.bump 0x1237 0).Near :=
  near_onX run (QuietX.refl _)

theorem ptpAnnounce_taken {cls : Nat} {utc : Int} (run : s.sx.runs = true)
    (slave : s.sx.c.reg 0x1231 (port + 1) = 1 ∨ s.sx.c.reg 0x1231 (port + 1) = 3) :
    Gives (.ptpMessageRx port (.announce (s.sx.c.reg 0x1230 0) cls utc)) s fun t =>
      t.sx.c.tempo.gmClass = cls ∧ t.sx.c.tempo.ptpValid = true ∧ t.sx.c.reg 0x1233 0 = toTwos 16 utc := by
  obtain ⟨t, ht, after⟩ := sx_steered run (Shopostra.steered_announce (cls := cls) (utc := utc) slave)
  exact ⟨t, ht, after.tempo.gmClass, after.tempo.ptpValid,
    (after.reg _ _ (by decide) (by decide)).trans (Common.reg_setReg_same _ _ _ _)⟩

theorem ptpSync_taken {o : Int} {sec : Nat} (run : s.sx.runs = true)
    (slave : s.sx.c.reg 0x1231 (port + 1) = 1 ∨ s.sx.c.reg 0x1231 (port + 1) = 3) :
    Gives (.ptpMessageRx port (.sync (s.sx.c.reg 0x1230 0) o sec)) s fun t =>
      t.sx.c.tempo.ptpValid = true ∧ t.sx.c.tempo.tod = some sec := by
  obtain ⟨t, ht, after⟩ := sx_steered run (Shopostra.steered_sync (o := o) (sec := sec) slave)
  exact ⟨t, ht, after.tempo.ptpValid, after.tempo.tod⟩

theorem ptpLost_invalid (run : s.sx.runs = true) :
    Gives (.ptpMessageRx port .lost) s fun t => t.sx.c.tempo.ptpValid = false := by
  obtain ⟨t, ht, after⟩ := sx_steered (f := Shopostra.ptpRx port .lost) run (steered_selectApexSource _ _)
  exact ⟨t, ht, after.tempo.ptpValid⟩

/-- A command at a Shopostra that sends one message, besides bookkeeping. -/
theorem sx_sends {f : Shopostra → Shopostra} {c : Common .shopostra} {m : Msg} (run : s.sx.runs = true)
    (quiet : Quiet s.sx.c c) (sends : f s.sx = s.sx.onC fun _ => c.send m) :
    ∃ t, onX f s = .next t ∧ s.Near t ∧ m ∈ t.sx.c.out := by
  obtain ⟨t, ht, after, vg, pending⟩ := sx_onX (f := f) run
  rw [sends] at after
  exact ⟨t, ht, ⟨vg ▸ QuietV.refl _, (QuietX.onC (quiet.trans (quiet_send _ _))).trans after, pending⟩,
    after.c.sent List.mem_cons_self⟩

theorem ptpDelayReq_answered {seq : Nat} (run : s.sx.runs = true)
    (master : s.sx.c.reg 0x1231 (port + 1) = 2 ∨ s.sx.c.reg 0x1231 (port + 1) = 3) :
    Gives (.ptpMessageRx port (.delayReq (s.sx.c.reg 0x1230 0) seq)) s fun t =>
      s.Near t ∧ .ptp port 9 [s.sx.c.reg 0x1230 0, seq, s.sx.c.now / ns] ∈ t.sx.c.out := by
  refine sx_sends run (.refl _) ?_
  unfold Shopostra.ptpRx
  dsimp only
  rw [if_pos (by simp [master])]
  rfl

/-- The clockClass that a master port announces: drawn where the part is LOCKED below the apex, else that of R77. -/
def Common.announcedClass (c : Common .shopostra) : Common .shopostra × Nat :=
  if c.tempoState = 2 ∧ !c.isApexRole then c.drawFree 8 else (c, c.clockClass)

theorem quiet_announcedClass (c : Common .shopostra) : Quiet c c.announcedClass.1 := by
  unfold Common.announcedClass
  split
  · exact quiet_drawFree c 8
  · exact .refl c

theorem Common.announcedClass_known {c : Common .shopostra} (known : c.tempoState ≠ 2 ∨ c.reg 0x1012 0 = 3) :
    c.announcedClass.2 = c.clockClass := by
  unfold Common.announcedClass
  rw [if_neg]
  rintro ⟨locked, below⟩
  rw [Common.isApexRole_of_role (known.resolve_left (· locked))] at below
  cases below

theorem ptpMessageTx_sent {kind : Nat} (run : s.sx.runs = true)
    (master : s.sx.c.reg 0x1231 (port + 1) = 2 ∨ s.sx.c.reg 0x1231 (port + 1) = 3) :
    Gives (.ptpMessageTx port kind) s fun t => s.Near t ∧ ∃ k,
      (s.sx.c.tempoState ≠ 2 ∨ s.sx.c.reg 0x1012 0 = 3 → k = s.sx.c.clockClass) ∧
      .ptp port kind [s.sx.c.reg 0x1230 0, k, s.sx.c.now / secT 1, s.sx.c.now / ns % 1000000000,
        s.sx.c.reg 0x1232 0] ∈ t.sx.c.out := by
  obtain ⟨t, ht, near, sent⟩ := sx_sends run (quiet_announcedClass s.sx.c) (if_pos master)
  exact ⟨t, ht, near, _, Common.announcedClass_known, sent⟩

theorem esmcRx_judged {ql : Nat} (run : s.sx.runs = true) :
    Gives (.esmcRx ql) s fun t =>
      t.sx.c.tempo.synceValid = decide (ql ≤ s.sx.c.tempo.minQl) ∧ t.sx.c.reg 0x1234 0 = ql % 16 := by
  obtain ⟨t, ht, after⟩ : ∃ t, execEsmcRx ql s = .next t ∧ Steered ((s.sx.c.onTempo fun m =>
      { m with synceValid := decide (ql ≤ m.minQl) }).setReg 0x1234 0 (ql % 16)) t.sx.c :=
    sx_steered run (steered_selectApexSource _ _)
  exact ⟨t, ht, after.tempo.synceValid,
    (after.reg _ _ (by decide) (by decide)).trans (Common.reg_setReg_same _ _ _ _)⟩

/-! ### 1PPS edges -/

/-- The multiple nearest to a number less than half a step above one. -/
theorem nearestMultiple {n r : Nat} (k : Nat) (h : r < n / 2) : (k * n + r + n / 2) / n * n = k * n := by
  have rest : r + n / 2 < n := by omega
  rw [Nat.add_assoc, Nat.mul_comm k, Nat.mul_add_div (by omega), Nat.div_eq_of_lt rest, Nat.add_zero, Nat.mul_comm]

/-- An edge while not LOCKED, or at the second itself, makes the source valid (R80). -/
theorem Shopostra.steered_ppsEdge_taken {t0 : Nat}
    (good : x.c.tempoState ≠ 2 ∨ (x.c.now ≤ t0 ∧ t0 % secT 1 = 0)) : ∃ tod,
    Steered ((x.c.arrive t0).onTempo fun m => { m with ppsValid := true, ppsRejects := 0, tod := tod })
      (x.ppsEdge t0).c := by
  have taken : ¬((x.c.arrive t0).tempoState = 2 ∧ nsT 100 < (((x.c.arrive t0).now : Int) -
      (((x.c.arrive t0).now + secT 1 / 2) / secT 1 * secT 1 : Nat)).natAbs) := by
    rintro ⟨locked, away⟩
    obtain ⟨reached, second⟩ := good.resolve_left (· locked)
    have whole : t0 / secT 1 * secT 1 = t0 := Nat.div_mul_cancel (Nat.dvd_of_mod_eq_zero second)
    have near := nearestMultiple (n := secT 1) (r := 0) (t0 / secT 1) (by decide)
    rw [Nat.add_zero, whole] at near
    rw [Common.arrive_now, Nat.max_eq_right reached, near, Int.sub_self] at away
    exact Nat.not_lt_zero _ away
  unfold Shopostra.ppsEdge
  dsimp only [Shopostra.onC_c]
  rw [if_neg taken]
  split
  · exact ⟨_, (steered_selectApexSource _ _).trans (steered_apexOffset _ _)⟩
  · exact ⟨_, steered_selectApexSource _ _⟩

/-- The first edge 200 ns after a second of a LOCKED part is counted as rejected (R80). -/
theorem Shopostra.ppsEdge_rejected {k : Nat} (locked : x.c.tempoState = 2) (first : x.c.tempo.ppsRejects = 0)
    (future : x.c.now ≤ k * secT 1 + nsT 200) :
    (x.ppsEdge (k * secT 1 + nsT 200)).c =
      ((x.c.arrive (k * secT 1 + nsT 200)).bump 0x1238 0).onTempo fun m =>
        { m with ppsRejects := 1, tod := m.tod.map (· + 1) } := by
  have near := nearestMultiple (n := secT 1) (r := nsT 200) k (by decide)
  have away : (((k * secT 1 + nsT 200 : Nat) : Int) - (k * secT 1 : Nat)).natAbs = nsT 200 := by
    generalize k * secT 1 = second, nsT 200 = late
    rw [Int.natCast_add, Int.add_comm, Int.add_sub_cancel, Int.natAbs_natCast]
  unfold Shopostra.ppsEdge
  simp only [Shopostra.onC_c, Common.arrive_now, Nat.max_eq_right future, near, away]
  rw [if_pos ⟨locked, by decide⟩]
  simp only [Common.arrive_tempo, first]
  rfl

theorem ppsEdge_valid {t0 : Nat} (run : s.sx.runs = true)
    (good : s.sx.c.tempoState ≠ 2 ∨ (s.sx.c.now ≤ t0 ∧ t0 % secT 1 = 0)) :
    Gives (.ppsEdge t0) s fun t => t.sx.c.tempo.ppsValid = true ∧ t.sx.c.tempo.ppsRejects = 0 := by
  obtain ⟨tod, taken⟩ := Shopostra.steered_ppsEdge_taken good
  obtain ⟨t, ht, after⟩ := sx_steered run taken
  exact ⟨t, ht, after.tempo.ppsValid, after.tempo.ppsRejects⟩

theorem ppsEdge_counted {k : Nat} (run : s.sx.runs = true) (locked : s.sx.c.tempoState = 2)
    (first : s.sx.c.tempo.ppsRejects = 0) (future : s.sx.c.now ≤ k * secT 1 + nsT 200) :
    Gives (.ppsEdge (k * secT 1 + nsT 200)) s fun t =>
      t.sx.c.tempo.ppsRejects = 1 ∧ t.sx.c.reg 0x1238 0 = (s.sx.c.bump 0x1238 0).reg 0x1238 0 := by
  obtain ⟨t, ht, after, -, -⟩ := sx_onX (f := Shopostra.ppsEdge (k * secT 1 + nsT 200)) run
  have quiet := after.c
  rw [Shopostra.ppsEdge_rejected locked first future] at quiet
  exact ⟨t, ht, congrArg TempoUnit.ppsRejects quiet.tempo, quiet.reg _ _ (by decide)⟩

end Sys2Proof.Machine

/-! ## The exchange of TIME frames (R82, R85, Table 2-9) -/

namespace Sys2Proof.Machine

variable {kd : Part} {c : Common kd} {lane kind seq : Nat}

@[simp] theorem Common.exchange_setExchange (c : Common kd) (lane : Nat) (e : Exchange) :
    (c.setExchange lane e).exchange lane = e := lookupD_putKey_same _ _ _ _

/-- A capture leaves Tempo and, but for the count of incomplete captures, the registers that no report changes. -/
theorem Common.capture_keeps (c : Common kd) (p l : Nat) (f : Frame) :
    (c.capture p l f).now = c.now ∧ (c.capture p l f).tempo = c.tempo ∧
      ∀ i s, i ≠ 0x3405 → i ∉ accounting → (c.capture p l f).reg i s = c.reg i s := by
  unfold Common.capture
  split
  case isTrue => exact ⟨rfl, rfl, fun _ _ _ _ => rfl⟩
  case isFalse =>
    unfold Common.onCapture
    dsimp only
    split
    case isTrue =>
      have told (d : Common kd) := quiet_reportCode (d.bump 0x3405 5) 1 0x0E02 p
      exact ⟨(told _).now, (told _).tempo, fun i s hi ha => ((told _).reg i s ha).trans (Common.reg_setReg_idx _ _ _ _ hi)⟩
    case isFalse => exact ⟨rfl, rfl, fun _ _ _ _ => rfl⟩

@[simp] theorem Common.timeArrives_now (c : Common kd) (lane : Nat) : (c.timeArrives lane).now = c.now :=
  (Common.capture_keeps _ _ _ _).1

@[simp] theorem Common.timeArrives_exchange (c : Common kd) (lane l : Nat) :
    (c.timeArrives lane).exchange l = c.exchange l :=
  congrArg (fun m : TempoUnit => lookupD exchangeReset m.exch l) (Common.capture_keeps _ _ _ _).2.1

theorem Common.timeArrives_reg (c : Common kd) (lane : Nat) {i : Nat} (s : Nat) (hi : i ≠ 0x3405) (ha : i ∉ accounting) :
    (c.timeArrives lane).reg i s = c.reg i s := (Common.capture_keeps _ _ _ _).2.2 i s hi ha

@[simp] theorem Common.timeArrives_mode (c : Common kd) (lane : Nat) : (c.timeArrives lane).mode = c.mode :=
  c.timeArrives_reg lane 0 (by decide) (by decide)

@[simp] theorem Common.timeArrives_extend (c : Common kd) (lane a : Nat) : (c.timeArrives lane).extend a = c.extend a := by
  have epoch : (c.timeArrives lane).epoch = c.epoch := c.timeArrives_reg lane 0 (by decide) (by decide)
  simp only [Common.extend, epoch, Common.timeArrives_mode, Common.timeArrives_now]

/-- A DOWN frame leaves on a lane of a port that has trained. -/
theorem Common.sendDown_trained (trained : 3 ≤ c.portState (c.lanePort lane)) (up : c.portState (c.lanePort lane) ≤ 5) :
    c.sendDown lane = ((c.setExchange lane { c.exchange lane with
        seq := ((c.exchange lane).seq + 1) % 65536, t1 := c.now, answered := false }).countTime (c.lanePort lane)
          (c.laneIn lane) true).send
      (.time (.lane (c.lanePort lane) (c.laneIn lane)) (c.timeFields 0 (((c.exchange lane).seq + 1) % 65536)
        (c.stampU c.portU c.now) (if (c.exchange lane).answered then c.stampU c.portU (c.exchange lane).t4 else 0))) := by
  unfold Common.sendDown
  exact if_neg (by omega)

/-- A frame in the part's own format gives no MODE error. -/
theorem Common.modeError_none (c : Common kd) (lane : Nat) : c.modeError lane c.mode = none := if_pos rfl

/-- A DOWN frame on a lane with no exchange open opens one, answered after the dwell. -/
theorem Common.receiveDown_opens {mode state hops a b dwell : Nat} (valid : kind ≤ 1) (own : c.mode = mode)
    (closed : (c.exchange lane).open_ = none) :
    (c.receiveDown lane kind mode state hops seq a b dwell).now = c.now + dwell * 2 ^ 24 ∧
    (c.receiveDown lane kind mode state hops seq a b dwell).exchange lane = { c.exchange lane with
      senderLocked := decide (state / 4 % 4 = 2), modeErrors := 0,
      open_ := some (seq, c.extend a, c.now, c.now + dwell * 2 ^ 24) } := by
  subst own
  unfold Common.receiveDown
  rw [if_neg (Nat.not_lt.mpr valid), Common.modeError_none]
  dsimp only
  rw [closed]
  simp only [Common.exchange_setExchange]
  exact ⟨rfl, lookupD_putKey_same _ _ _ _⟩

/-- The UP frame that answers the outstanding DOWN frame closes the exchange. -/
theorem Common.receiveUp_closes {mode : Nat} (valid : kind ≤ 1) (own : c.mode = mode)
    (waiting : (c.exchange lane).answered = false) (answers : (c.exchange lane).seq = seq) :
    c.receiveUp lane kind mode seq = c.setExchange lane { c.exchange lane with
      t4 := c.now, answered := true, trained := (c.exchange lane).trained + 1, lastDone := some c.now } := by
  subst own answers
  unfold Common.receiveUp
  rw [if_neg (Nat.not_lt.mpr valid), Common.modeError_none]
  simp [waiting]

variable {s : State} {p : Part}

theorem timeDownSend_opens (run : s.runs p = true) (trained : 3 ≤ (s.com p).portState ((s.com p).lanePort lane))
    (up : (s.com p).portState ((s.com p).lanePort lane) ≤ 5) :
    Gives (.timeDownSend p lane) s fun t =>
      let seq := (((s.com p).exchange lane).seq + 1) % 65536
      let c := s.com p
      let e := (t.com p).exchange lane
      e.seq = seq ∧ e.t1 = c.now ∧ e.answered = false ∧
      .time (.lane (c.lanePort lane) (c.laneIn lane)) (c.timeFields 0 seq (c.stampU c.portU c.now)
        (if (c.exchange lane).answered then c.stampU c.portU (c.exchange lane).t4 else 0)) ∈ (t.com p).out := by
  obtain ⟨t, ht, after⟩ := com_onC (f := fun c => c.sendDown lane) run
  rw [Common.sendDown_trained trained up] at after
  have exchange := (after.exchange lane).trans (lookupD_putKey_same _ _ _ _)
  exact ⟨t, ht, congrArg Exchange.seq exchange, congrArg Exchange.t1 exchange, congrArg Exchange.answered exchange,
    after.sent List.mem_cons_self⟩

theorem timeDownRx_opens {state hops a b dwell : Nat} (run : s.runs p = true) (valid : kind ≤ 1)
    (closed : ((s.com p).exchange lane).open_ = none) :
    Gives (.timeDownRx p lane kind (s.com p).mode state hops seq a b dwell) s fun t =>
      let c := s.com p
      let e := (t.com p).exchange lane
      (t.com p).now = c.now + dwell * 2 ^ 24 ∧ e.open_ = some (seq, c.extend a, c.now, c.now + dwell * 2 ^ 24) ∧
      e.senderLocked = decide (state / 4 % 4 = 2) ∧ e.modeErrors = 0 := by
  obtain ⟨t, ht, after⟩ := com_onC
    (f := fun c => (c.timeArrives lane).receiveDown lane kind (s.com p).mode state hops seq a b dwell) run
  obtain ⟨now, exchange⟩ := Common.receiveDown_opens (c := (s.com p).timeArrives lane) (lane := lane) (seq := seq)
    (state := state) (hops := hops) (a := a) (b := b) (dwell := dwell) valid (Common.timeArrives_mode _ _)
    (by simpa using closed)
  simp only [Common.timeArrives_now, Common.timeArrives_exchange, Common.timeArrives_extend] at now exchange
  have opened := (after.exchange lane).trans exchange
  exact ⟨t, ht, after.now.trans now, congrArg Exchange.open_ opened, congrArg Exchange.senderLocked opened,
    congrArg Exchange.modeErrors opened⟩

theorem timeUpRx_closes (run : s.runs p = true) (valid : kind ≤ 1) (waiting : ((s.com p).exchange lane).answered = false)
    (answers : ((s.com p).exchange lane).seq = seq) :
    Gives (.timeUpRx p lane kind (s.com p).mode seq) s fun t =>
      let e := (t.com p).exchange lane
      e.t4 = (s.com p).now ∧ e.answered = true ∧ e.lastDone = some (s.com p).now := by
  obtain ⟨t, ht, after⟩ := com_onC (f := fun c => (c.timeArrives lane).receiveUp lane kind (s.com p).mode seq) run
  rw [Common.receiveUp_closes (c := (s.com p).timeArrives lane) valid (Common.timeArrives_mode _ _) (by simpa using waiting)
    (by simpa using answers)] at after
  have closed := (after.exchange lane).trans (Common.exchange_setExchange _ _ _)
  rw [Common.timeArrives_now] at closed
  exact ⟨t, ht, congrArg Exchange.t4 closed, congrArg Exchange.answered closed, congrArg Exchange.lastDone closed⟩

/-- Settles O3: each message, edge and frame by what its rule leaves; choosing a source afterwards keeps what it took. -/
theorem clockSourcesAndTimeFramesTakeEffect : Obligations.ClockSourcesAndTimeFramesTakeEffect := by
  refine ⟨?unsupported, ?announce, ?sync, ?delayReq, ?lost, ?transmit, ?esmc, ?edge, ?rejected, ?downSend, ?downRx, ?upRx⟩
  case unsupported =>
    intro s port run
    exact ptpUnsupported_counted run
  case announce =>
    intro s port cls utc run slave
    exact ptpAnnounce_taken run slave
  case sync =>
    intro s port sec o run slave
    exact ptpSync_taken run slave
  case delayReq =>
    intro s port seq run master
    exact ptpDelayReq_answered run master
  case lost =>
    intro s port run
    exact ptpLost_invalid run
  case transmit =>
    intro s port kind run master
    exact ptpMessageTx_sent run master
  case esmc =>
    intro s ql run
    exact esmcRx_judged run
  case edge =>
    intro s t0 run good
    exact ppsEdge_valid run good
  case rejected =>
    intro s k run locked first future
    exact ppsEdge_counted run locked first future
  case downSend =>
    intro s p lane run trained up
    exact timeDownSend_opens run trained up
  case downRx =>
    intro s p lane kind state hops seq a b dwell run valid closed
    exact timeDownRx_opens run valid closed
  case upRx =>
    intro s p lane kind seq run valid waiting answers
    exact timeUpRx_closes run valid waiting answers

end Sys2Proof.Machine

/-! ## What becomes of a DATA message of a die (R259 to R261, R284) -/

namespace Sys2Proof.Machine

variable {c : Common .vangeg} {u : WorkUnit} {m : Msg} {v w : Vangeg}

/-- A loss of a class shows in its count; the baseline counters are another object's. -/
theorem Common.losses_countLoss (c : Common .vangeg) (cls s : Nat) :
    (c.countLoss cls).reg 0x1405 s = (c.bump 0x1405 (cls + 1)).reg 0x1405 s := Common.reg_setReg_idx _ _ _ _ (by decide)

theorem Common.mem_out_foldl_send (l : List Msg) (c : Common .vangeg) (h : m ∈ l ∨ m ∈ c.out) :
    m ∈ (l.foldl (fun a m => a.send m) c).out := by
  induction l generalizing c with
  | nil => exact h.resolve_left List.not_mem_nil
  | cons a l ih =>
    refine ih _ ?_
    obtain listed | sent := h
    · exact (List.mem_cons.mp listed).symm.imp_right fun (e : m = a) => e ▸ List.mem_cons_self
    · exact .inr (List.mem_cons_of_mem _ sent)

/-- A unit that starts sends what it carries. -/
theorem Common.mem_out_startUnit (c : Common .vangeg) (hm : m ∈ u.msgs) : m ∈ (c.startUnit u).out :=
  Common.mem_out_foldl_send _ _ (.inl hm)

/-- What an offered unit carries leaves or waits, or its loss is counted. -/
theorem Common.offer_carries (c : Common .vangeg) (hm : m ∈ u.msgs) : (c.offer u).1.carries m ∨
    (c.offer u).1.reg 0x1405 (u.cls + 1) = (c.bump 0x1405 (u.cls + 1)).reg 0x1405 (u.cls + 1) := by
  have lost : (c.loseUnit u.cls u.serial).reg 0x1405 (u.cls + 1) = (c.bump 0x1405 (u.cls + 1)).reg 0x1405 (u.cls + 1) :=
    Common.losses_countLoss _ _ _
  unfold Common.offer
  dsimp only
  split
  · exact .inr lost
  · split
    · exact .inl (.inl (c.mem_out_startUnit hm))
    · split
      · exact .inr lost
      · exact .inl (.inr ⟨u, by simp [Common.wait], hm⟩)

theorem Common.submit_carries (c : Common .vangeg) (hm : m ∈ u.msgs) : (c.submit u).1.carries m ∨
    (c.submit u).1.reg 0x1405 (u.cls + 1) = (c.bump 0x1405 (u.cls + 1)).reg 0x1405 (u.cls + 1) := by
  have speaks : (c.silent u.port && decide (u.link ≠ 0)) = false := rfl
  unfold Common.submit
  rw [speaks]
  exact Common.offer_carries c.takeSerial.1 (u := { u with serial := c.takeSerial.2 }) hm

theorem Vangeg.sendData_carries {cls source tag e : Nat} {payload : List Nat} (bound : v.c.boundTag tag = some e) :
    (v.sendData cls source tag none payload).1.c.carries (.data .activeParent tag e v.c.logical payload) ∨
      (v.sendData cls source tag none payload).1.c.reg 0x1405 (cls + 1) =
        (v.c.bump 0x1405 (cls + 1)).reg 0x1405 (cls + 1) := by
  unfold Vangeg.sendData
  rw [bound]
  exact Common.submit_carries v.c (List.mem_singleton_self _)

theorem Vangeg.quietV_sendData (v : Vangeg) (cls source tag : Nat) (slice : Option Nat) (payload : List Nat) :
    QuietV v (v.sendData cls source tag slice payload).1 := by
  unfold Vangeg.sendData
  split
  · exact QuietV.onC (f := fun c => c.countLoss cls) (quiet_countLoss _ _)
  · exact QuietV.onC (f := fun c => (c.submit _).1) (quiet_submit _ _)

/-! ### What ends a command leaves the losses and the waiting units -/

/-- `d` has the losses and the waiting units of `c`. -/
structure SameWaiting (c d : Common .vangeg) : Prop where
  losses : ∀ s, d.reg 0x1405 s = c.reg 0x1405 s
  waiting : d.bud.waiting = c.bud.waiting

theorem SameWaiting.refl (c : Common .vangeg) : SameWaiting c c := ⟨fun _ => rfl, rfl⟩

theorem SameWaiting.trans {b c d : Common .vangeg} (h : SameWaiting b c) (k : SameWaiting c d) : SameWaiting b d :=
  ⟨fun s => (k.losses s).trans (h.losses s), k.waiting.trans h.waiting⟩

theorem sameWaiting_setReg (c : Common .vangeg) {i : Nat} (s x : Nat) (h : 0x1405 ≠ i) : SameWaiting c (c.setReg i s x) :=
  ⟨fun _ => c.reg_setReg_idx _ _ _ h, rfl⟩

theorem sameWaiting_baseline (c : Common .vangeg) (n : Nat) : SameWaiting c (c.baseline n) :=
  sameWaiting_setReg c _ _ (by decide)

theorem sameWaiting_consume (c : Common .vangeg) (cls r n : Nat) : SameWaiting c (c.consume cls r n) := by
  unfold Common.consume
  split
  · exact .refl c
  · exact ⟨fun _ => rfl, rfl⟩

theorem sameWaiting_send (c : Common .vangeg) (m : Msg) : SameWaiting c (c.send m) := ⟨fun _ => rfl, rfl⟩

theorem sameWaiting_foldl {α β : Type} (units : β → Common .vangeg) (f : β → α → β)
    (hf : ∀ b a, SameWaiting (units b) (units (f b a))) (l : List α) (b : β) : SameWaiting (units b) (units (l.foldl f b)) := by
  induction l generalizing b with
  | nil => exact .refl _
  | cons a l ih => exact (hf b a).trans (ih (f b a))

theorem Vangeg.sameWaiting_issue (v : Vangeg) (w : HostWrite) (i : Nat) : SameWaiting v.c (v.issue w i).c := by
  unfold Vangeg.issue
  dsimp only [Vangeg.onC_c]
  refine SameWaiting.trans ?_ (sameWaiting_send _ _)
  split
  · exact (sameWaiting_baseline _ _).trans (sameWaiting_consume _ _ _ _)
  · exact (sameWaiting_setReg _ 8 _ (by decide)).trans (sameWaiting_consume _ _ _ _)

theorem Vangeg.sameWaiting_issueOrWait (v : Vangeg) (w : HostWrite) : SameWaiting v.c (v.issueOrWait w).c := by
  unfold Vangeg.issueOrWait
  split
  · exact v.sameWaiting_issue w _
  · exact .refl v.c

theorem Vangeg.sameWaiting_issueStarted (v : Vangeg) (w : HostWrite) : SameWaiting v.c (v.issueStarted w).c := by
  unfold Vangeg.issueStarted
  split
  · refine SameWaiting.trans ?_ (Vangeg.sameWaiting_issueOrWait _ w)
    split
    · split
      · exact .refl v.c
      · exact .refl v.c
    · exact .refl v.c
  · exact v.sameWaiting_issueOrWait w

theorem Vangeg.sameWaiting_dropImages (lost : List Nat) (v : Vangeg) : SameWaiting v.c (v.dropImages lost).c := by
  unfold Vangeg.dropImages
  dsimp only
  split
  · exact .refl v.c
  · exact sameWaiting_foldl id (fun (a : Common .vangeg) (_ : Nat) => (a.bump 0x2910 9).baseline 50) (fun a _ =>
      (sameWaiting_setReg a _ _ (by decide)).trans (sameWaiting_baseline _ _)) _ v.c

theorem Vangeg.sameWaiting_drive (v : Vangeg) : SameWaiting v.c v.drive.c := ⟨fun _ => rfl, rfl⟩

/-- What ends a command at a Vangeg counts no loss of a class and starts no waiting unit. -/
theorem Vangeg.sameWaiting_flush (v : Vangeg) : SameWaiting v.c v.flush.c := by
  have emptied : SameWaiting v.c { v.c with bud := { v.c.bud with issuing := [], lostUnits := [] } } := ⟨fun _ => rfl, rfl⟩
  have issued := emptied.trans (sameWaiting_foldl Vangeg.c _ Vangeg.sameWaiting_issueStarted v.c.bud.issuing
    { v with c := { v.c with bud := { v.c.bud with issuing := [], lostUnits := [] } } })
  have settled : SameWaiting v.c v.settle.c := by
    unfold Vangeg.settle
    exact issued.trans (Vangeg.sameWaiting_dropImages v.c.bud.lostUnits _)
  exact settled.trans v.settle.sameWaiting_drive

/-- The Vangeg after a command to it: what was sent or waits still does, and the losses are as the command left them. -/
theorem vg_onV_waiting {f : Vangeg → Vangeg} {s : State} (up : s.vg.bnd.inReset = false) :
    ∃ t, onV f s = .next t ∧ QuietV (f s.vg) t.vg ∧ SameWaiting (f s.vg).c t.vg.c ∧ t.sx = s.sx ∧ t.pending = s.pending :=
  ⟨_, onV_runs f s up, Vangeg.quietV_flush _, Vangeg.sameWaiting_flush _, rfl, rfl⟩

theorem SameWaiting.carries {c d : Common .vangeg} (h : SameWaiting c d) (q : Quiet c d) (hm : c.carries m) : d.carries m := by
  obtain sent | ⟨u, hu, hm⟩ := hm
  · exact .inl (q.sent sent)
  · exact .inr ⟨u, h.waiting ▸ hu, hm⟩

end Sys2Proof.Machine

/-! ## Chord events and records (R91 to R94) -/

namespace Sys2Proof.Machine

variable {s : State}

/-- The chord record of a receive event (Table 2-12). -/
def Vangeg.receiveRecord (v : Vangeg) (msg peer : Nat) : List Nat :=
  bytesLE 4 msg ++ bytesLE 4 peer ++ bytesLE 6 (v.c.stamp v.c.now) ++ [1, 0]

/-- A receive event under the KIND 3 binding is a DATA message of its record. -/
theorem execChordEvent_bound {msg peer tag e : Nat} (binding : s.vg.c.kindBinding 3 = some (tag, e)) :
    execChordEvent true msg peer s = onV (fun v => (v.sendData 3 5 tag none (v.receiveRecord msg peer)).1) s := by
  unfold execChordEvent onV
  simp only [if_true, binding]
  rfl

theorem chordEvent_sent {msg peer tag e : Nat} (up : s.vg.bnd.inReset = false)
    (binding : s.vg.c.kindBinding 3 = some (tag, e)) (bound : s.vg.c.boundTag tag = some e) :
    Gives (.chordEvent true msg peer) s fun t => s.Near t ∧
      (t.vg.c.carries (.data .activeParent tag e s.vg.c.logical (s.vg.receiveRecord msg peer)) ∨
        t.vg.c.reg 0x1405 4 = (s.vg.c.bump 0x1405 4).reg 0x1405 4) := by
  obtain ⟨t, ht, quiet, same, sx, pending⟩ :=
    vg_onV_waiting (f := fun v => (v.sendData 3 5 tag none (v.receiveRecord msg peer)).1) up
  refine ⟨t, (execChordEvent_bound binding).trans ht,
    ⟨(Vangeg.quietV_sendData ..).trans quiet, sx ▸ QuietX.refl _, pending⟩, ?_⟩
  exact (Vangeg.sendData_carries bound).imp (same.carries quiet.c) (same.losses 4).trans

@[simp] theorem Vangeg.logPeer_c (v : Vangeg) (job peer : Nat) : (v.logPeer job peer).c = v.c := by
  unfold Vangeg.logPeer
  split <;> rfl

/-- With no KIND 3 binding an event of either direction counts a loss of class 3. -/
theorem execChordEvent_unbound {receive : Bool} {msg peer : Nat} (unbound : s.vg.c.kindBinding 3 = none) :
    ∃ f : Vangeg → Vangeg, execChordEvent receive msg peer s = onV f s ∧ (f s.vg).c = s.vg.c.countLoss 3 := by
  refine ⟨_, rfl, ?_⟩
  cases receive
  · simp [unbound]
  · simp [unbound]

theorem chordEvent_unbound {receive : Bool} {msg peer : Nat} (up : s.vg.bnd.inReset = false)
    (unbound : s.vg.c.kindBinding 3 = none) :
    Gives (.chordEvent receive msg peer) s fun t =>
      t.vg.c.reg 0x1405 4 = (s.vg.c.bump 0x1405 4).reg 0x1405 4 := by
  obtain ⟨f, e, lost⟩ := execChordEvent_unbound (receive := receive) (msg := msg) (peer := peer) unbound
  obtain ⟨t, ht, -, same, -, -⟩ := vg_onV_waiting (f := f) up
  exact ⟨t, e.trans ht, (same.losses 4).trans (lost ▸ Common.losses_countLoss _ 3 4)⟩

/-- The record of a message of direction 0 waits where none waits. -/
theorem chordRecordRx_waits {tag source : Nat} {m : List Nat} (run : s.sx.runs = true) (enabled : s.sx.c.reg 0x1240 0 = 1)
    (lowest : s.sx.c.matchesPair source (leAt m 4 4) = true) (dir : nth 0 m 14 % 2 = 0)
    (alone : s.sx.c.tempo.chordWaiting = []) :
    Gives (.chordRecordRx tag source m) s
      (s.on .shopostra fun c => { c with tempo := { c.tempo with
        chordWaiting := [{ msgId := leAt m 0 4, a := source, b := leAt m 4 4, stamp := leAt m 8 6, dir := 0 }] } }).Near := by
  refine near_onX (f := fun x => x.chordRecord tag source m) (x := s.sx.onC _) run ?_
  unfold Shopostra.chordRecord
  simp only [lowest, enabled, dir, alone, if_true, Nat.one_ne_zero, if_false, List.find?_nil]
  exact QuietX.onC_onC (by rw [alone]; exact .refl _)

/-- The record of direction 1 meets the one of direction 0: one matched message, with its transit. -/
theorem chordRecordRx_matches {tag source : Nat} {m : List Nat} {w : ChordWait} (run : s.sx.runs = true)
    (enabled : s.sx.c.reg 0x1240 0 = 1) (lowest : s.sx.c.matchesPair source (leAt m 4 4) = true)
    (dir : nth 0 m 14 % 2 = 1) (waiting : s.sx.c.tempo.chordWaiting = [w]) (msg : w.msgId = leAt m 0 4)
    (from_ : w.a = leAt m 4 4) (to_ : w.b = source) (sent : w.dir = 0) :
    Gives (.chordRecordRx tag source m) s
      (s.on .shopostra fun c => { c with tempo := { c.tempo with
        chordWaiting := [],
        chordPairs := addTransit c.tempo.chordPairs w.a w.b (stampDiff (leAt m 8 6) w.stamp) } }).Near := by
  refine near_onX (f := fun x => x.chordRecord tag source m) (x := s.sx.onC _) run ?_
  unfold Shopostra.chordRecord
  simp only [lowest, enabled, dir, waiting, if_true, Nat.one_ne_zero, if_false, List.find?_cons, msg, from_, to_, sent]
  exact QuietX.onC_onC (by rw [waiting, List.erase_cons_head]; exact .refl _)

/-- Whether the stamp of a waiting record is 2 board cycles old (R92). -/
def Common.chordOld (c : Common .shopostra) (w : ChordWait) : Bool := decide (c.extend w.stamp + 2 * cycleT ≤ c.now)

/-- Old records leave, and each is counted (R92). -/
def Common.expireChords (c : Common .shopostra) : Common .shopostra :=
  c.onTempo fun u => { u with
    chordWaiting := u.chordWaiting.filter fun w => !c.chordOld w
    chordExpired := u.chordExpired + (u.chordWaiting.filter c.chordOld).length }

theorem execChordRecordExpire_eq (s : State) : execChordRecordExpire s = onX (fun x => x.onC Common.expireChords) s := rfl

theorem Common.mem_expireChords {c : Common .shopostra} {w : ChordWait} : w ∈ c.expireChords.tempo.chordWaiting ↔
    w ∈ c.tempo.chordWaiting ∧ c.now < c.extend w.stamp + 2 * cycleT := by
  simp [Common.expireChords, Common.chordOld, List.mem_filter]

theorem Common.length_expireChords (c : Common .shopostra) :
    c.expireChords.tempo.chordWaiting.length + c.expireChords.tempo.chordExpired =
      c.tempo.chordWaiting.length + c.tempo.chordExpired := by
  have parted := List.length_eq_countP_add_countP (l := c.tempo.chordWaiting) c.chordOld
  have kept : (fun w => decide ¬c.chordOld w = true) = fun w => !c.chordOld w := by
    funext w
    cases c.chordOld w <;> rfl
  rw [kept, List.countP_eq_length_filter, List.countP_eq_length_filter] at parted
  simp only [Common.expireChords, Common.onTempo_tempo]
  omega

theorem chordRecordExpire_counts (run : s.sx.runs = true) :
    Gives .chordRecordExpire s fun t =>
      (∀ w, w ∈ t.sx.c.tempo.chordWaiting ↔
        w ∈ s.sx.c.tempo.chordWaiting ∧ s.sx.c.now < s.sx.c.extend w.stamp + 2 * cycleT) ∧
      t.sx.c.tempo.chordWaiting.length + t.sx.c.tempo.chordExpired =
        s.sx.c.tempo.chordWaiting.length + s.sx.c.tempo.chordExpired := by
  obtain ⟨t, ht, after, -, -⟩ := sx_onX (f := fun x => x.onC Common.expireChords) run
  have tempo : t.sx.c.tempo = s.sx.c.expireChords.tempo := after.c.tempo
  refine ⟨t, (execChordRecordExpire_eq s).trans ht, fun w => ?_, ?_⟩
  · rw [tempo, Common.mem_expireChords]
  · rw [tempo, Common.length_expireChords]

/-! ### The fit of a window (R93) -/

/-- Every published result is fitted over at least 3 peers, and is a fault where it exceeds CHORD_FAULT_NS. -/
def Common.FitPublished (c : Common .shopostra) (u : TempoUnit) : Prop :=
  u.chordPairs = [] ∧ ∀ d o n f, (d, o, n, f) ∈ u.chordResult → 3 ≤ n ∧ (f = true ↔ c.reg 0x1243 0 < o.natAbs)

/-- The faults of a fit are counted and reported, which leaves Tempo. -/
theorem Common.reportFaults_tempo (l : List (Nat × Int × Nat × Bool)) (c : Common .shopostra) :
    (l.foldl (fun (a : Common .shopostra) r =>
      (a.bump 0x1245 0).report { sev := 2, code := 0x0201, detail := r.1 + toTwos 32 r.2.1 * 2 ^ 32 }) c).tempo = c.tempo := by
  induction l generalizing c with
  | nil => rfl
  | cons r l ih => exact (ih _).trans (quiet_report _ _).tempo

theorem Common.chordFit_published (c : Common .shopostra) : c.FitPublished c.chordFit.tempo := by
  unfold Common.chordFit
  dsimp only
  rw [Common.reportFaults_tempo]
  refine ⟨rfl, fun d o n f h => ?_⟩
  obtain ⟨die, -, hd⟩ := List.mem_filterMap.mp h
  split at hd
  case isTrue => cases hd
  case isFalse enough =>
    cases hd
    exact ⟨Nat.not_lt.mp enough, decide_eq_true_iff⟩

theorem chordFit_publishes (run : s.sx.runs = true) (enabled : s.sx.c.reg 0x1240 0 ≠ 0) :
    Gives .chordFit s fun t => t.sx.c.tempo.chordPairs = [] ∧
      (∀ d o n f, (d, o, n, f) ∈ t.sx.c.tempo.chordResult → 3 ≤ n ∧ (f = true ↔ s.sx.c.reg 0x1243 0 < o.natAbs)) := by
  obtain ⟨t, ht, after, -, -⟩ := sx_onX (f := fun x => if x.c.reg 0x1240 0 = 0 then x else x.onC Common.chordFit) run
  rw [if_neg enabled] at after
  have published : s.sx.c.FitPublished t.sx.c.tempo := after.c.tempo ▸ s.sx.c.chordFit_published
  exact ⟨t, ht, published⟩

/-- Settles O6: an event is a DATA message or a loss; records wait, meet, expire and are fitted in Tempo's own state. -/
theorem chordsTakeEffect : Obligations.ChordsTakeEffect := by
  refine ⟨?event, ?unbound, ?waits, ?meets, ?expire, ?fit⟩
  case event =>
    intro s msg peer tag e up binding bound
    exact chordEvent_sent up binding bound
  case unbound =>
    intro s receive msg peer up unbound
    exact chordEvent_unbound up unbound
  case waits =>
    intro s tag source m run enabled lowest dir alone
    exact chordRecordRx_waits run enabled lowest dir alone
  case meets =>
    intro s tag source m w run enabled lowest dir waiting msg from_ to_ sent
    exact chordRecordRx_matches run enabled lowest dir waiting msg from_ to_ sent
  case expire =>
    intro s run
    exact chordRecordExpire_counts run
  case fit =>
    intro s run enabled
    exact chordFit_publishes run enabled

end Sys2Proof.Machine

/-! ## What the end of a command leaves of the budgets (R263) -/

namespace Sys2Proof.Machine

/-- `d` is `b` but for the amounts consumed. -/
def Budget.Consumes (b d : Budget) : Prop := ∃ consumed, d = { b with consumed := consumed }

theorem Budget.Consumes.refl (b : Budget) : b.Consumes b := ⟨_, rfl⟩

theorem Budget.Consumes.trans {a b d : Budget} (h : a.Consumes b) (k : b.Consumes d) : a.Consumes d := by
  obtain ⟨_, rfl⟩ := h
  obtain ⟨_, rfl⟩ := k
  exact ⟨_, rfl⟩

theorem Common.consumes_consume {kd : Part} (c : Common kd) (cls r n : Nat) : c.bud.Consumes (c.consume cls r n).bud := by
  unfold Common.consume
  split
  · exact .refl _
  · exact ⟨_, rfl⟩

theorem Vangeg.consumes_issue (v : Vangeg) (w : HostWrite) (i : Nat) : v.c.bud.Consumes (v.issue w i).c.bud := by
  unfold Vangeg.issue
  dsimp only [Vangeg.onC_c, Common.send_bud]
  split
  · exact Common.baseline_bud v.c 8 ▸ Common.consumes_consume _ _ _ _
  · exact Common.consumes_consume (v.c.addReg 0x2C00 8 w.bytes) _ _ _

theorem Vangeg.consumes_issueOrWait (v : Vangeg) (w : HostWrite) : v.c.bud.Consumes (v.issueOrWait w).c.bud := by
  unfold Vangeg.issueOrWait
  split
  · exact v.consumes_issue w _
  · exact .refl _

theorem Vangeg.consumes_issueStarted (v : Vangeg) (w : HostWrite) : v.c.bud.Consumes (v.issueStarted w).c.bud := by
  unfold Vangeg.issueStarted
  split
  · refine Budget.Consumes.trans ?_ (Vangeg.consumes_issueOrWait _ w)
    split
    · split
      · exact .refl _
      · exact .refl _
    · exact .refl _
  · exact v.consumes_issueOrWait w

theorem Vangeg.consumes_foldl_issueStarted (l : List HostWrite) (v : Vangeg) :
    v.c.bud.Consumes (l.foldl Vangeg.issueStarted v).c.bud := by
  induction l generalizing v with
  | nil => exact .refl _
  | cons w l ih => exact (v.consumes_issueStarted w).trans (ih _)

@[simp] theorem Vangeg.dropImages_bud (lost : List Nat) (v : Vangeg) : (v.dropImages lost).c.bud = v.c.bud := by
  unfold Vangeg.dropImages
  dsimp only
  split
  · rfl
  · exact (quiet_lossCounts _ _).2

/-- `d` is `b` at the end of a command: nothing is in transit, and what the issued writes took is consumed. -/
def Budget.Ended (b d : Budget) : Prop := { b with issuing := [], lostUnits := [] }.Consumes d

theorem Budget.Ended.waiting {b d : Budget} (h : b.Ended d) : d.waiting = b.waiting := by
  obtain ⟨_, rfl⟩ := h
  rfl

theorem Budget.Ended.queues {b d : Budget} (h : b.Ended d) : d.queues = b.queues := by
  obtain ⟨_, rfl⟩ := h
  rfl

theorem Vangeg.flush_ended (v : Vangeg) : v.c.bud.Ended v.flush.c.bud := by
  have settled : v.flush.c.bud = v.settle.c.bud := rfl
  rw [settled, Vangeg.settle, Vangeg.dropImages_bud]
  exact Vangeg.consumes_foldl_issueStarted v.c.bud.issuing
    { v with c := { v.c with bud := { v.c.bud with issuing := [], lostUnits := [] } } }

/-- What a command to the common units of a part that runs leaves, with the units that wait and the queues. -/
theorem onC_ended {s : State} {p : Part} (run : s.runs p = true) (f : Common p → Common p) :
    ∃ t, onC p f s = .next t ∧ (s.on p f).Near t ∧ (f (s.com p)).bud.Ended (t.com p).bud := by
  cases p
  case vangeg =>
    exact ⟨_, onV_runs (fun v => v.onC f) s (by simpa [State.runs] using run),
      ⟨Vangeg.quietV_flush _, QuietX.refl _, rfl⟩, Vangeg.flush_ended _⟩
  case shopostra =>
    exact ⟨_, onX_runs (fun x => x.onC f) s run, ⟨QuietV.refl _, Shopostra.quietX_flush _, rfl⟩, ⟨_, rfl⟩⟩

end Sys2Proof.Machine

/-! ## Units that start or wait (R256, R259, R260) -/

namespace Sys2Proof.Machine

variable {kd : Part} {c : Common kd} {u : WorkUnit}

theorem Common.foldl_send_bud (l : List Msg) (c : Common kd) : (l.foldl (fun a m => a.send m) c).bud = c.bud := by
  induction l generalizing c with
  | nil => rfl
  | cons m l ih => exact ih (c.send m)

@[simp] theorem Common.startUnit_waiting (c : Common kd) (u : WorkUnit) : (c.startUnit u).bud.waiting = c.bud.waiting := by
  unfold Common.startUnit
  dsimp only
  rw [Common.foldl_send_bud]
  split
  · rfl
  · rfl

/-- The frames of a unit that starts are ready in its queue, none sent. -/
theorem Common.startUnit_ready (c : Common kd) (linked : u.link ≠ 0) :
    ∃ m ∈ lookupD [] (c.startUnit u).bud.queues (u.port, c.unitQueue u),
      m.frames = u.link ∧ m.sent = 0 ∧ m.serial = u.serial := by
  unfold Common.startUnit
  dsimp only
  rw [Common.foldl_send_bud, if_neg linked]
  dsimp only
  rw [lookupD_putKey_same]
  exact ⟨_, List.mem_append_right _ (List.mem_singleton_self _), rfl, rfl, rfl⟩

/-- A unit that the levels cover starts, unless one of its class and source waits (R256, R260). -/
theorem Common.offer_starts (fits : ∀ r, r < 4 → c.neverFits u r = false ∧ c.covers u r = true)
    (first : ∀ w ∈ c.bud.waiting, w.cls ≠ u.cls ∨ w.source ≠ u.source) : (c.offer u).1 = c.startUnit u := by
  have ahead : c.bud.waiting.any (fun w => decide (w.cls = u.cls ∧ w.source = u.source)) = false :=
    List.any_eq_false.mpr fun w hw h => (first w hw).elim (· (of_decide_eq_true h).1) (· (of_decide_eq_true h).2)
  unfold Common.offer
  simp only [fits 0 (by decide), fits 1 (by decide), fits 2 (by decide), fits 3 (by decide), ahead]
  rfl

/-- A unit whose LINK cost the levels do not cover yet waits, where its class waits (R260). -/
theorem Common.offer_waits (possible : ∀ r, r < 4 → c.neverFits u r = false) (short : c.covers u 0 = false)
    (stalls : c.drops u.cls = false) : (c.offer u).1 = c.wait (c.bud.waiting ++ [u]) u.cls := by
  unfold Common.offer
  simp only [possible 0 (by decide), possible 1 (by decide), possible 2 (by decide), possible 3 (by decide), short, stalls]
  rfl

/-- A port that is not silent takes a new unit, under the next serial number. -/
theorem Common.submit_speaks (speaks : c.silent u.port = false) :
    (c.submit u).1 = (c.takeSerial.1.offer { u with serial := c.ctl.serial }).1 := by
  unfold Common.submit
  rw [speaks]
  rfl

/-- A retry of the one waiting unit offers it again. -/
theorem Common.retry_one (one : c.bud.waiting = [u]) :
    c.retry = (({ c with bud := { c.bud with waiting := [] } } : Common kd).offer u).1 := by
  unfold Common.retry
  rw [one]
  rfl

variable {s : State} {p : Part}

/-- A unit as UNIT_READY gives it: its serial number is not yet known, and it carries nothing (R254, R256). -/
def WorkUnit.asReady (u : WorkUnit) : WorkUnit :=
  { serial := 0, cls := u.cls, slice := u.slice, source := u.source, port := u.port, link := u.link, hmw := u.hmw,
    intr := u.intr, iso := u.iso, queue := none, isData := decide (u.cls < 3), msgs := [], host := [] }

/-- UNIT_READY offers the unit. -/
theorem execUnitReady_eq (ready : u = u.asReady) :
    exec (.unitReady p u.cls u.slice u.source u.port u.link u.hmw u.intr u.iso) s =
      onC p (fun c => (c.submit u).1) s :=
  congrArg (fun w => onC p (fun c => (c.submit w).1) s) ready.symm

theorem unitReady_starts (run : s.runs p = true) (ready : u = u.asReady) (speaks : (s.com p).silent u.port = false)
    (fits : ∀ r, r < 4 → (s.com p).neverFits u r = false ∧ (s.com p).covers u r = true)
    (first : ∀ w ∈ (s.com p).bud.waiting, w.cls ≠ u.cls ∨ w.source ≠ u.source) (linked : u.link ≠ 0) :
    Gives (.unitReady p u.cls u.slice u.source u.port u.link u.hmw u.intr u.iso) s fun t => s.Near t ∧
      (∀ q, q = (s.com p).unitQueue u → ∃ m ∈ lookupD [] (t.com p).bud.queues (u.port, q), m.frames = u.link ∧ m.sent = 0 ∧
        m.serial = (s.com p).ctl.serial) ∧
      (t.com p).bud.waiting = (s.com p).bud.waiting := by
  have started : ((s.com p).submit u).1 = (s.com p).takeSerial.1.startUnit { u with serial := (s.com p).ctl.serial } :=
    (Common.submit_speaks speaks).trans (Common.offer_starts fits first)
  obtain ⟨t, ht, near, ended⟩ := onC_ended run fun c => (c.submit u).1
  refine ⟨t, (execUnitReady_eq ready).trans ht, (State.near_on (quiet_submit _ _)).trans near, ?ready, ?waiting⟩
  case ready =>
    rintro _ rfl
    rw [ended.queues, started]
    exact (s.com p).takeSerial.1.startUnit_ready (u := { u with serial := (s.com p).ctl.serial }) linked
  case waiting => rw [ended.waiting, started, Common.startUnit_waiting, Common.takeSerial_bud]

theorem unitReady_waits (run : s.runs p = true) (ready : u = u.asReady) (speaks : (s.com p).silent u.port = false)
    (possible : ∀ r, r < 4 → (s.com p).neverFits u r = false) (short : (s.com p).covers u 0 = false)
    (stalls : (s.com p).drops u.cls = false) :
    Gives (.unitReady p u.cls u.slice u.source u.port u.link u.hmw u.intr u.iso) s fun t => s.Near t ∧
      (t.com p).bud.waiting = (s.com p).bud.waiting ++ [{ u with serial := (s.com p).ctl.serial }] := by
  have waits : ((s.com p).submit u).1 =
      (s.com p).takeSerial.1.wait ((s.com p).bud.waiting ++ [{ u with serial := (s.com p).ctl.serial }]) u.cls :=
    (Common.submit_speaks speaks).trans (Common.offer_waits possible short stalls)
  obtain ⟨t, ht, near, ended⟩ := onC_ended run fun c => (c.submit u).1
  refine ⟨t, (execUnitReady_eq ready).trans ht, (State.near_on (quiet_submit _ _)).trans near, ?_⟩
  rw [ended.waiting, waits]
  rfl

theorem unitRetry_starts (run : s.runs p = true) (one : (s.com p).bud.waiting = [u])
    (fits : ∀ r, r < 4 → (s.com p).neverFits u r = false ∧ (s.com p).covers u r = true) :
    Gives (.unitRetry p) s fun t => s.Near t ∧ (t.com p).bud.waiting = [] := by
  have alone : ∀ w ∈ ([] : List WorkUnit), w.cls ≠ u.cls ∨ w.source ≠ u.source := by simp
  have started := (Common.retry_one one).trans (Common.offer_starts fits alone)
  obtain ⟨t, ht, near, ended⟩ := onC_ended run Common.retry
  refine ⟨t, ht, (State.near_on (quiet_retry _)).trans near, ?_⟩
  rw [ended.waiting, started, Common.startUnit_waiting]

end Sys2Proof.Machine

/-! ## Amounts and shapes that are written (R257, R274) -/

namespace Sys2Proof.Machine

variable {kd : Part} {c d : Common kd} {s : State} {p : Part} {r : Req} {cls port q v : Nat}

theorem Budget.Books.inEffect {b d : Budget} (h : b.Books d) : d.inEffect = b.inEffect := by
  obtain ⟨_, _, _, _, _, _, _, _, rfl⟩ := h; rfl

theorem Budget.Books.shapeOld {b d : Budget} (h : b.Books d) : d.shapeOld = b.shapeOld := by
  obtain ⟨_, _, _, _, _, _, _, _, rfl⟩ := h; rfl

theorem Budget.Books.shapeStaged {b d : Budget} (h : b.Books d) : d.shapeStaged = b.shapeStaged := by
  obtain ⟨_, _, _, _, _, _, _, _, rfl⟩ := h; rfl

theorem Budget.Books.gclPending {b d : Budget} (h : b.Books d) : d.gclPending = b.gclPending := by
  obtain ⟨_, _, _, _, _, _, _, _, rfl⟩ := h; rfl

theorem Budget.Books.exhausted {b d : Budget} (h : b.Books d) : d.exhausted = b.exhausted := by
  obtain ⟨_, _, _, _, _, _, _, _, rfl⟩ := h; rfl

theorem Budget.Books.gclReset {b d : Budget} (h : b.Books d) : d.gclReset = b.gclReset := by
  obtain ⟨_, _, _, _, _, _, _, _, rfl⟩ := h; rfl

/-- The pools, shapes and gate lists are no counts of bookkeeping. -/
theorem not_mem_accounting {i : Nat} (low : 0x1410 ≤ i) (high : i < 0x1500) : i ∉ accounting := by
  simp only [accounting, List.mem_cons, List.not_mem_nil, or_false]
  omega

theorem Quiet.amount (h : Quiet c d) {i : Nat} (sub : Nat) (hi : i ∉ accounting) : d.amount i sub = c.amount i sub := by
  simp only [Common.amount, h.reg i sub hi, h.bud.inEffect]

theorem Quiet.shape (h : Quiet c d) (hport : port < 48) (q col : Nat) : d.shape port q col = c.shape port q col := by
  simp only [Common.shape, h.reg (0x1430 + port) _ (not_mem_accounting (by omega) (by omega)), h.bud.shapeOld]

/-- The figure in effect in this cycle stands beside the one that is written. -/
def Common.keepInEffect (c : Common kd) (idx sub : Nat) (old : Nat) : Common kd :=
  { c with bud := { c.bud with inEffect := putKey c.bud.inEffect (key idx sub) old } }

theorem Common.amount_keepInEffect (c : Common kd) (idx sub old : Nat) : (c.keepInEffect idx sub old).amount idx sub = old :=
  lookupD_putKey_same _ _ _ _

/-- A LINK pool that keeps the reservations is stored, and the old one stays in effect. -/
theorem ruleAmount_classPool (class_ : cls < 8) (fit : (c.setReg (0x1410 + cls) 1 v).reservationsFit = true) :
    ruleAmount (0x1410 + cls) 1 v c =
      ((c.setReg (0x1410 + cls) 1 v).keepInEffect (0x1410 + cls) 1 (c.amount (0x1410 + cls) 1), none) := by
  have pool : 0x1410 ≤ 0x1410 + cls ∧ 0x1410 + cls < 0x1418 := by omega
  have noAttr : 0x1410 + cls ≠ 0x1420 := by omega
  have isMarked : marked (0x1410 + cls - 0x1410) (1 - 1) = true := rfl
  unfold ruleAmount
  simp only [if_pos pool, if_neg noAttr, isMarked, fit]
  rfl

theorem budAmountWrite_stored (class_ : cls < 8) (admits : s.admits p r (0x1410 + cls) 1 v = true)
    (fit : ((s.com p).setReg (0x1410 + cls) 1 v).reservationsFit = true) :
    Gives (.budAmountWrite p r (0x1410 + cls) 1 v) s fun t => (t.com p).reg (0x1410 + cls) 1 = v ∧
      (t.com p).amount (0x1410 + cls) 1 = (s.com p).amount (0x1410 + cls) 1 := by
  have isPool : isAmount (0x1410 + cls) = true := by
    simp only [isAmount, Bool.or_eq_true, decide_eq_true_eq]
    omega
  have kept := not_mem_accounting (i := 0x1410 + cls) (by omega) (by omega)
  obtain ⟨t, ht, after⟩ := com_writeBoth (f := ruleAmount (0x1410 + cls) 1 v) admits
  rw [ruleAmount_classPool class_ fit] at after
  refine ⟨t, (if_pos isPool).trans ht, (after.reg _ 1 kept).trans (Common.reg_setReg_same _ _ _ _), ?_⟩
  exact (after.amount 1 kept).trans (Common.amount_keepInEffect _ _ _ _)

theorem mem_addNew {α : Type} (a : α) (l : List α) [Decidable (a ∈ l)] : a ∈ if a ∈ l then l else l ++ [a] := by
  split
  · assumption
  · exact List.mem_append_right l (List.mem_singleton_self a)

/-- A rate in range is stored, and the old one stays in effect. -/
theorem ruleShape_rate (range : v ≤ 400000) : ∃ staged, (port, q) ∈ staged ∧
    ruleShape port (8 * q + 1) v c = ({ c.setReg (0x1430 + port) (8 * q + 1) v with bud := { c.bud with
      shapeOld := putKey c.bud.shapeOld (key (0x1430 + port) (8 * q + 1)) (c.shape port q 1),
      shapeStaged := staged } }, none) := by
  refine ⟨_, mem_addNew (port, q) c.bud.shapeStaged, ?_⟩
  unfold ruleShape
  simp [range]

theorem budShapeWrite_stored (hport : port < 48) (admits : s.admits p r (0x1430 + port) (8 * q + 1) v = true)
    (range : v ≤ 400000) :
    Gives (.budShapeWrite p r port (8 * q + 1) v) s fun t => (t.com p).reg (0x1430 + port) (8 * q + 1) = v ∧
      (t.com p).shape port q 1 = (s.com p).shape port q 1 ∧ (port, q) ∈ (t.com p).bud.shapeStaged := by
  obtain ⟨t, ht, after⟩ := com_writeBoth (f := ruleShape port (8 * q + 1) v) admits
  obtain ⟨staged, listed, e⟩ := ruleShape_rate (c := s.com p) (port := port) (q := q) range
  rw [e] at after
  refine ⟨t, ht, ?stored, (after.shape hport q 1).trans (lookupD_putKey_same _ _ _ _), after.bud.shapeStaged ▸ listed⟩
  exact (after.reg _ _ (not_mem_accounting (by omega) (by omega))).trans (Common.reg_setReg_same _ _ _ _)

end Sys2Proof.Machine

/-! ## Switches of a gate list (R271), and parity errors (R277) -/

namespace Sys2Proof.Machine

variable {kd : Part} {c d : Common kd} {s : State} {p : Part} {r : Req} {port v : Nat} {l : List Nat}

/-- The objects of a port's gate lists are no counts of bookkeeping. -/
theorem Quiet.gateReg (h : Quiet c d) (hport : port < 48) (sub : Nat) :
    d.reg (0x14C0 + port) sub = c.reg (0x14C0 + port) sub := h.reg _ _ (not_mem_accounting (by omega) (by omega))

/-- A switch that R271 does not abort pends. -/
theorem ruleGclSwitch_accepted (nonzero : v ≠ 0) (sound : c.gclAbort port (c.timeOf v) (c.adminList port) = none) :
    ruleGclSwitch port v c = (({ c with bud := { c.bud with
      gclPending := c.bud.gclPending ++ [(port, c.timeOf v, c.adminList port)] } }.setReg (0x14C0 + port) 2
        (storedForm .time v)).setReg (0x14C0 + port) 3 1, none) := by
  unfold ruleGclSwitch
  simp only [if_neg nonzero, sound]

/-- Zero cancels the port's pending switch. -/
theorem ruleGclSwitch_cancels (pending : c.bud.gclPending.any (fun g => decide (g.1 = port)) = true) :
    ruleGclSwitch port 0 c = (({ c with bud := { c.bud with
      gclPending := c.bud.gclPending.filter fun g => decide (g.1 ≠ port) } }.setReg (0x14C0 + port) 2 0).setReg
        (0x14C0 + port) 3 3, none) := by
  unfold ruleGclSwitch
  rw [if_pos rfl, if_pos pending]

theorem gclSwitchSubmit_pends (hport : port < 48) (admits : s.admits p r (0x14C0 + port) 2 v = true) (nonzero : v ≠ 0)
    (sound : (s.com p).gclAbort port ((s.com p).timeOf v) ((s.com p).adminList port) = none) :
    Gives (.gclSwitchSubmit p r port v) s fun t => (t.com p).reg (0x14C0 + port) 3 = 1 ∧
      (t.com p).bud.gclPending = (s.com p).bud.gclPending ++ [(port, (s.com p).timeOf v, (s.com p).adminList port)] := by
  obtain ⟨t, ht, after⟩ := com_writeBoth (f := ruleGclSwitch port v) admits
  rw [ruleGclSwitch_accepted nonzero sound] at after
  exact ⟨t, ht, (after.gateReg hport 3).trans (Common.reg_setReg_same _ _ _ _), after.bud.gclPending⟩

theorem gclSwitchCancel_cancels (hport : port < 48) (admits : s.admits p r (0x14C0 + port) 2 0 = true)
    (pending : (s.com p).bud.gclPending.any (fun g => decide (g.1 = port)) = true) :
    Gives (.gclSwitchCancel p r port) s fun t => (t.com p).reg (0x14C0 + port) 3 = 3 ∧
      (t.com p).bud.gclPending = (s.com p).bud.gclPending.filter fun g => decide (g.1 ≠ port) := by
  obtain ⟨t, ht, after⟩ := com_writeBoth (f := ruleGclSwitch port 0) admits
  rw [ruleGclSwitch_cancels pending] at after
  exact ⟨t, ht, (after.gateReg hport 3).trans (Common.reg_setReg_same _ _ _ _), after.bud.gclPending⟩

/-! ### The operational list -/

theorem map_nth_range (x : Nat) (l : List Nat) : (List.range l.length).map (nth x l) = l := by
  induction l with
  | nil => rfl
  | cons a l ih =>
    rw [List.length_cons, List.range_succ_eq_map, List.map_cons, List.map_map]
    exact congrArg (a :: ·) ih

/-- Entries written one after another all stand. -/
theorem Common.reg_foldl_setReg (idx : Nat) (f : Nat → Nat) {n i : Nat} (room : n < 256) (listed : i < n) (c : Common kd) :
    ((List.range n).foldl (fun a k => a.setReg idx (k + 1) (f k)) c).reg idx (i + 1) = f i := by
  induction n with
  | zero => exact absurd listed (Nat.not_lt_zero i)
  | succ n ih =>
    rw [List.range_succ, List.foldl_append, List.foldl_cons, List.foldl_nil]
    by_cases last : i = n
    · rw [last, Common.reg_setReg_same]
    · rw [Common.reg_setReg_sub _ _ (by omega), ih (by omega) (by omega)]

/-- Writing a list as a port's operational list changes the register store alone. -/
theorem Common.installList_eq (c : Common kd) (p : Nat) (l : List Nat) : ∃ dict, c.installList p l = { c with dict := dict } := by
  obtain ⟨dict, h⟩ := Common.foldl_dict (fun (a : Common kd) i => a.setReg (0x1490 + p) (i + 1) (nth 0x01FF2FA8 l i))
    (fun _ _ => ⟨_, rfl⟩) (List.range 64) c
  unfold Common.installList
  rw [h]
  exact ⟨_, rfl⟩

/-- The list written is the operational list. -/
theorem Common.operList_installList (c : Common kd) (p : Nat) (short : l.length ≤ 64) : (c.installList p l).operList p = l := by
  have size : (c.installList p l).reg (0x14C0 + p) 4 = l.length := Common.reg_setReg_same _ _ _ _
  unfold Common.operList
  rw [size]
  refine (List.map_congr_left fun i hi => ?_).trans (map_nth_range 0x01FF2FA8 l)
  have listed : i < 64 := Nat.lt_of_lt_of_le (List.mem_range.mp hi) short
  exact (Common.reg_setReg_idx _ _ _ _ (by omega)).trans (Common.reg_foldl_setReg _ _ (by decide) listed c)

/-- The status, the instant and the count of switches are no part of the operational list. -/
theorem Common.operList_setReg (c : Common kd) (p v : Nat) {sub : Nat} (h : 4 % 256 ≠ sub % 256) :
    (c.setReg (0x14C0 + p) sub v).operList p = c.operList p := by
  have entry (i : Nat) : (c.setReg (0x14C0 + p) sub v).reg (0x1490 + p) (i + 1) = c.reg (0x1490 + p) (i + 1) :=
    Common.reg_setReg_idx _ _ _ _ (by omega)
  simp only [Common.operList, c.reg_setReg_sub v h, entry]

theorem Quiet.operList (h : Quiet c d) (hport : port < 48) : d.operList port = c.operList port := by
  have entry (i : Nat) : d.reg (0x1490 + port) i = c.reg (0x1490 + port) i :=
    h.reg _ _ (not_mem_accounting (by omega) (by omega))
  simp only [Common.operList, h.gateReg hport, entry]

/-- Beside the list itself a switch leaves the counter, the pending switches and the status. -/
structure Common.Switched (c d : Common kd) (port : Nat) (at_ : Ticks) (l : List Nat) : Prop where
  now : d.now = max c.now at_
  list : d.operList port = l
  status : d.reg (0x14C0 + port) 3 = 2
  pending : d.bud.gclPending = c.bud.gclPending.filter fun g => decide (g.1 ≠ port)

/-- The instant of a switch has arrived, and no switch of the port pends any more. -/
def Common.switchArrives (c : Common kd) (port : Nat) (at_ : Ticks) : Common kd :=
  { c.arrive at_ with bud := { c.bud with gclPending := c.bud.gclPending.filter fun g => decide (g.1 ≠ port) } }

theorem Common.gclSwitch_eq {at_ : Ticks}
    (pending : c.bud.gclPending.find? (fun g => decide (g.1 = port)) = some (port, at_, l)) :
    c.gclSwitch port = ((((c.switchArrives port at_).installList port l).setReg (0x14C0 + port) 3 2).setReg
      (0x14C0 + port) 2 0).bump (0x14C0 + port) 5 := by
  unfold Common.gclSwitch
  rw [pending]
  rfl

/-- The switch is made at its instant (log entry 9). -/
theorem Common.gclSwitch_switched {at_ : Ticks} (short : l.length ≤ 64)
    (pending : c.bud.gclPending.find? (fun g => decide (g.1 = port)) = some (port, at_, l)) :
    c.Switched (c.gclSwitch port) port at_ l := by
  obtain ⟨dict, installed⟩ := (c.switchArrives port at_).installList_eq port l
  rw [Common.gclSwitch_eq pending, Common.bump, Common.addReg]
  refine ⟨?now, ?list, ?status, ?pending⟩
  case now => exact congrArg Common.now installed
  case list =>
    rw [Common.operList_setReg _ _ _ (by decide), Common.operList_setReg _ _ _ (by decide),
      Common.operList_setReg _ _ _ (by decide), Common.operList_installList _ port short]
  case status =>
    rw [Common.reg_setReg_sub _ _ (by decide), Common.reg_setReg_sub _ _ (by decide), Common.reg_setReg_same]
  case pending => exact congrArg (fun d => d.bud.gclPending) installed

theorem gclSwitch_made {at_ : Ticks} (run : s.runs p = true) (hport : port < 48) (short : l.length ≤ 64)
    (pending : (s.com p).bud.gclPending.find? (fun g => decide (g.1 = port)) = some (port, at_, l)) :
    Gives (.gclSwitch p port) s fun t => (t.com p).now = max (s.com p).now at_ ∧ (t.com p).operList port = l ∧
      (t.com p).reg (0x14C0 + port) 3 = 2 ∧ ∀ g ∈ (t.com p).bud.gclPending, g.1 ≠ port := by
  obtain ⟨t, ht, after⟩ := com_onC (f := Common.gclSwitch port) run
  have switched := Common.gclSwitch_switched short pending
  refine ⟨t, ht, after.now.trans switched.now, (after.operList hport).trans switched.list,
    (after.gateReg hport 3).trans switched.status, fun g hg => ?_⟩
  rw [after.bud.gclPending, switched.pending] at hg
  exact of_decide_eq_true (List.mem_filter.mp hg).2

/-! ### Parity errors -/

theorem quiet_reportUnstated (c : Common kd) (detail : Nat) : Quiet c (c.reportUnstated detail) :=
  ((quiet_drawFree c 16).trans (quiet_drawFree _ 2)).trans (quiet_reportCode _ _ _ _)

theorem Common.mem_exhausted_budgetParity (c : Common kd) (cls : Nat) : cls ∈ (c.budgetParity cls).bud.exhausted := by
  unfold Common.budgetParity
  rw [(quiet_reportUnstated _ cls).bud.exhausted]
  exact mem_addNew cls _

theorem Common.mem_gclReset_gclParity (c : Common kd) (port : Nat) : port ∈ (c.gclParity port).bud.gclReset := by
  unfold Common.gclParity
  rw [(quiet_reportUnstated _ port).bud.gclReset]
  exact mem_addNew port _

theorem budgetParityError_exhausts (run : s.runs p = true) (cls : Nat) :
    Gives (.budgetParityError p cls) s fun t => cls ∈ (t.com p).bud.exhausted := by
  obtain ⟨t, ht, after⟩ := com_onC (f := Common.budgetParity cls) run
  have exhausted : cls ∈ (t.com p).bud.exhausted := after.bud.exhausted ▸ (s.com p).mem_exhausted_budgetParity cls
  exact ⟨t, ht, exhausted⟩

theorem gclParityError_marks (run : s.runs p = true) (port : Nat) :
    Gives (.gclParityError p port) s fun t => port ∈ (t.com p).bud.gclReset := by
  obtain ⟨t, ht, after⟩ := com_onC (f := Common.gclParity port) run
  have marked : port ∈ (t.com p).bud.gclReset := after.bud.gclReset ▸ (s.com p).mem_gclReset_gclParity port
  exact ⟨t, ht, marked⟩

/-- Settles O21: units by what the enforcer makes of an offer, writes by their rules, and a switch by the list it leaves. -/
theorem budgetsTakeEffect : Obligations.BudgetsTakeEffect := by
  refine ⟨?starts, ?waits, ?retried, ?amount, ?shape, ?submit, ?cancel, ?switch, ?exhausted, ?replaced⟩
  case starts =>
    intro s p u run ready speaks fits first linked
    exact unitReady_starts run ready speaks fits first linked
  case waits =>
    intro s p u run ready speaks possible short stalls
    exact unitReady_waits run ready speaks possible short stalls
  case retried =>
    intro s p u run one fits
    exact unitRetry_starts run one fits
  case amount =>
    intro s p r cls v class_ admits fit
    exact budAmountWrite_stored class_ admits fit
  case shape =>
    intro s p r port q v hport _ admits range
    exact budShapeWrite_stored hport admits range
  case submit =>
    intro s p r port v hport admits nonzero sound
    exact gclSwitchSubmit_pends hport admits nonzero sound
  case cancel =>
    intro s p r port hport admits pending
    exact gclSwitchCancel_cancels hport admits pending
  case switch =>
    intro s p port at_ l run hport short pending
    exact gclSwitch_made run hport short pending
  case exhausted =>
    intro s p cls run
    exact budgetParityError_exhausts run cls
  case replaced =>
    intro s p port run
    exact gclParityError_marks run port

end Sys2Proof.Machine
